-- ==== Sys2Proof/Word.lean ====
section
/-!
DEFINITION. The word types of the JKL-2560 and their plainest arithmetic. Multi-byte fields are little-endian (R5).
-/
namespace Sys2Proof

abbrev Byte := BitVec 8
abbrev U16 := BitVec 16
abbrev U32 := BitVec 32
abbrev U64 := BitVec 64

/-- The bits `lo .. lo+w-1` of a number. -/
def bitsOf (n lo w : Nat) : Nat := n / 2 ^ lo % 2 ^ w

/-- Bit `i` of a number. -/
def bitOf (n i : Nat) : Bool := n / 2 ^ i % 2 == 1

/-- Ceiling division; division by 0 is 0. -/
def cdiv (a b : Nat) : Nat := (a + b - 1) / b

/-- An unsigned counter of width `w` that stops at its largest value (R199). -/
def satAdd (w : Nat) (x : BitVec w) (k : Nat) : BitVec w :=
  if x.toNat + k < 2 ^ w then BitVec.ofNat w (x.toNat + k) else BitVec.allOnes w

/-- A number as `k` little-endian bytes (R5). -/
def toLE : (k : Nat) → Nat → List Byte
  | 0, _ => []
  | k + 1, n => BitVec.ofNat 8 n :: toLE k (n / 256)

/-- The number that little-endian bytes spell (R5). -/
def leNat : List Byte → Nat
  | [] => 0
  | b :: bs => b.toNat + 256 * leNat bs

/-- The number that big-endian bytes spell (R40, signature integers). -/
def beNat (bs : List Byte) : Nat := leNat bs.reverse

/-- A number read as a two's complement integer of width `w`. -/
def signedOf (w n : Nat) : Int :=
  if n % 2 ^ w < 2 ^ (w - 1) then ((n % 2 ^ w : Nat) : Int) else ((n % 2 ^ w : Nat) : Int) - ((2 ^ w : Nat) : Int)

/-- An integer as a `w`-bit two's complement number. -/
def unsignedOf (w : Nat) (i : Int) : Nat := (i % ((2 ^ w : Nat) : Int)).toNat

end Sys2Proof
end

