-- ==== Sys2Proof/Syntax.lean ====
section
/-!
DEFINITION. The commands of the JKL-2560: one constructor of `Instr` for each row of spec/opcode_table.json,
with the operands the row's rule gives it. An operand `t` is an instant in nanoseconds since the island supply was
established; a `cycle` counts tile cycles from the bell (04, Ground).
-/
namespace Sys2Proof

abbrev TileNo := Fin 256
abbrev PartNo := Fin 32
abbrev PortNo := Fin 8

/-- A principal: a path through which dictionary accesses arrive (Table PART-5). `vf n` is PCIe virtual function n + 1;
a gateway request acts as the principal that made it on the bellwether, so it is that principal here. -/
inductive Principal where
  | pf
  | vf (n : Fin 31)
  | usdo (c : Fin 2)
deriving DecidableEq, Repr

/-- How a dictionary write arrives: one write to the PCIe mirror, of `size` bytes (R256), or one whole access of USDO, the gateway
or an unowned RPDO (R304). -/
inductive WritePath where
  | mirror (offset : BitVec 24) (word : U32) (size : Nat)
  | whole (index : U16) (sub : Byte) (data : List Byte)
deriving DecidableEq, Repr

/-- The window of a function that a host access names (Table HOST-1): the mailbox window of BAR 2, or the memory window of BAR 4. -/
inductive WindowBar where
  | mailbox
  | memory
deriving DecidableEq, Repr

/-- Where a host access of a window begins (R254, R262). -/
structure WindowAt where
  bar : WindowBar
  offset : Nat
deriving DecidableEq, Repr

/-- A read of the mirror, of `size` bytes (R256). -/
structure MirrorAt where
  offset : BitVec 24
  size : Nat
deriving DecidableEq, Repr

/-- The plan image that a member receives. `reform` says that it follows a formation that command 2 asked for (log 157). -/
structure MemberImage where
  bytes : List Byte
  reform : Bool
deriving DecidableEq, Repr

/-- TINC flits that arrive in one tile cycle, by their mesh slot entries (R108). -/
structure TincArrival where
  cycle : Nat
  entries : List Nat
deriving DecidableEq, Repr

/-- The end of the pulse of a pin. -/
structure PulseEnd (n : Nat) where
  pin : Fin n
  t : Nat
deriving DecidableEq, Repr

/-- A write of an angle event's words with the arm bit clear (R346). -/
structure Disarm where
  event : Fin 128
  position : U16
  width : U16
deriving DecidableEq, Repr

/-- A SYNC that a controller consumes, and its counter byte, 0 where it carries none (R286). -/
structure SyncSeen where
  c : Fin 2
  counter : Byte
deriving DecidableEq, Repr

/-- Millivolts of a channel's terminals (R335). -/
structure TerminalMv where
  sh : Int
  dl : Int
deriving DecidableEq, Repr

/-- A read of the register window from address 0x00 on, at the sub-second value `subsec`, and `more` bytes after the first (R409). -/
structure WindowRead where
  subsec : BitVec 15
  more : BitVec 8
deriving DecidableEq, Repr

/-- What DMF finds as it starts: the straps (R446), and the tiles whose self-test failed at the cold reset (Table TILE-7). -/
structure StartReads where
  straps : BitVec 2
  failed : List TileNo
deriving DecidableEq, Repr

/-- A bell marker (Table DROVE-3, type 0x01). -/
structure Marker where
  hops : BitVec 4
  tier : BitVec 4
  switch : Bool
  stop : Bool
  restart : Bool
  target : BitVec 4
  bellsToTarget : Byte
  count : U32
  pathDelayNs : U16
deriving DecidableEq, Repr

/-- A link report (Table DROVE-3, type 0x03). `cause` is the detail of Table DROVE-8's causes (R244), 0 for none. -/
structure LinkReport where
  member : Fin 128
  port : PortNo
  state : Fin 5
  peer : Byte
  cause : Byte
  planIdLow : U32
deriving DecidableEq, Repr

/-- A 64-bit word with its poison flag (08, Ground). A flagged word's data is 0. -/
structure FWord where
  data : U64
  poison : Bool
deriving DecidableEq, Repr

/-- What the service cells of a gateway request or of its answer spell (R243; their payload is not in the manual, log 84): the member
asked, the principal, object, direction and data of the request, or the abort code and data of the answer. `route` are the ports still to
be taken, `back` the ports it came in on, last first. -/
structure Service where
  member : Fin 128
  principal : Principal
  object : U32
  write : Bool
  answer : Bool
  abort : U32
  data : U64
  route : List PortNo
  back : List PortNo
deriving DecidableEq, Repr

/-- A drove cell (Table DROVE-2). A service cell (kind 3) spells a gateway exchange. -/
structure Cell where
  flow : U16
  index : U16
  parity : Bool
  kind : Byte
  words : List FWord
  service : Option Service := none
deriving DecidableEq, Repr

/-- One discovered link of the domain's probe graph: two devices by serial number, their ports, and the measured hop
delay in ps (10, Domain formation). -/
structure GraphLink where
  a : U32
  aPort : PortNo
  b : U32
  bPort : PortNo
  hopPs : Nat
deriving DecidableEq, Repr

/-- A formation or training exchange (Table DROVE-3, type 0x05; R239, R248). -/
inductive Probe where
  /-- a probe of the bellwether, answered by a member and forwarded; `round` tells one formation from the next (log 84) -/
  | request (round : Nat)
  /-- a member's answer: who it is, whether it is strapped as bellwether, and its port map -/
  | reply (node : U32) (bellwether : Bool) (links : List GraphLink)
  /-- the member ID that the bellwether assigns to the device of serial number `node`, and that device's primary port -/
  | assign (node : U32) (member : Fin 128) (primary : PortNo)
  /-- phase 4 of link training: member ID, plan ID and bell count of the peer -/
  | peerInfo (member : Byte) (peerPort : PortNo) (planId : U64) (count : U64)
deriving DecidableEq, Repr

/-- The parts of a planned transfer that arrive as flits (R71). -/
inductive FlitPart where
  /-- a pushed flit, or a reply flit of a read, with its number within the entry's repetition -/
  | data (k : Nat)
  /-- the one-flit request of a read entry, usable at the responder -/
  | request
deriving DecidableEq, Repr

/-- A CAN frame with an 11-bit identifier (R276). `brs` and `esi` are the bits of an FD frame; `ext` and `remote` mark the frames the
device ignores. -/
structure CanFrame where
  ident : BitVec 11
  fd : Bool
  ext : Bool
  remote : Bool
  data : List Byte
  brs : Bool := false
  esi : Bool := false
deriving DecidableEq, Repr

/-- A USDO initiate request (CiA 1301; R284). -/
inductive UsdoReq where
  | upload (index : U16) (sub : Byte)
  | download (index : U16) (sub : Byte) (size : Nat) (first : List Byte)
  | badSpecifier
deriving DecidableEq, Repr

/-- A USDO frame, taken apart (CiA 1301; R284). -/
inductive UsdoFrame where
  | initiate (req : UsdoReq)
  | segment (data : List Byte) (last : Bool)
deriving DecidableEq, Repr

/-- How far a CAN transmission has come (R277, R278). -/
inductive TxEnd where
  /-- an arbitration starts with it -/
  | started
  /-- the frame was sent whole -/
  | sent
  /-- an error frame interrupted it -/
  | error
  /-- it lost arbitration -/
  | lost
  /-- it won arbitration: the sample point of its RRS bit has passed -/
  | won
deriving DecidableEq, Repr

/-- A received radio frame, already taken apart by the radio (R421, R423). The verdicts of the FCS and of the MIC are the
radio's own; `counter` is the 32-bit frame counter and `payload` what the frame deciphers to. -/
structure RadioFrame where
  fcsOk : Bool
  isData : Bool
  version1 : Bool
  panId : U16
  dest : U16
  panCompressed : Bool
  source : U64
  secLevel : BitVec 3
  keyMode : BitVec 2
  counter : U32
  micOk : Bool
  ackReq : Bool
  payload : List Byte
  rssi : Byte
deriving DecidableEq, Repr

/-- An input that can wake the main domain (Table CHRY-9), other than the alarm and the radio, which have rows of
their own. -/
inductive WakeInput where
  | wakeCan
  | gpio (n : Fin 4)
deriving DecidableEq, Repr

/-- A memory word that the environment disturbed since the last bell (08, Ground): memory (tile, 0x100 for LP5X, 0x110 for the
mailbox SRAM), word, and whether two bits flipped or one. -/
structure Upset where
  memory : Nat
  word : Nat
  double : Bool
deriving DecidableEq, Repr

/-- The commands. Each constructor is the row whose mnemonic LAWS.json gives. -/
inductive Instr where
  -- The Bell and the Tick, Plans and Tiers (01, 02)
  | bell (t : Nat) (stuck : List TileNo) (upsets : List Upset)
  | recoveryStep
  | bellOrphaned (t : Nat)
  | maintenanceSlotOpen (t : Nat)
  | pmbusPoll (faults : List (Fin 6))
  | vddCoreReadback (mv : Nat)
  | overrunGuard (t : Nat)
  | commit (binding : Nat) (t : Nat)
  | mandibleCmdOff (ch : Fin 8) (setpoint hold : U16)
  | mandibleCmdStart (ch : Fin 8) (setpoint hold : U16)
  | mandibleCmdUpdate (ch : Fin 8) (setpoint hold : U16)
  | mandibleCmdReverse (ch : Fin 8) (setpoint hold : U16)
  | mandibleCmdArm (ch : Fin 8) (setpoint hold : U16)
  | angleEventArm (s : Fin 128) (position width : U16)
  | angleEventDisarm (d : Disarm)
  | bellMarkerReceived (port : PortNo) (m : Marker) (crcOk : Bool) (errNs : Int)
  | bellInEdge (widthNs : Nat) (errNs : Int) (t : Nat)
  | bellInLoss
  | bellInStartTimeout (t : Nat)
  | bellOutPulseEnd
  | loadFromStaging (p : Principal)
  | loadFromBootFlash (p : Principal)
  | planStop (p : Principal)
  | memberImageReceived (image : MemberImage)
  | planVerificationDone (rejected : Option (Fin 128 × U16 × Byte)) (t : Nat)
  -- Tiles and the Mesh (03)
  | tileCmdQuarantine (p : Principal)
  | tileCmdReadmit (p : Principal)
  | tileCmdOutOfService (p : Principal)
  | readmissionSelfTestDone (tile : TileNo) (pass : Bool)
  | readmissionScrubDone (tile : TileNo)
  | readmissionLoadDone (tile : TileNo)
  | partitionRebuilt (p : PartNo)
  -- Tile Operations (04 to 07): each is the issue of the tile's next record
  | recordCompletion (tile : TileNo) (cycle : Nat)
  | nop (tile : TileNo) (cycle : Nat)
  | loop (tile : TileNo) (cycle : Nat)
  | mma (tile : TileNo) (cycle : Nat)
  | mmaSblk (tile : TileNo) (cycle : Nat)
  | mmaScoo (tile : TileNo) (cycle : Nat)
  | convw (tile : TileNo) (cycle : Nat)
  | mmaGate (tile : TileNo) (cycle : Nat)
  | vadd (tile : TileNo) (cycle : Nat)
  | vsub (tile : TileNo) (cycle : Nat)
  | vmul (tile : TileNo) (cycle : Nat)
  | vfma (tile : TileNo) (cycle : Nat)
  | vmax (tile : TileNo) (cycle : Nat)
  | vmin (tile : TileNo) (cycle : Nat)
  | vscale (tile : TileNo) (cycle : Nat)
  | vcvt (tile : TileNo) (cycle : Nat)
  | vsel (tile : TileNo) (cycle : Nat)
  | vabs (tile : TileNo) (cycle : Nat)
  | vexp (tile : TileNo) (cycle : Nat)
  | vlog (tile : TileNo) (cycle : Nat)
  | vrecip (tile : TileNo) (cycle : Nat)
  | vrsqrt (tile : TileNo) (cycle : Nat)
  | vsigm (tile : TileNo) (cycle : Nat)
  | vtanh (tile : TileNo) (cycle : Nat)
  | rsum (tile : TileNo) (cycle : Nat)
  | rmax (tile : TileNo) (cycle : Nat)
  | rlse (tile : TileNo) (cycle : Nat)
  | sgather (tile : TileNo) (cycle : Nat)
  | smxStep (tile : TileNo) (cycle : Nat)
  | smxMerge (tile : TileNo) (cycle : Nat)
  | smxFinal (tile : TileNo) (cycle : Nat)
  | merge (tile : TileNo) (cycle : Nat)
  | ixload (tile : TileNo) (cycle : Nat)
  | ixmatch (tile : TileNo) (cycle : Nat)
  | ixclear (tile : TileNo) (cycle : Nat)
  | dcopy (tile : TileNo) (cycle : Nat)
  | msend (tile : TileNo) (cycle : Nat)
  | mread (tile : TileNo) (cycle : Nat)
  | dsend (tile : TileNo) (cycle : Nat)
  | tinc (tile : TileNo) (cycle : Nat)
  | emit (tile : TileNo) (cycle : Nat)
  | renorm (tile : TileNo) (cycle : Nat)
  | fmap (tile : TileNo) (cycle : Nat)
  | plannedFlitArrival (entry rep : Nat) (part : FlitPart) (parity : Bool) (epoch : BitVec 2) (displaced : Bool)
  -- Partitions and Tallies, Memory and Integrity (09, 08)
  | tallyIncrementArrival (tally : Fin 4096) (arrival : TincArrival)
  | mailboxDataArrival (m : Fin 64) (len : Nat) (words : List FWord)
  | tallyIncrement (p : Principal) (amount : U16)
  | tallyClear (p : Principal)
  | partitionResetRequest (p : Principal) (part : PartNo)
  | forcedRefresh (c : Fin 4) (poisoned : Nat)
  | counterClear (p : Principal)
  -- Drove Links and the Flock (10)
  | droveCellReceived (port : PortNo) (slot : Nat) (cell : Cell) (crcOk : Bool)
  | demandBlockReceived (port : PortNo) (member : Fin 128) (word : U32) (crcOk : Bool)
  | linkReportReceived (port : PortNo) (report : LinkReport) (crcOk : Bool)
  | retryRequestReceived (port : PortNo) (slots : List Nat) (nowSlot : Nat) (crcOk : Bool)
  | retryCellSend (port : PortNo) (slot : Nat)
  | probeReceived (port : PortNo) (probe : Probe) (crcOk : Bool)
  | flowDeadline (entry : Nat)
  | portLockLost (port : PortNo)
  | portSignalDetected (port : PortNo)
  | portCmdTrain (p : Principal) (port : PortNo)
  | portCmdTakeDown (p : Principal) (port : PortNo)
  | portRetrainRetry (port : PortNo)
  | probationEnd (port : PortNo)
  | domainCmdForm (p : Principal)
  | domainCmdReform (p : Principal)
  | formationSettled
  | formationTimeout
  | gatewayRead (p : Principal)
  | gatewayWrite (p : Principal)
  | gatewayReply (p : Principal) (abort : U32) (data : U64)
  | gatewayTimeout (p : Principal)
  -- Host and Sensor Ports (11)
  | mirrorLowWordRead (p : Principal) (at_ : MirrorAt)
  | mirrorAbortRead (p : Principal)
  | memoryWindowRead (p : Principal) (at_ : WindowAt) (len : Nat)
  | memoryWindowWrite (p : Principal) (at_ : WindowAt) (data : List Byte) (ep : Bool)
  | functionLevelReset (p : Principal)
  | pcieFundamentalReset
  | mailboxAck (p : Principal) (m : Fin 64) (v : U32)
  | mailboxView (p : Principal) (m : Fin 64)
  | csiFrameStart (c : Fin 4) (vc : BitVec 2) (frame : U16) (t : Nat)
  | csiLineReceived (c : Fin 4) (vc : BitVec 2) (dataType : BitVec 6) (samples : List U16) (crcOk : Bool) (t : Nat)
  | ingestCutoff
  | captureDeadline (c : Fin 4)
  | camTrigPulseEnd (e : PulseEnd 4)
  -- Field Network (12)
  | canFrameReceived (c : Fin 2) (frame : CanFrame) (t : Nat)
  | rpdoReceived (n : Fin 32) (data : List Byte)
  | nmtStart (node : Byte)
  | nmtStop (node : Byte)
  | nmtEnterPreoperational (node : Byte)
  | nmtResetNode (node : Byte)
  | nmtResetCommunication (node : Byte)
  | usdoInitiate (c : Fin 2) (req : UsdoReq)
  | usdoSegment (c : Fin 2) (data : List Byte) (last : Bool)
  | usdoSegmentTimeout (c : Fin 2)
  | syncConsumed (x : SyncSeen)
  | heartbeatProduce
  | heartbeatConsumerTimeout (k : Fin 8)
  | emcyInhibitExpiry
  | tpdoEventTimer (n : Fin 32)
  | rpdoEventTimeout (n : Fin 32)
  | canTxDone (c : Fin 2) (ident : BitVec 11) (result : TxEnd)
  | canAbortCommand (p : Principal) (c : Fin 2)
  | clearErrorRegister (p : Principal)
  | canBusOff (c : Fin 2)
  | busOffRecoveryStart (c : Fin 2)
  | busOffRecoveryDone (c : Fin 2)
  | sleepVote (p : Principal) (controllers : BitVec 2)
  | sleepCancel (p : Principal)
  | sleepQuietInstant (t : Nat)
  | sleepArmed (t : Nat)
  | sleepPnr (t : Nat)
  -- Mandible Drivers (14)
  | mandibleDirectOff (p : Principal) (ch : Fin 8)
  | mandibleDirectStart (p : Principal) (ch : Fin 8)
  | mandibleDirectSafeState (p : Principal) (ch : Fin 8)
  | mandibleFaultClear (p : Principal) (ch : Fin 8)
  | currentSample (ch : Fin 8) (mA : Int) (t : Nat)
  | phaseEnd (ch : Fin 8) (t : Nat)
  | coilThermalUpdate (ch : Fin 8)
  | dutyUpdate (ch : Fin 8)
  | offStateProbe (ch : Fin 8) (mv : TerminalMv) (t : Nat)
  | onStateOpenLoad (ch : Fin 8)
  | desatBlankingEnd (ch : Fin 8) (vdsMv : Nat)
  | shuntComparatorTrip (ch : Fin 8)
  | boostOvervoltage (mv platformMv : Nat)
  -- Angle Engine and Limit Inputs (15)
  | wheelEdge (w : Fin 2) (t : Nat)
  | toothInference (w : Fin 2) (t : Nat)
  | angleEventFire (w : Fin 2) (e : Fin 64) (t : Nat)
  | angOutPulseEnd (e : PulseEnd 8)
  | limitTransition (i : Fin 16) (high : Bool) (t : Nat)
  | limitDebounceExpiry (i : Fin 16) (t : Nat)
  | limitChatterClear (i : Fin 16) (t : Nat)
  | limitTripClear (p : Principal) (i : Fin 16)
  | homingStart (p : Principal) (a : Fin 8) (t : Nat)
  | homingAbort (p : Principal) (a : Fin 8)
  | homingVelocityFrame (a : Fin 8)
  | homingDriveFrame (a : Fin 8) (status : U16) (position : U32) (t : Nat)
  | homingDriveTimeout (a : Fin 8) (t : Nat)
  -- Power and Shedding (16)
  | vplatSample (code : BitVec 12) (t : Nat)
  | shedStageFall (t : Nat)
  | comparatorATrip (t : Nat)
  | comparatorBTrip (t : Nat)
  | railPgLost (rail : Fin 6)
  | railFailureRetry
  | railSequenceStep
  | powerDownStep
  | wakePgTimeout
  | wakeReferenceTimeout
  | wakeAttemptRetry
  | referenceValid
  -- Thermal and Cooling (17)
  | thermalSample (sensor : Fin 264) (reading : Option Int)
  | thermalTrip (sensor : Fin 264) (reading : Int)
  | tripCooldownEnd
  | flowUpdate (inletCenti outletCenti : Option Int) (t : Nat)
  | coolantFlowLow
  -- Chrysalis Domain (18)
  | coldReset (vddAux : Bool)
  | supplySwitch (vddAuxMv vstoreMv : Nat)
  | storeCutoff
  | storeRelease
  | storeLowWarning
  | storeOvercurrent
  | pvMpptSample (vocMv : Nat) (harvestedUw : Nat)
  | chrInterfaceLocked (vddAuxMv : Nat)
  | chrysalisStatusRead (p : Principal) (auxGood10ms : Bool)
  | calendarWrite (p : Principal) (value : U64)
  | calendarCarry
  | crystalFault
  | crystalRecovered
  | windowFreezeLatch (read : WindowRead)
  | windowFreezeRelease
  | windowShadowExpiry
  | wakeSourceFire (input : WakeInput) (t : Nat)
  | powerDownComplete
  -- Startup, Resets and Events (20)
  | bootRomStart (flashSilent : Bool)
  | dmfStart (reads : StartReads)
  | lp5xTrainingDone (failed : List (Fin 4))
  | recoveryErase
  | recoveryProgramWord
  | recoveryReadWord
  | recoveryProgramKeySlot
  | recoveryRevokeKeySlot
  | recoveryRestart
  -- Cicada Radio (19)
  | sniffSlot (activity : Bool) (t : Nat)
  | radioRxIdleTimeout (t : Nat)
  | radioFrameReceived (f : RadioFrame) (t : Nat)
  | radioWakeRequest (source : U64) (rssi : Byte) (t : Nat)
  | radioHaltRequest (source : U64) (rssi : Byte)
  | radioLocate (source : U64) (rssi : Byte) (ackReq : Bool)
  | radioAckSend (t : Nat)
  | statusBeaconSend (t : Nat)
  | faultBeaconTimer (t : Nat)
  | networkKeyWrite (p : Principal) (key : BitVec 128)
  -- Object Dictionary (13)
  | logClear (p : Principal)
  | indirectRead (p : Principal)
  | indirectWrite (p : Principal)
  | odWrite (p : Principal) (path : WritePath)
  -- the table's last rows
  | referenceClockFailure
  | desatComparatorTrip (ch : Fin 8) (highSide : Bool)
  | storeSwitchReclose
  | flow0Edge (t : Nat)
  | dramRefreshRateChange (c : Fin 4) (higher : Bool)
  | canBusError (c : Fin 2) (tec rec : Byte)
  | chargeTargetReached
  | chargeResume
  | chargeTemperatureWindow (ntcTenths : Option Int)
  | tegBoosterThreshold (mv : Nat)
  | vchgPresenceChange (present : Bool)
  | radioStatusRead (p : Principal)
  | storeStatusRead (p : Principal)
deriving DecidableEq, Repr

end Sys2Proof
end

