-- ==== Sys2Proof/Decode.lean ====
section
/-!
DEFINITION. The commands that a word spells: none. The opcode table gives its rows no bits, because each is an operation on a
port, a register or an engine and not a word the block reads (log 50).
-/
namespace Sys2Proof

/-- The command that the low `nbits` bits of `w` spell by the table's bits. No row has any. -/
def decodeTableWord (_nbits _w : Nat) : Option Instr := none

end Sys2Proof
end

