-- ==== Sys2Proof/Config.lean ====
section
/-!
DEFINITION. The free values: what the manual leaves open, as constants without a body. A statement about one of them holds for
every value (log 1 and the entries it names).
-/
namespace Sys2Proof.Config

/-- Free value number `k` of a run (log 1). -/
opaque freeValue : Nat → BitVec 64

/-- Which of the two neighbouring whole numbers a read-out shows where it is a rounded measure and the manual names no rounding: the
read-out and its key (log 10). -/
opaque roundsUp : Nat → Nat → Bool

/-- SHA-256 (FIPS 180), which the manual names and does not restate (log 11). -/
opaque sha256 : List (BitVec 8) → BitVec 256

/-- ECDSA P-256 verification (FIPS 186): key X then Y, digest, r then s (log 11). -/
opaque ecdsaP256 : List (BitVec 8) → BitVec 256 → List (BitVec 8) → Bool

/-- AES-128 CCM protection of a radio payload (IEEE 802.15.4): key, nonce counter, header, payload (log 11). -/
opaque aesCcm : BitVec 128 → BitVec 32 → List (BitVec 8) → List (BitVec 8) → List (BitVec 8)

/-- Finite results of the transcendental operations (R133): operation code, FP32 operand (log 12). -/
opaque transcendental : BitVec 8 → BitVec 32 → BitVec 32

/-- The order in which the additions of one row are made, which the manual does not state (R102, R103): the two of `n` terms
that are added next (log 70). -/
opaque sumPick : Nat → Nat × Nat

/-- The 16-byte unit of the destination tile where a drove receive entry's data begin, which the plan image does not name (R231;
log 78): plan ID, entry. -/
opaque receiveUnit : Nat → Nat → Nat

/-- A vector engine result the manual does not state: opcode, 32-bit operands (log 71). -/
opaque vectorOpen : Nat → List (BitVec 32) → BitVec 32

/-- The code of element `e` of CONVW's expanded matrix under TRANS_A, given the window word and the codes of A (R89, R125; log 176). -/
opaque transposedMap : Nat → List Nat → Nat → BitVec 32

/-- The bytes of a USDO answer (CiA 1301, which the manual does not repeat; R284; log 97): abort code, data. -/
opaque usdoAnswer : Nat → List Byte → List Byte

/-- What the bytes of a frame with the USDO request identifier say (CiA 1301; R284; log 97). -/
opaque usdoRequest : List Byte → Option UsdoFrame

/-- How a member's rate estimate moves at a valid marker (R12): old estimate, phase error in ns (log 6). -/
opaque rateUpdate : Int → Int → Int

/-- How many cycles after its record's issue DMF's microcode makes a planned SRAM access (R39, R67; log 175): plan ID, tier, bell of the
rotation, number of the access. -/
opaque bankCycle : Nat → Nat → Nat → Nat → Nat

/-- The channel of LP5X that holds a usable address, given the usable capacity (R187; log 15). -/
opaque lp5xChannel : Nat → Nat → Fin 4

/-- The byte of its channel that holds a usable address, given the usable capacity (R187; log 15). -/
opaque lp5xOffset : Nat → Nat → Nat

/-- The exponential of a rational, as the thermal model's step needs it (R390; log 16). -/
opaque expRat : Rat → Rat

end Sys2Proof.Config
end

