-- ==== Sys2Proof/Machine/OdTable.lean ====
section
/-!
DEFINITION. The objects of the dictionary with their attributes (13, Tables OD-4 to OD-11; R300, R301, R305, R310), and the
value ranges that one object alone fixes. Rules that join several objects stand in Machine/Access.lean.
-/
namespace Sys2Proof.Machine

/-- Access classes (Table OD-2). -/
inductive Acc where
  | const
  | ro
  | rw
  | wo
  | rwb
  | rwl
deriving DecidableEq, Repr

/-- Owner codes (Table OD-3). -/
inductive Own where
  | c
  | w
  | pf
  | p
  | mb
  | t
  | a
deriving DecidableEq, Repr

/-- How an object's bytes are read (Table OD-1). -/
inductive Kind where
  | u
  | i
  | os
deriving DecidableEq, Repr

/-- A row: indexes `lo` to `hi`, subindexes `sub` to `subHi`. `mask` has the bits that are not reserved (R6); `dflt` is the value
after cold reset as the object's bytes; `pdo` is the flag M, `grant` the flag G. -/
structure OdRow where
  lo : Nat
  hi : Nat
  sub : Nat
  subHi : Nat
  kind : Kind
  bytes : Nat
  acc : Acc
  own : Own
  dflt : Nat := 0
  min : Int := 0
  max : Int := (2 : Int) ^ 512
  mask : Nat := 2 ^ 512 - 1
  pdo : Bool := false
  grant : Bool := false
deriving DecidableEq, Repr

/-- Bits of the profile object that are not reserved (Tables MAND-2, MAND-3): six records of 7 bytes, whose bit [7] and last byte are
reserved, then 3 bytes of coil data; the last 3 bytes are reserved. -/
def profileMask : Nat :=
  0xFFFFFFFFFF7F * (1 + 2 ^ 56 + 2 ^ 112 + 2 ^ 168 + 2 ^ 224 + 2 ^ 280) + 0xFFFFFF * 2 ^ 336

/-- Bits of a halt frame that are not reserved (Table ANGLE-3): all but bits [15:11] of its first field. -/
def haltFrameMask : Nat := 2 ^ 128 - 1 - 0xF800

/-- Table OD-4. The parameters of PDOs have the layout of CiA 1301 (PRESUMED, log 20). -/
def odRows4 : List OdRow :=
  [ ⟨0x1000, 0x1000, 0, 0, .u, 4, .const, .c, 0, 0, 0, 2 ^ 32 - 1, false, false⟩,
    { lo := 0x1001, hi := 0x1001, sub := 0, subHi := 0, kind := .u, bytes := 1, acc := .ro, own := .c, pdo := true },
    { lo := 0x1005, hi := 0x1005, sub := 0, subHi := 0, kind := .u, bytes := 4, acc := .rw, own := .w, dflt := 0x80,
      mask := 0x400007FF },
    { lo := 0x1006, hi := 0x1006, sub := 0, subHi := 0, kind := .u, bytes := 4, acc := .ro, own := .c },
    { lo := 0x1012, hi := 0x1012, sub := 0, subHi := 0, kind := .u, bytes := 4, acc := .rw, own := .w, dflt := 0x100,
      mask := 0x400007FF },
    { lo := 0x1014, hi := 0x1014, sub := 0, subHi := 0, kind := .u, bytes := 4, acc := .rw, own := .w, mask := 0x7FF },
    { lo := 0x1015, hi := 0x1015, sub := 0, subHi := 0, kind := .u, bytes := 2, acc := .rw, own := .w },
    { lo := 0x1016, hi := 0x1016, sub := 1, subHi := 8, kind := .u, bytes := 4, acc := .rw, own := .w, mask := 0xFFFFFF },
    { lo := 0x1017, hi := 0x1017, sub := 0, subHi := 0, kind := .u, bytes := 2, acc := .rw, own := .w },
    { lo := 0x1018, hi := 0x1018, sub := 1, subHi := 2, kind := .u, bytes := 4, acc := .const, own := .c },
    { lo := 0x1018, hi := 0x1018, sub := 3, subHi := 3, kind := .u, bytes := 4, acc := .ro, own := .c },
    { lo := 0x1018, hi := 0x1018, sub := 4, subHi := 4, kind := .u, bytes := 4, acc := .const, own := .c },
    { lo := 0x1019, hi := 0x1019, sub := 0, subHi := 0, kind := .u, bytes := 1, acc := .rwl, own := .w, max := 240 },
    { lo := 0x1029, hi := 0x1029, sub := 1, subHi := 1, kind := .u, bytes := 1, acc := .rw, own := .w, dflt := 1, max := 2 } ]

def odRowsPdo : List OdRow :=
  [ { lo := 0x1400, hi := 0x141F, sub := 0, subHi := 0, kind := .u, bytes := 1, acc := .const, own := .w, dflt := 5 },
    { lo := 0x1400, hi := 0x141F, sub := 1, subHi := 1, kind := .u, bytes := 4, acc := .rw, own := .w },
    { lo := 0x1400, hi := 0x141F, sub := 2, subHi := 2, kind := .u, bytes := 1, acc := .rw, own := .w, dflt := 254 },
    { lo := 0x1400, hi := 0x141F, sub := 3, subHi := 3, kind := .u, bytes := 2, acc := .rw, own := .w },
    { lo := 0x1400, hi := 0x141F, sub := 5, subHi := 5, kind := .u, bytes := 2, acc := .rw, own := .w },
    { lo := 0x1600, hi := 0x161F, sub := 0, subHi := 0, kind := .u, bytes := 1, acc := .rw, own := .w, max := 64 },
    { lo := 0x1600, hi := 0x161F, sub := 1, subHi := 64, kind := .u, bytes := 4, acc := .rw, own := .w },
    { lo := 0x1800, hi := 0x181F, sub := 0, subHi := 0, kind := .u, bytes := 1, acc := .const, own := .w, dflt := 6 },
    { lo := 0x1800, hi := 0x181F, sub := 1, subHi := 1, kind := .u, bytes := 4, acc := .rw, own := .w },
    { lo := 0x1800, hi := 0x181F, sub := 2, subHi := 2, kind := .u, bytes := 1, acc := .rw, own := .w, dflt := 254 },
    { lo := 0x1800, hi := 0x181F, sub := 3, subHi := 3, kind := .u, bytes := 2, acc := .rw, own := .w },
    { lo := 0x1800, hi := 0x181F, sub := 5, subHi := 5, kind := .u, bytes := 2, acc := .rw, own := .w },
    { lo := 0x1800, hi := 0x181F, sub := 6, subHi := 6, kind := .u, bytes := 1, acc := .rw, own := .w, max := 240 },
    { lo := 0x1A00, hi := 0x1A1F, sub := 0, subHi := 0, kind := .u, bytes := 1, acc := .rw, own := .w, max := 64 },
    { lo := 0x1A00, hi := 0x1A1F, sub := 1, subHi := 64, kind := .u, bytes := 4, acc := .rw, own := .w } ]

/-- Table OD-5. -/
def odRows5 : List OdRow :=
  [ { lo := 0x2000, hi := 0x2000, sub := 1, subHi := 1, kind := .u, bytes := 4, acc := .const, own := .c },
    { lo := 0x2000, hi := 0x2000, sub := 2, subHi := 2, kind := .u, bytes := 2, acc := .const, own := .c },
    { lo := 0x2000, hi := 0x2000, sub := 3, subHi := 4, kind := .u, bytes := 1, acc := .ro, own := .c },
    { lo := 0x2000, hi := 0x2000, sub := 5, subHi := 5, kind := .u, bytes := 4, acc := .ro, own := .c },
    { lo := 0x2001, hi := 0x2001, sub := 1, subHi := 1, kind := .u, bytes := 1, acc := .rwb, own := .pf, max := 31 },
    { lo := 0x2001, hi := 0x2001, sub := 2, subHi := 2, kind := .u, bytes := 1, acc := .rwb, own := .pf },
    { lo := 0x2100, hi := 0x2100, sub := 1, subHi := 1, kind := .u, bytes := 2, acc := .rwl, own := .w, dflt := 2500,
      min := 500, max := 20000 },
    { lo := 0x2100, hi := 0x2100, sub := 2, subHi := 2, kind := .u, bytes := 2, acc := .rwl, own := .w, dflt := 100,
      min := 20, max := 2000 },
    { lo := 0x2100, hi := 0x2100, sub := 3, subHi := 3, kind := .u, bytes := 8, acc := .ro, own := .c, pdo := true },
    { lo := 0x2100, hi := 0x2100, sub := 4, subHi := 4, kind := .u, bytes := 2, acc := .ro, own := .c },
    { lo := 0x2100, hi := 0x2100, sub := 5, subHi := 5, kind := .u, bytes := 1, acc := .rwb, own := .w },
    { lo := 0x2100, hi := 0x2100, sub := 6, subHi := 6, kind := .u, bytes := 1, acc := .rwl, own := .w, dflt := 2,
      min := 2, max := 20 },
    { lo := 0x2100, hi := 0x2100, sub := 7, subHi := 7, kind := .u, bytes := 1, acc := .ro, own := .c },
    { lo := 0x2100, hi := 0x2100, sub := 8, subHi := 8, kind := .u, bytes := 1, acc := .rwl, own := .w, mask := 0xD },
    { lo := 0x2200, hi := 0x2200, sub := 1, subHi := 1, kind := .u, bytes := 8, acc := .ro, own := .c },
    { lo := 0x2200, hi := 0x2200, sub := 2, subHi := 2, kind := .u, bytes := 1, acc := .ro, own := .c },
    { lo := 0x2200, hi := 0x2200, sub := 3, subHi := 3, kind := .u, bytes := 1, acc := .wo, own := .w, min := 1, max := 3 },
    { lo := 0x2200, hi := 0x2200, sub := 4, subHi := 4, kind := .u, bytes := 1, acc := .ro, own := .c },
    { lo := 0x2200, hi := 0x2200, sub := 5, subHi := 6, kind := .u, bytes := 4, acc := .rw, own := .w },
    { lo := 0x2200, hi := 0x2200, sub := 7, subHi := 7, kind := .u, bytes := 4, acc := .ro, own := .c },
    { lo := 0x2200, hi := 0x2200, sub := 8, subHi := 8, kind := .u, bytes := 1, acc := .ro, own := .c },
    { lo := 0x2210, hi := 0x2210, sub := 1, subHi := 1, kind := .u, bytes := 1, acc := .rwb, own := .w, max := 7 },
    { lo := 0x2210, hi := 0x2210, sub := 2, subHi := 2, kind := .u, bytes := 1, acc := .rwb, own := .w, dflt := 7, max := 7 },
    { lo := 0x2210, hi := 0x2210, sub := 3, subHi := 3, kind := .u, bytes := 1, acc := .ro, own := .c, pdo := true },
    { lo := 0x2210, hi := 0x2210, sub := 4, subHi := 4, kind := .u, bytes := 4, acc := .ro, own := .c },
    { lo := 0x2210, hi := 0x2210, sub := 5, subHi := 5, kind := .u, bytes := 2, acc := .rwb, own := .w, dflt := 200, min := 1 },
    { lo := 0x2210, hi := 0x2210, sub := 6, subHi := 6, kind := .u, bytes := 4, acc := .rwb, own := .w, dflt := 95000,
      max := 95000 } ]

/-- Table OD-6. -/
def odRows6 : List OdRow :=
  [ { lo := 0x2300, hi := 0x231F, sub := 1, subHi := 3, kind := .u, bytes := 1, acc := .ro, own := .p },
    { lo := 0x2300, hi := 0x231F, sub := 4, subHi := 4, kind := .u, bytes := 4, acc := .ro, own := .p },
    { lo := 0x2300, hi := 0x231F, sub := 5, subHi := 7, kind := .u, bytes := 2, acc := .ro, own := .p },
    { lo := 0x2300, hi := 0x231F, sub := 8, subHi := 8, kind := .u, bytes := 1, acc := .wo, own := .w, min := 1, max := 1 },
    { lo := 0x2300, hi := 0x231F, sub := 9, subHi := 9, kind := .u, bytes := 4, acc := .ro, own := .p },
    { lo := 0x2300, hi := 0x2300, sub := 0x20, subHi := 0x20, kind := .u, bytes := 4, acc := .rwl, own := .w,
      dflt := 0x7E3E7C00, mask := 0xFFFFFCFF },
    { lo := 0x2300, hi := 0x2300, sub := 0x22, subHi := 0x22, kind := .u, bytes := 4, acc := .rwl, own := .w,
      dflt := 0x7E3E7C00, mask := 0xFFFFFCFF },
    { lo := 0x2300, hi := 0x2300, sub := 0x21, subHi := 0x21, kind := .u, bytes := 4, acc := .rwl, own := .w,
      dflt := 0xF3B80000, mask := 0xFFFFF81F },
    { lo := 0x2300, hi := 0x2300, sub := 0x23, subHi := 0x23, kind := .u, bytes := 4, acc := .rwl, own := .w,
      dflt := 0xF3B80000, mask := 0xFFFFF81F },
    { lo := 0x2300, hi := 0x2300, sub := 0x24, subHi := 0x24, kind := .u, bytes := 1, acc := .rwl, own := .w, dflt := 64,
      min := 1, max := 127 },
    { lo := 0x2300, hi := 0x2300, sub := 0x25, subHi := 0x25, kind := .u, bytes := 1, acc := .rwl, own := .w, dflt := 0x0F },
    { lo := 0x2300, hi := 0x2300, sub := 0x26, subHi := 0x27, kind := .u, bytes := 4, acc := .rwl, own := .w },
    { lo := 0x2300, hi := 0x2300, sub := 0x28, subHi := 0x29, kind := .u, bytes := 4, acc := .ro, own := .c },
    { lo := 0x2300, hi := 0x2300, sub := 0x2A, subHi := 0x2A, kind := .u, bytes := 2, acc := .rw, own := .w, dflt := 100 },
    { lo := 0x2300, hi := 0x2300, sub := 0x2B, subHi := 0x2B, kind := .u, bytes := 2, acc := .rw, own := .w, dflt := 1,
      min := 1, max := 3600 },
    { lo := 0x2300, hi := 0x2300, sub := 0x2C, subHi := 0x2C, kind := .u, bytes := 1, acc := .wo, own := .w, mask := 0x13 },
    { lo := 0x2300, hi := 0x2300, sub := 0x2D, subHi := 0x2D, kind := .u, bytes := 1, acc := .rwl, own := .w, max := 1 },
    { lo := 0x2300, hi := 0x2300, sub := 0x30, subHi := 0x30, kind := .u, bytes := 1, acc := .rw, own := .w, mask := 7 },
    { lo := 0x2300, hi := 0x2300, sub := 0x31, subHi := 0x31, kind := .u, bytes := 4, acc := .rw, own := .w,
      dflt := 0x80000000, mask := 0x800007FF },
    { lo := 0x2300, hi := 0x2300, sub := 0x32, subHi := 0x32, kind := .u, bytes := 2, acc := .rw, own := .w, mask := 0x7FF },
    { lo := 0x2300, hi := 0x2300, sub := 0x33, subHi := 0x33, kind := .u, bytes := 2, acc := .rw, own := .w, dflt := 0x7FF,
      mask := 0x7FF },
    { lo := 0x2300, hi := 0x2300, sub := 0x34, subHi := 0x34, kind := .u, bytes := 2, acc := .rw, own := .w, dflt := 200,
      min := 1, max := 10000 },
    { lo := 0x2300, hi := 0x2300, sub := 0x35, subHi := 0x35, kind := .u, bytes := 1, acc := .ro, own := .c },
    { lo := 0x2300, hi := 0x2300, sub := 0x40, subHi := 0x5F, kind := .os, bytes := 64, acc := .rw, own := .w },
    { lo := 0x2300, hi := 0x2300, sub := 0x60, subHi := 0x7F, kind := .u, bytes := 4, acc := .rwl, own := .w,
      dflt := 0xFF000000 } ]

/-- The four camera objects of Table OD-6, camera `c` (Table HOST-5). -/
def odRowsCam (c : Nat) : List OdRow :=
  [ { lo := 0x2300, hi := 0x2300, sub := 0x10 + 4 * c, subHi := 0x10 + 4 * c, kind := .u, bytes := 4, acc := .rwl, own := .w,
      mask := 0xFFFF3FCD },
    { lo := 0x2300, hi := 0x2300, sub := 0x11 + 4 * c, subHi := 0x12 + 4 * c, kind := .u, bytes := 4, acc := .rwl, own := .w },
    { lo := 0x2300, hi := 0x2300, sub := 0x13 + 4 * c, subHi := 0x13 + 4 * c, kind := .u, bytes := 4, acc := .rwl, own := .w,
      dflt := 0xA, mask := 0x1FFFF } ]

/-- The shed thresholds of Table OD-7, stage `k` from 1. -/
def odRowsShed (k : Nat) (fall rise : Nat) : List OdRow :=
  [ { lo := 0x2401, hi := 0x2401, sub := k, subHi := k, kind := .u, bytes := 4, acc := .rwb, own := .w, dflt := fall,
      max := 100000 },
    { lo := 0x2402, hi := 0x2402, sub := k, subHi := k, kind := .u, bytes := 4, acc := .rwb, own := .w, dflt := rise,
      max := 100000 } ]

/-- Table OD-7. The shed map's default is set by plan load. -/
def odRows7 : List OdRow :=
  [ { lo := 0x2400, hi := 0x2400, sub := 1, subHi := 1, kind := .u, bytes := 1, acc := .ro, own := .c, pdo := true },
    { lo := 0x2400, hi := 0x2400, sub := 2, subHi := 2, kind := .u, bytes := 4, acc := .ro, own := .c },
    { lo := 0x2403, hi := 0x2403, sub := 0, subHi := 0, kind := .u, bytes := 2, acc := .rw, own := .w, dflt := 2000,
      min := 100, max := 60000 },
    { lo := 0x2404, hi := 0x2404, sub := 1, subHi := 4, kind := .u, bytes := 1, acc := .rwb, own := .w, max := 7 },
    { lo := 0x2405, hi := 0x2405, sub := 1, subHi := 1, kind := .u, bytes := 2, acc := .rwl, own := .w, dflt := 2500,
      min := 100, max := 10000 },
    { lo := 0x2405, hi := 0x2405, sub := 2, subHi := 2, kind := .i, bytes := 2, acc := .rwl, own := .w, min := -1000,
      max := 1000 },
    { lo := 0x2500, hi := 0x2500, sub := 1, subHi := 1, kind := .i, bytes := 2, acc := .ro, own := .c, pdo := true },
    { lo := 0x2500, hi := 0x2500, sub := 2, subHi := 2, kind := .u, bytes := 1, acc := .rwb, own := .w, dflt := 100,
      min := 85, max := 103 },
    { lo := 0x2500, hi := 0x2500, sub := 3, subHi := 3, kind := .u, bytes := 1, acc := .rwl, own := .w, dflt := 64,
      min := 16, max := 128 },
    { lo := 0x2500, hi := 0x2500, sub := 4, subHi := 4, kind := .u, bytes := 1, acc := .ro, own := .c },
    { lo := 0x2500, hi := 0x2500, sub := 5, subHi := 5, kind := .i, bytes := 2, acc := .ro, own := .c },
    { lo := 0x2500, hi := 0x2500, sub := 6, subHi := 6, kind := .u, bytes := 1, acc := .const, own := .c, dflt := 105 },
    { lo := 0x2500, hi := 0x2500, sub := 7, subHi := 7, kind := .u, bytes := 1, acc := .const, own := .c, dflt := 115 },
    { lo := 0x2510, hi := 0x2510, sub := 1, subHi := 2, kind := .i, bytes := 2, acc := .ro, own := .c },
    { lo := 0x2510, hi := 0x2510, sub := 3, subHi := 3, kind := .u, bytes := 4, acc := .ro, own := .c, pdo := true },
    { lo := 0x2510, hi := 0x2510, sub := 4, subHi := 4, kind := .u, bytes := 4, acc := .rw, own := .w, dflt := 2000,
      min := 1, max := 100000 },
    { lo := 0x2510, hi := 0x2510, sub := 5, subHi := 5, kind := .u, bytes := 4, acc := .rw, own := .w, dflt := 600,
      max := 20000 },
    { lo := 0x2510, hi := 0x2510, sub := 6, subHi := 6, kind := .u, bytes := 2, acc := .rw, own := .w, dflt := 4180,
      min := 1000, max := 5000 },
    { lo := 0x2510, hi := 0x2510, sub := 7, subHi := 7, kind := .u, bytes := 2, acc := .rw, own := .w, dflt := 998,
      min := 500, max := 1500 },
    { lo := 0x2510, hi := 0x2510, sub := 8, subHi := 8, kind := .u, bytes := 4, acc := .ro, own := .c },
    { lo := 0x2600, hi := 0x2600, sub := 1, subHi := 6, kind := .u, bytes := 4, acc := .ro, own := .c },
    { lo := 0x2600, hi := 0x2600, sub := 7, subHi := 7, kind := .u, bytes := 1, acc := .wo, own := .w, min := 1, max := 1 },
    { lo := 0x2610, hi := 0x2610, sub := 1, subHi := 1, kind := .u, bytes := 1, acc := .rw, own := .w, dflt := 1, max := 1 },
    { lo := 0x2610, hi := 0x2610, sub := 2, subHi := 2, kind := .u, bytes := 2, acc := .rw, own := .w, dflt := 4096,
      min := 1 },
    { lo := 0x2610, hi := 0x2610, sub := 3, subHi := 3, kind := .u, bytes := 4, acc := .rw, own := .w, dflt := 262144,
      min := 4096, max := 16777216 },
    { lo := 0x2610, hi := 0x2610, sub := 4, subHi := 5, kind := .u, bytes := 4, acc := .ro, own := .c },
    { lo := 0x2610, hi := 0x2610, sub := 6, subHi := 6, kind := .u, bytes := 1, acc := .ro, own := .c },
    { lo := 0x2620, hi := 0x2620, sub := 1, subHi := 1, kind := .u, bytes := 1, acc := .rw, own := .w },
    { lo := 0x2620, hi := 0x2620, sub := 2, subHi := 2, kind := .u, bytes := 2, acc := .ro, own := .w },
    { lo := 0x2620, hi := 0x2620, sub := 3, subHi := 3, kind := .u, bytes := 1, acc := .wo, own := .w, min := 1, max := 3 },
    { lo := 0x2620, hi := 0x2620, sub := 4, subHi := 4, kind := .u, bytes := 1, acc := .rw, own := .w, max := 15 },
    { lo := 0x2620, hi := 0x2620, sub := 5, subHi := 9, kind := .u, bytes := 4, acc := .ro, own := .w } ]

/-- Table OD-8. -/
def odRows8 : List OdRow :=
  [ { lo := 0x2700, hi := 0x2707, sub := 1, subHi := 1, kind := .u, bytes := 1, acc := .ro, own := .c },
    { lo := 0x2700, hi := 0x2707, sub := 2, subHi := 2, kind := .u, bytes := 2, acc := .ro, own := .c },
    { lo := 0x2700, hi := 0x2707, sub := 3, subHi := 6, kind := .u, bytes := 4, acc := .ro, own := .c },
    { lo := 0x2700, hi := 0x2707, sub := 7, subHi := 7, kind := .u, bytes := 1, acc := .ro, own := .c },
    { lo := 0x2700, hi := 0x2707, sub := 8, subHi := 8, kind := .u, bytes := 2, acc := .ro, own := .c },
    { lo := 0x2700, hi := 0x2707, sub := 9, subHi := 9, kind := .u, bytes := 1, acc := .wo, own := .w, min := 1, max := 2 },
    { lo := 0x2700, hi := 0x2707, sub := 0xA, subHi := 0xA, kind := .u, bytes := 1, acc := .rw, own := .w, dflt := 1,
      max := 1 },
    { lo := 0x2710, hi := 0x2710, sub := 1, subHi := 2, kind := .u, bytes := 1, acc := .ro, own := .c },
    { lo := 0x2710, hi := 0x2710, sub := 3, subHi := 3, kind := .u, bytes := 1, acc := .rwl, own := .w, max := 127 },
    { lo := 0x2710, hi := 0x2710, sub := 4, subHi := 5, kind := .u, bytes := 1, acc := .rwl, own := .w, max := 16 },
    { lo := 0x2710, hi := 0x2710, sub := 6, subHi := 6, kind := .u, bytes := 2, acc := .rwl, own := .w, dflt := 5000,
      min := 1000, max := 60000 },
    { lo := 0x2710, hi := 0x2710, sub := 7, subHi := 0xA, kind := .u, bytes := 8, acc := .ro, own := .c },
    { lo := 0x2710, hi := 0x2710, sub := 0xB, subHi := 0xB, kind := .u, bytes := 1, acc := .ro, own := .c },
    { lo := 0x2710, hi := 0x2710, sub := 0xC, subHi := 0xC, kind := .u, bytes := 1, acc := .wo, own := .w, min := 1, max := 2 },
    { lo := 0x2710, hi := 0x2710, sub := 0xD, subHi := 0xD, kind := .u, bytes := 2, acc := .rw, own := .w, dflt := 100,
      min := 10, max := 10000 },
    { lo := 0x2710, hi := 0x2710, sub := 0xE, subHi := 0xE, kind := .u, bytes := 1, acc := .ro, own := .c },
    { lo := 0x2710, hi := 0x2710, sub := 0x10, subHi := 0x10, kind := .u, bytes := 1, acc := .rw, own := .w, min := 1,
      max := 127 },
    { lo := 0x2710, hi := 0x2710, sub := 0x11, subHi := 0x11, kind := .u, bytes := 4, acc := .rw, own := .w, mask := 0xFFFFFF00 },
    { lo := 0x2710, hi := 0x2710, sub := 0x12, subHi := 0x13, kind := .u, bytes := 4, acc := .rw, own := .w },
    { lo := 0x2710, hi := 0x2710, sub := 0x14, subHi := 0x14, kind := .u, bytes := 1, acc := .wo, own := .w, min := 1,
      max := 2 },
    { lo := 0x2710, hi := 0x2710, sub := 0x15, subHi := 0x15, kind := .u, bytes := 1, acc := .ro, own := .w },
    { lo := 0x2710, hi := 0x2710, sub := 0x16, subHi := 0x16, kind := .u, bytes := 4, acc := .ro, own := .w } ]

/-- Table OD-9, mandible channels and boost. -/
def odRows9a : List OdRow :=
  [ { lo := 0x2800, hi := 0x2807, sub := 1, subHi := 1, kind := .u, bytes := 2, acc := .rwl, own := .w, mask := 0x1F },
    { lo := 0x2800, hi := 0x2807, sub := 2, subHi := 2, kind := .u, bytes := 1, acc := .rwl, own := .w, max := 2 },
    { lo := 0x2800, hi := 0x2807, sub := 3, subHi := 3, kind := .u, bytes := 4, acc := .ro, own := .c, pdo := true },
    { lo := 0x2800, hi := 0x2807, sub := 4, subHi := 4, kind := .i, bytes := 4, acc := .ro, own := .c, pdo := true },
    { lo := 0x2800, hi := 0x2807, sub := 5, subHi := 5, kind := .u, bytes := 1, acc := .wo, own := .w, max := 2, pdo := true,
      grant := true },
    { lo := 0x2800, hi := 0x2807, sub := 6, subHi := 6, kind := .os, bytes := 48, acc := .rwl, own := .w, mask := profileMask },
    { lo := 0x2800, hi := 0x2807, sub := 7, subHi := 7, kind := .u, bytes := 4, acc := .rwl, own := .w, mask := 0x011F01FF },
    { lo := 0x2800, hi := 0x2807, sub := 8, subHi := 8, kind := .u, bytes := 2, acc := .rwl, own := .w },
    { lo := 0x2800, hi := 0x2807, sub := 9, subHi := 9, kind := .u, bytes := 2, acc := .rwl, own := .w, dflt := 60,
      min := 1, max := 3600 },
    { lo := 0x2800, hi := 0x2807, sub := 0xA, subHi := 0xA, kind := .u, bytes := 1, acc := .rwl, own := .w, dflt := 155,
      min := 60, max := 200 },
    { lo := 0x2800, hi := 0x2807, sub := 0xB, subHi := 0xB, kind := .u, bytes := 2, acc := .rwl, own := .w, dflt := 1000,
      max := 1000 },
    { lo := 0x2800, hi := 0x2807, sub := 0xC, subHi := 0xC, kind := .u, bytes := 1, acc := .rwl, own := .w, dflt := 10,
      min := 1, max := 60 },
    { lo := 0x2800, hi := 0x2807, sub := 0xD, subHi := 0xD, kind := .u, bytes := 1, acc := .rwl, own := .w, dflt := 3,
      min := 1, max := 3 },
    { lo := 0x2800, hi := 0x2807, sub := 0xE, subHi := 0xE, kind := .u, bytes := 2, acc := .rwl, own := .w, dflt := 1500,
      min := 500, max := 5000 },
    { lo := 0x2800, hi := 0x2807, sub := 0xF, subHi := 0xF, kind := .i, bytes := 2, acc := .ro, own := .c },
    { lo := 0x2800, hi := 0x2807, sub := 0x10, subHi := 0x10, kind := .u, bytes := 1, acc := .wo, own := .w, min := 1,
      max := 1 },
    { lo := 0x2800, hi := 0x2807, sub := 0x11, subHi := 0x11, kind := .u, bytes := 4, acc := .rwl, own := .w, dflt := 10000,
      min := 500, max := 100000 },
    { lo := 0x2810, hi := 0x2810, sub := 1, subHi := 1, kind := .u, bytes := 1, acc := .rwl, own := .w, dflt := 48,
      min := 24, max := 65 },
    { lo := 0x2810, hi := 0x2810, sub := 2, subHi := 2, kind := .u, bytes := 4, acc := .ro, own := .c },
    { lo := 0x2810, hi := 0x2810, sub := 3, subHi := 3, kind := .u, bytes := 2, acc := .ro, own := .c },
    { lo := 0x2810, hi := 0x2810, sub := 4, subHi := 4, kind := .u, bytes := 1, acc := .rw, own := .w, max := 1 } ]

/-- Table OD-9, wheels, events, limits and homing. -/
def odRows9b : List OdRow :=
  [ { lo := 0x2900, hi := 0x2901, sub := 1, subHi := 1, kind := .u, bytes := 1, acc := .rwl, own := .w, dflt := 36,
      min := 4 },
    { lo := 0x2900, hi := 0x2901, sub := 2, subHi := 2, kind := .u, bytes := 1, acc := .rwl, own := .w, dflt := 2,
      min := 1, max := 3 },
    { lo := 0x2900, hi := 0x2901, sub := 3, subHi := 3, kind := .u, bytes := 1, acc := .rwl, own := .w, dflt := 10,
      min := 1, max := 250 },
    { lo := 0x2900, hi := 0x2901, sub := 4, subHi := 4, kind := .u, bytes := 1, acc := .rwl, own := .w, mask := 3 },
    { lo := 0x2900, hi := 0x2901, sub := 5, subHi := 5, kind := .u, bytes := 1, acc := .ro, own := .c, pdo := true },
    { lo := 0x2900, hi := 0x2901, sub := 6, subHi := 6, kind := .u, bytes := 2, acc := .ro, own := .c, pdo := true },
    { lo := 0x2900, hi := 0x2901, sub := 7, subHi := 9, kind := .u, bytes := 4, acc := .ro, own := .c },
    { lo := 0x2900, hi := 0x2901, sub := 0xA, subHi := 0xA, kind := .i, bytes := 2, acc := .ro, own := .c },
    { lo := 0x2910, hi := 0x298F, sub := 1, subHi := 1, kind := .u, bytes := 2, acc := .rwb, own := .w, mask := 0x3FFF },
    { lo := 0x2910, hi := 0x298F, sub := 2, subHi := 2, kind := .u, bytes := 1, acc := .rwb, own := .w, max := 4 },
    { lo := 0x2910, hi := 0x298F, sub := 3, subHi := 3, kind := .u, bytes := 2, acc := .rwb, own := .w },
    { lo := 0x2910, hi := 0x298F, sub := 4, subHi := 4, kind := .u, bytes := 1, acc := .rwb, own := .w, mask := 1 },
    { lo := 0x2910, hi := 0x298F, sub := 5, subHi := 5, kind := .i, bytes := 4, acc := .ro, own := .c, pdo := true },
    { lo := 0x2910, hi := 0x298F, sub := 6, subHi := 6, kind := .u, bytes := 2, acc := .rwb, own := .w, dflt := 10,
      min := 1 },
    { lo := 0x2A00, hi := 0x2A0F, sub := 1, subHi := 1, kind := .u, bytes := 1, acc := .rwl, own := .w, mask := 0x1F },
    { lo := 0x2A00, hi := 0x2A0F, sub := 2, subHi := 2, kind := .u, bytes := 1, acc := .rwl, own := .w, dflt := 10,
      min := 1 },
    { lo := 0x2A00, hi := 0x2A0F, sub := 3, subHi := 3, kind := .u, bytes := 2, acc := .rwl, own := .w, dflt := 100,
      min := 1, max := 1000 },
    { lo := 0x2A00, hi := 0x2A0F, sub := 4, subHi := 4, kind := .u, bytes := 1, acc := .rwl, own := .w, dflt := 8, min := 2 },
    { lo := 0x2A00, hi := 0x2A0F, sub := 5, subHi := 5, kind := .u, bytes := 2, acc := .rwl, own := .w, dflt := 100,
      min := 1, max := 10000 },
    { lo := 0x2A00, hi := 0x2A0F, sub := 6, subHi := 6, kind := .u, bytes := 1, acc := .ro, own := .c, pdo := true },
    { lo := 0x2A00, hi := 0x2A0F, sub := 7, subHi := 7, kind := .u, bytes := 1, acc := .wo, own := .w, min := 1, max := 1 },
    { lo := 0x2A00, hi := 0x2A0F, sub := 8, subHi := 8, kind := .u, bytes := 4, acc := .ro, own := .c },
    { lo := 0x2A00, hi := 0x2A0F, sub := 9, subHi := 9, kind := .os, bytes := 16, acc := .rwl, own := .w, mask := haltFrameMask },
    { lo := 0x2A20, hi := 0x2A27, sub := 1, subHi := 1, kind := .u, bytes := 1, acc := .rwl, own := .w, max := 127 },
    { lo := 0x2A20, hi := 0x2A27, sub := 2, subHi := 2, kind := .u, bytes := 1, acc := .rwl, own := .w, dflt := 0xFF },
    { lo := 0x2A20, hi := 0x2A27, sub := 3, subHi := 3, kind := .u, bytes := 2, acc := .rwl, own := .w },
    { lo := 0x2A20, hi := 0x2A27, sub := 4, subHi := 6, kind := .i, bytes := 4, acc := .rwl, own := .w, min := -(2 ^ 31) },
    { lo := 0x2A20, hi := 0x2A27, sub := 7, subHi := 7, kind := .u, bytes := 1, acc := .rwl, own := .w, mask := 3 },
    { lo := 0x2A20, hi := 0x2A27, sub := 8, subHi := 8, kind := .u, bytes := 1, acc := .wo, own := .w, min := 1, max := 2,
      pdo := true },
    { lo := 0x2A20, hi := 0x2A27, sub := 9, subHi := 9, kind := .u, bytes := 1, acc := .ro, own := .c, pdo := true },
    { lo := 0x2A20, hi := 0x2A27, sub := 0xA, subHi := 0xA, kind := .i, bytes := 4, acc := .ro, own := .c } ]

/-- Table OD-10. -/
def odRows10 : List OdRow :=
  [ { lo := 0x2B00, hi := 0x2B00, sub := 1, subHi := 1, kind := .u, bytes := 4, acc := .ro, own := .c },
    { lo := 0x2B00, hi := 0x2B00, sub := 2, subHi := 2, kind := .u, bytes := 1, acc := .ro, own := .c },
    { lo := 0x2B00, hi := 0x2B00, sub := 3, subHi := 3, kind := .u, bytes := 2, acc := .ro, own := .c },
    { lo := 0x2B00, hi := 0x2B00, sub := 4, subHi := 4, kind := .u, bytes := 1, acc := .rw, own := .w, dflt := 5, mask := 0x7F },
    { lo := 0x2B00, hi := 0x2B00, sub := 5, subHi := 5, kind := .u, bytes := 1, acc := .ro, own := .c },
    { lo := 0x2B10, hi := 0x2B10, sub := 0, subHi := 0, kind := .u, bytes := 8, acc := .rw, own := .w },
    { lo := 0x2B11, hi := 0x2B11, sub := 1, subHi := 1, kind := .u, bytes := 8, acc := .rw, own := .w,
      mask := 0xFFFF0FFFFFFFFFFF },
    { lo := 0x2B11, hi := 0x2B11, sub := 3, subHi := 3, kind := .u, bytes := 1, acc := .rw, own := .w, max := 1 },
    { lo := 0x2B12, hi := 0x2B12, sub := 0, subHi := 0, kind := .u, bytes := 1, acc := .rw, own := .w, max := 1 },
    { lo := 0x2B20, hi := 0x2B20, sub := 0, subHi := 0, kind := .os, bytes := 64, acc := .rw, own := .w },
    { lo := 0x2B30, hi := 0x2B30, sub := 1, subHi := 1, kind := .u, bytes := 2, acc := .ro, own := .c },
    { lo := 0x2B30, hi := 0x2B30, sub := 2, subHi := 2, kind := .u, bytes := 2, acc := .rw, own := .w, dflt := 4100,
      min := 3900, max := 4200 },
    { lo := 0x2B30, hi := 0x2B30, sub := 3, subHi := 4, kind := .u, bytes := 2, acc := .ro, own := .c },
    { lo := 0x2B30, hi := 0x2B30, sub := 5, subHi := 5, kind := .u, bytes := 4, acc := .ro, own := .c },
    { lo := 0x2B30, hi := 0x2B30, sub := 6, subHi := 6, kind := .i, bytes := 2, acc := .ro, own := .c },
    { lo := 0x2B30, hi := 0x2B30, sub := 7, subHi := 7, kind := .u, bytes := 2, acc := .ro, own := .c },
    { lo := 0x2B30, hi := 0x2B30, sub := 8, subHi := 8, kind := .u, bytes := 1, acc := .rw, own := .w, dflt := 1, max := 1 },
    { lo := 0x2C00, hi := 0x2C00, sub := 1, subHi := 1, kind := .u, bytes := 1, acc := .rw, own := .w, max := 2 },
    { lo := 0x2C00, hi := 0x2C00, sub := 2, subHi := 3, kind := .u, bytes := 2, acc := .rw, own := .w, dflt := 0xFFFF },
    { lo := 0x2C00, hi := 0x2C00, sub := 4, subHi := 4, kind := .i, bytes := 1, acc := .rw, own := .w, dflt := 14,
      min := -10, max := 14 },
    { lo := 0x2C00, hi := 0x2C00, sub := 5, subHi := 5, kind := .u, bytes := 2, acc := .rw, own := .w, dflt := 2000,
      min := 500, max := 60000 },
    { lo := 0x2C00, hi := 0x2C00, sub := 6, subHi := 6, kind := .os, bytes := 16, acc := .wo, own := .w },
    { lo := 0x2C00, hi := 0x2C00, sub := 7, subHi := 7, kind := .u, bytes := 1, acc := .rw, own := .w, dflt := 1, max := 1 },
    { lo := 0x2C00, hi := 0x2C00, sub := 8, subHi := 8, kind := .u, bytes := 2, acc := .ro, own := .c },
    { lo := 0x2C10, hi := 0x2C10, sub := 1, subHi := 2, kind := .u, bytes := 2, acc := .ro, own := .c },
    { lo := 0x2C10, hi := 0x2C10, sub := 3, subHi := 3, kind := .u, bytes := 4, acc := .ro, own := .c } ]

/-- Table OD-11, and the indirect window of Table OD-3a. -/
def odRows11 : List OdRow :=
  [ { lo := 0x2D00, hi := 0x2D3F, sub := 1, subHi := 5, kind := .u, bytes := 4, acc := .ro, own := .mb },
    { lo := 0x2D00, hi := 0x2D3F, sub := 6, subHi := 6, kind := .u, bytes := 4, acc := .wo, own := .mb },
    { lo := 0x2D00, hi := 0x2D3F, sub := 7, subHi := 7, kind := .u, bytes := 1, acc := .rwb, own := .mb, max := 1 },
    { lo := 0x2D00, hi := 0x2D3F, sub := 8, subHi := 8, kind := .u, bytes := 1, acc := .wo, own := .mb, min := 1, max := 1 },
    { lo := 0x2D00, hi := 0x2D3F, sub := 9, subHi := 9, kind := .u, bytes := 1, acc := .ro, own := .mb },
    { lo := 0x2D00, hi := 0x2D3F, sub := 0xA, subHi := 0xA, kind := .u, bytes := 1, acc := .rw, own := .mb, max := 1 },
    { lo := 0x2E00, hi := 0x2E00, sub := 1, subHi := 1, kind := .u, bytes := 2, acc := .rw, own := .t, max := 4095 },
    { lo := 0x2E01, hi := 0x2E01, sub := 1, subHi := 1, kind := .u, bytes := 4, acc := .ro, own := .t },
    { lo := 0x2E01, hi := 0x2E01, sub := 2, subHi := 2, kind := .u, bytes := 2, acc := .wo, own := .t, min := 1 },
    { lo := 0x2E01, hi := 0x2E01, sub := 3, subHi := 3, kind := .u, bytes := 1, acc := .wo, own := .t, min := 1, max := 1 },
    { lo := 0x2E01, hi := 0x2E01, sub := 4, subHi := 5, kind := .u, bytes := 4, acc := .ro, own := .t },
    { lo := 0x2F00, hi := 0x2F00, sub := 1, subHi := 2, kind := .u, bytes := 4, acc := .ro, own := .w },
    { lo := 0x2F00, hi := 0x2F00, sub := 3, subHi := 3, kind := .u, bytes := 1, acc := .wo, own := .w, min := 1, max := 1 },
    { lo := 0x2F01, hi := 0x2F01, sub := 1, subHi := 2, kind := .u, bytes := 4, acc := .ro, own := .w },
    { lo := 0x2F01, hi := 0x2F01, sub := 3, subHi := 3, kind := .u, bytes := 8, acc := .ro, own := .w },
    { lo := 0x2F02, hi := 0x2F02, sub := 1, subHi := 1, kind := .u, bytes := 4, acc := .rw, own := .a, mask := 0xFFFFFF00 },
    { lo := 0x2F02, hi := 0x2F02, sub := 2, subHi := 2, kind := .u, bytes := 1, acc := .wo, own := .a, min := 1, max := 2 },
    { lo := 0x2F02, hi := 0x2F02, sub := 3, subHi := 3, kind := .u, bytes := 1, acc := .ro, own := .a },
    { lo := 0x2F02, hi := 0x2F02, sub := 4, subHi := 4, kind := .u, bytes := 4, acc := .ro, own := .a },
    { lo := 0x2F02, hi := 0x2F02, sub := 5, subHi := 5, kind := .u, bytes := 1, acc := .ro, own := .a },
    { lo := 0x2F02, hi := 0x2F02, sub := 0x10, subHi := 0x1F, kind := .u, bytes := 4, acc := .rw, own := .a },
    { lo := 0x2F10, hi := 0x2F4F, sub := 1, subHi := 2, kind := .u, bytes := 4, acc := .ro, own := .w },
    { lo := 0x2F10, hi := 0x2F4F, sub := 3, subHi := 3, kind := .u, bytes := 8, acc := .ro, own := .w } ]

/-- Every row of the dictionary (R300). -/
def odRows : List OdRow :=
  odRows4 ++ odRowsPdo ++ odRows5 ++ odRows6 ++ odRowsCam 0 ++ odRowsCam 1 ++ odRowsCam 2 ++ odRowsCam 3
    ++ odRowsShed 1 47000 48000 ++ odRowsShed 2 46000 47000 ++ odRowsShed 3 45000 46000 ++ odRowsShed 4 44000 45000
    ++ odRowsShed 5 42000 43500 ++ odRowsShed 6 40000 42000
    ++ odRows7 ++ odRows8 ++ odRows9a ++ odRows9b ++ odRows10 ++ odRows11

/-- The row that holds an object. -/
def odRow? (idx sub : Nat) : Option OdRow :=
  odRows.find? (fun r => r.lo ≤ idx && idx ≤ r.hi && r.sub ≤ sub && sub ≤ r.subHi)

/-- The index holds some object (R300). -/
def odIndex (idx : Nat) : Bool := odRows.any (fun r => r.lo ≤ idx && idx ≤ r.hi)

/-- Clock ticks of 80 MHz per nominal bit (R275). -/
def nominalTq (w : Nat) : Nat := (bitsOf w 0 8 + 1) * (1 + (bitsOf w 24 8 + 1) + (bitsOf w 17 7 + 1))

/-- Clock ticks of 80 MHz per data bit (R275). -/
def dataTq (w : Nat) : Nat := (bitsOf w 0 5 + 1) * (1 + (bitsOf w 27 5 + 1) + (bitsOf w 23 4 + 1))

/-- A nominal timing word within Table FIELD-1. -/
def nominalOk (w : Nat) : Bool :=
  2 ≤ bitsOf w 24 8 + 1 && bitsOf w 10 7 ≤ bitsOf w 17 7 && 80 ≤ nominalTq w && nominalTq w ≤ 640

/-- A data timing word within Table FIELD-1, beside the nominal word `n` (R275). -/
def dataOk (n w : Nat) : Bool :=
  bitsOf w 19 4 ≤ bitsOf w 23 4 && 10 ≤ dataTq w && dataTq w ≤ nominalTq n && (40 ≤ dataTq w || bitOf w 11)

/-- Ranges of one object that are more than an interval (13, the owning chapters). -/
def odExtra (idx sub v : Nat) : Bool :=
  if idx = 0x1019 then v ≠ 1
  else if (0x1400 ≤ idx ∧ idx ≤ 0x141F ∨ 0x1800 ≤ idx ∧ idx ≤ 0x181F) ∧ sub = 2 then v ≤ 240 || v = 254 || v = 255
  else if idx = 0x2100 ∧ sub = 8 then bitsOf v 2 2 ≤ 1
  else if idx = 0x2200 ∧ sub = 5 then v % 4096 = 0
  else if idx = 0x2300 ∧ 0x60 ≤ sub ∧ sub ≤ 0x7F then bitsOf v 24 8 ≤ 31 || bitsOf v 24 8 = 0xFF
  else if idx = 0x2610 ∧ sub = 3 then v % 4096 = 0
  else if idx = 0x2710 ∧ (sub = 4 ∨ sub = 5) then v = 0 || 3 ≤ v
  else if idx = 0x2300 ∧ (sub = 0x10 ∨ sub = 0x14 ∨ sub = 0x18 ∨ sub = 0x1C) then bitsOf v 2 2 ≠ 3
  else if idx = 0x2300 ∧ (sub = 0x11 ∨ sub = 0x15 ∨ sub = 0x19 ∨ sub = 0x1D) then
    1 ≤ bitsOf v 16 16 && bitsOf v 16 16 ≤ 8192 && 16 ≤ bitsOf v 0 16 && bitsOf v 0 16 ≤ 8192
  else if idx = 0x2300 ∧ (sub = 0x13 ∨ sub = 0x17 ∨ sub = 0x1B ∨ sub = 0x1F) then
    1 ≤ bitsOf v 0 16 && bitsOf v 0 16 ≤ 1000
  else if idx = 0x2300 ∧ (sub = 0x20 ∨ sub = 0x22) then nominalOk v
  else if 0x2800 ≤ idx ∧ idx ≤ 0x2807 ∧ sub = 7 then
    bitsOf v 16 5 ≤ 25 && ((50 ≤ bitsOf v 0 9 && bitsOf v 0 9 ≤ 400) || (bitsOf v 16 5 = 0 && bitsOf v 0 9 = 0))
  else if 0x2800 ≤ idx ∧ idx ≤ 0x2807 ∧ sub = 1 then idx % 2 = 0 || !bitOf v 1
  else if 0x2A00 ≤ idx ∧ idx ≤ 0x2A0F ∧ sub = 9 then
    bitsOf v 16 8 ≤ 1 && (bitsOf v 24 8 ≤ 8 || (bitsOf v 24 8 = 12 && bitsOf v 16 8 = 1))
  else if idx = 0x2B11 ∧ sub = 1 then bitsOf v 48 9 ≤ 399
  else if 0x2A20 ≤ idx ∧ idx ≤ 0x2A27 ∧ sub = 2 then v ≤ 15 || v = 0xFF
  else true

/-- A value, its reserved bits cleared, lies in the object's range (R305). -/
def OdRow.inRange (r : OdRow) (idx sub v : Nat) : Bool :=
  (match r.kind with
    | .u => r.min ≤ (v : Int) && (v : Int) ≤ r.max
    | .i => r.min ≤ signedOf (8 * r.bytes) v && signedOf (8 * r.bytes) v ≤ r.max
    | .os => true)
  && odExtra idx sub v

end Sys2Proof.Machine
end

