-- ==== Sys2Proof/Machine/PlanTypes.lean ====
section
/-!
DEFINITION. The parts of a plan image, once read (02 Tables PLAN-2 to PLAN-7; 03 TILE-4; 04 OPS-1, OPS-2; 05 LAYOUT-2;
07 SEQ-2; 08 MEM-1, MEM-2; 09 PART-2 to PART-7; 10 DROVE-4). Every field is the number the image spells (R40).
-/
namespace Sys2Proof.Machine

/-- Header (Table PLAN-2). -/
structure Header where
  magic : Nat := 0
  version : Nat := 0
  headerLength : Nat := 0
  planId : Nat := 0
  imageLength : Nat := 0
  sectionCount : Nat := 0
  tierMask : Nat := 0
  memberId : Nat := 0
  setMask : Nat := 0
  bellPeriod : Nat := 0
  slot : Nat := 0
  guard : Nat := 0
  cutoff : Nat := 0
  partCode : Nat := 0
  minSilicon : Nat := 0
  minDmf : Nat := 0
  lp5xMib : Nat := 0
  reservedZero : Bool := true
deriving DecidableEq, Repr

/-- Section directory entry (Table PLAN-3). -/
structure Section where
  type : Nat := 0
  inst : Nat := 0
  offset : Nat := 0
  length : Nat := 0
  reserved : Nat := 0
deriving DecidableEq, Repr

/-- Tensor descriptor (Table LAYOUT-2). `reserved` is false when a reserved bit is set. -/
structure Desc where
  base : Nat := 0
  space : Nat := 0
  ety : Nat := 0
  inner : Bool := false
  unit : Nat := 0
  rank : Nat := 1
  dims : List Nat := [1, 1, 1, 1, 1]
  strides : List Nat := [0, 0, 0, 0]
  companion : Nat := 0xFFFF
  reserved : Bool := true
deriving DecidableEq, Repr

/-- Operation record (Table OPS-2). -/
structure OpRecord where
  opcode : Nat := 0
  part : Nat := 0
  flags : Nat := 0
  issue : Nat := 0
  a : Nat := 0xFFFF
  b : Nat := 0xFFFF
  c : Nat := 0xFFFF
  d : Nat := 0xFFFF
  imm0 : Nat := 0
  imm1 : Nat := 0
  imm2 : Nat := 0
  wait : Nat := 0xFFFF
  store : Nat := 0
  reserved : Nat := 0
deriving DecidableEq, Repr

/-- One operation list (Table OPS-1). -/
structure OpList where
  executor : Nat := 0
  records : List OpRecord := []
deriving DecidableEq, Repr

/-- Mesh slot entry (Table TILE-4). -/
structure SlotEntry where
  source : Nat := 0
  dest : Nat := 0
  kind : Nat := 1
  owner : Nat := 0
  flits : Nat := 1
  start : Nat := 0
  reps : Nat := 0
  stride : Nat := 0
deriving DecidableEq, Repr

/-- Drove slot table entry (Table DROVE-4). -/
structure DroveEntry where
  flow : Nat := 0
  kind : Nat := 1
  owner : Nat := 0
  inPort : Nat := 0xFF
  outPort : Nat := 0xFF
  bytes : Nat := 0
  inSlot : Nat := 0xFFFFFFFF
  outSlot : Nat := 0xFFFFFFFF
  meshSlot : Nat := 0xFFFFFFFF
  source : Nat := 0
  dest : Nat := 0
deriving DecidableEq, Repr

/-- Drove slot table (Table DROVE-4). -/
structure DroveTable where
  budget : Nat := 30
  planSlots : Nat := 0
  entries : List DroveEntry := []
deriving DecidableEq, Repr

/-- Sink binding (Table PLAN-7). -/
structure Binding where
  kind : Nat := 1
  index : Nat := 0
  owner : Nat := 0
  carried : Bool := false
  offset : Nat := 0
  source : Nat := 0xFFFF
deriving DecidableEq, Repr

/-- Rotation group (Table PLAN-7). -/
structure RotGroup where
  ident : Nat := 0
  active : Nat := 1
  period : Nat := 1
  tiles : List Nat := []
deriving DecidableEq, Repr

/-- Power profile record (Table PLAN-7), in 10 mW units. -/
structure PowerRecord where
  blocks : List Nat := []
  uncore : Nat := 0
deriving DecidableEq, Repr

/-- Tier table entry (Table PLAN-5). -/
structure TierEntry where
  index : Nat := 0
  present : Bool := false
  noFlow : Bool := false
  clock : Nat := 0
  vddMv : Nat := 0
  droveMask : Nat := 0
  partSet : Nat := 0
  peakMw : Nat := 0
  memberMask : Nat := 0
  tileMask : Nat := 0
  reservedZero : Bool := true
deriving DecidableEq, Repr

/-- One present tier with everything the image gives it. -/
structure Tier where
  entry : TierEntry := {}
  profile : List PowerRecord := []
  lists : List OpList := []
  slots : List SlotEntry := []
  drove : DroveTable := {}
  groups : List RotGroup := []
  bindings : List Binding := []
  ownership : List Nat := []
deriving DecidableEq, Repr

/-- Partition entry (Table PART-3). -/
structure PartEntry where
  present : Bool := false
  cls : Nat := 0
  tallyBase : Nat := 0
  tallyCount : Nat := 0
  memTally : Nat := 0xFFFF
  winBase : Nat := 0
  winSize : Nat := 0
  mailboxes : Nat := 0
  cameras : Nat := 0
  reservedZero : Bool := true
deriving DecidableEq, Repr

/-- Exchange entry (Table PART-4). -/
structure Exchange where
  producer : Nat := 0
  consumer : Nat := 0
  base : Nat := 0
  length : Nat := 0
deriving DecidableEq, Repr

/-- Region table entry (Table MEM-1). -/
structure Region where
  base : Nat := 0
  length : Nat := 0
  owner : Nat := 0
  attrs : Nat := 0
  golden : Nat := 0
deriving DecidableEq, Repr

/-- Region record of the partition table section (Table PART-2). -/
structure RegionRecord where
  tile : Nat := 0
  index : Nat := 0
  region : Region := {}
deriving DecidableEq, Repr

/-- Tally config (Table PART-7). -/
structure TallyConfig where
  index : Nat := 0
  wake : Bool := false
  event : Bool := false
  fire : Bool := false
  autoReset : Bool := false
  target : Nat := 0
  sinkKind : Nat := 0
  sinkIndex : Nat := 0
deriving DecidableEq, Repr

/-- Fork table (Table SEQ-2, R151). -/
structure ForkTable where
  owner : Nat := 0
  futures : Nat := 1
  pages : Nat := 1
  pageBytes : Nat := 4096
  poolPages : Nat := 1
  poolBase : Nat := 0
  entries : List Nat := []
deriving DecidableEq, Repr

/-- Placement of initial data (Table MEM-2). -/
structure Placement where
  desc : Nat := 0
  target : Nat := 0
  offset : Nat := 0
  length : Nat := 0
deriving DecidableEq, Repr

/-- A plan image of this device, read whole (R38). -/
structure Plan where
  header : Header := {}
  tiers : List (Option Tier) := []
  parts : List PartEntry := []
  exchanges : List Exchange := []
  regions : List RegionRecord := []
  tallies : List TallyConfig := []
  descs : List Desc := []
  forks : List ForkTable := []
  shedMap : List Nat := []
  placements : List Placement := []
  /-- length of the initial data section, which is the golden store's content (R179) -/
  goldenLength : Nat := 0
deriving DecidableEq, Repr

end Sys2Proof.Machine
end

