-- ==== Sys2Proof/Machine/State.lean ====
section
/-!
DEFINITION. The state of the JKL-2560 as plain data, its faults and refusals, and the state after a cold reset (R8, R414).
Writable dictionary objects are held in `od`, keyed by index × 256 + subindex; an object not listed holds the default of
13. A field default below is the reset value; the assumption log says which of them the manual does not give.
-/
namespace Sys2Proof.Machine

/-- Numbers by key, keys strictly rising. -/
abbrev Store := List (Nat × Nat)

/-- What is special about a 64-bit word's codeword (R170, R172, R173). A word without a mark is a clean codeword. -/
inductive Mark where
  | poison
  | correctable
  | uncorrectable
deriving DecidableEq, Repr

/-- A byte-addressed memory: bytes by address and marks by 64-bit word index, both strictly rising, no byte equal to what an
unlisted address reads as. -/
structure Memory where
  bytes : List Host.Cell := []
  marks : List (Nat × Mark) := []
deriving DecidableEq, Repr

/-- Table BELL-7. -/
inductive BellState where
  | stopped
  | source
  | locked
  | holdover
  | orphaned
deriving DecidableEq, Repr

/-- Role (0x2000:03). -/
inductive Role where
  | standalone
  | bellwether
  | member
deriving DecidableEq, Repr

/-- What a command put on the device's ports or told a principal. -/
inductive Output where
  | odReply (p : Principal) (abort : U32)
  | odData (p : Principal) (value : Nat)
  | unsupported (p : Principal)
  | hostData (p : Principal) (data : List Byte) (ep : Bool)
  | msix (partition : Nat) (vector : Nat)
  | usdo (c : Fin 2) (abort : U32) (data : List Byte)
  | marker (port : PortNo) (m : Marker)
  | demand (port : PortNo) (word : U32)
  | linkReport (port : PortNo) (r : LinkReport)
  | retryRequest (port : PortNo) (slot : Nat)
  /-- a cell for a slot of this tick; a later one for the same slot, before the slot begins, takes its place -/
  | cell (port : PortNo) (slot : Nat) (cell : Cell)
  /-- the port sends nothing more: cells handed out for slots to come do not leave (R246) -/
  | silent (port : PortNo)
  | service (port : PortNo) (x : Service)
  | probe (port : PortNo) (probe : Probe)
  | image (member : Nat) (reform : Bool) (bytes : List Byte)
  | discardImage (member : Nat)
  | verdict (member : Nat) (rejected : Option (Nat × Nat))
  | avsWrite (mv : Nat)
  | avsRead
  | pmbusStatus (rail : Fin 6)
  | pmbusInit (rail : Fin 6)
  | radioListen (channel : Nat)
  | radioAck (channel : Nat)
  | radioBeacon (channel : Nat) (type : Nat) (payload : List Byte)
  | extraRefresh (channel : Fin 4)
  | windowByte (value : Nat)
  /-- a command on the boot flash port, with its address; R273 -/
  | flash (command : Nat) (address : Nat)
deriving DecidableEq, Repr

/-! ## Bell and plan -/

structure BellUnit where
  /-- 0x2100:07 bell state; 3 bits; R36 Table BELL-7; reset STOPPED -/
  state : BellState := .stopped
  /-- 0x2100:03 bell count; 64 bits; R2; reset 0 -/
  count : U64 := 0
  /-- instant of the last bell, ns; model's clock; R3; reset DESIGN CHOICE 0 (log 2) -/
  at_ : Nat := 0
  /-- reference clock alive (REF50); R30; reset DESIGN CHOICE true (log 5) -/
  refOk : Bool := true
  /-- a valid marker for the bell to come has been accepted; R12, R26; reset false -/
  markerSeen : Bool := false
  /-- consecutive bells without a valid marker, 0 to 8; R26, R28; reset 0 -/
  missed : Nat := 0
  /-- primary port fixed at formation; R229; reset none -/
  primary : Option PortNo := none
  /-- port that delivered the last valid marker; R229, R241; reset none -/
  markerPort : Option PortNo := none
  /-- path delay and hop count of the last valid marker; R228; reset 0 -/
  pathDelayNs : Nat := 0
  hops : Nat := 0
  /-- announcement carried by the last valid marker on a member: target tier, and bells still to go; R242; reset none -/
  announced : Option (Nat × Nat) := none
  /-- valid markers of the bell to come that other ports than the primary one delivered: port, marker, phase error; R229; reset
  empty -/
  heldMarkers : List (PortNo × Marker × Int) := []
  /-- correction of the bell grid made so far, ns; R12, R32; reset 0 -/
  phaseNs : Int := 0
  /-- rate estimate of a member; R12; reset DESIGN CHOICE 0 (log 6) -/
  rate : Int := 0
  /-- phase errors of the last 1,000 bells, newest first; R13 (0x2100:04); reset empty -/
  errors : List Nat := []
  /-- a bell restart is due: cause, and bells still to go; R36, R250; reset none -/
  restart : Option (Nat × Nat) := none
  /-- BELL_IN: accepted edge seen since the last bell; R32, R34; reset false -/
  inSeen : Bool := false
  /-- BELL_IN: how far its edges have moved the grid at this bell, ns; R32; reset 0 -/
  inMoved : Int := 0
  /-- BELL_IN: consecutive bells without an accepted edge; R34; reset 0 -/
  inMissed : Nat := 0
  /-- BELL_OUT pin; R31; reset low -/
  out : Bool := false
  /-- value of the next SYNC counter byte less 1; R292; reset 0 -/
  syncCounter : Nat := 0
  /-- seconds of the calendar begun since the last TIME; R293; reset 0 -/
  timeSeconds : Nat := 0
  /-- the rollback fuses were handled at a bell 0 since boot; R436; reset false -/
  bootBell0 : Bool := false
deriving DecidableEq, Repr

/-- A tier switch announced: target (15 for STOP), the bell it takes effect at, and its cause (R53, R54). -/
structure PendingSwitch where
  tier : Nat
  bell : Nat
  cause : Nat
deriving DecidableEq, Repr

structure PlanUnit where
  /-- 0x2200:04 load status, 0 to 5; R48; reset 0 -/
  status : Nat := 0
  /-- 0x2200:07 last rejection; 32 bits; Table PLAN-8; reset 0 -/
  rejection : U32 := 0
  /-- the verified plan of this device; R38, R49; reset none -/
  plan : Option Plan := none
  /-- bell 0 has fallen: 0x2200:01 shows the plan; R52; reset false -/
  running : Bool := false
  /-- the plan is verified everywhere and bell 0 is awaited under R33; reset false -/
  awaitBell0 : Bool := false
  /-- cause of the restart that bell 0 carries: 1 plan load, 2 re-formation; R36, R240; reset 1 -/
  restartCause : Nat := 1
  /-- 0x2210:03 effective tier; 0 to 7, 15 for STOP; R58; reset 0 -/
  effective : Nat := 0
  /-- effective tier of the domain, which a device leaves alone on the fast path of stage 5 or after a failed raise; R57, R59,
  R366; reset 0 -/
  domainTier : Nat := 0
  /-- pending tier switch; R53; reset none -/
  pending : Option PendingSwitch := none
  /-- bell count at which the tier in force took effect; R43; reset 0 -/
  tierSince : Int := 0
  /-- last_switch of R64; reset 0 -/
  lastSwitch : Int := 0
  /-- below_since of R64; reset none -/
  belowSince : Option Int := none
  /-- bell count at which an accepted stop takes effect; R47; reset none -/
  stopAt : Option Nat := none
  /-- a re-formation follows the stop; R240; reset false -/
  reformAfterStop : Bool := false
  /-- stage 5 fast path: tier 7 at the next bell; R57; reset false -/
  fastPath : Bool := false
  /-- a voltage raise failed: the tier to enter at the next bell in place of the announced one, 15 for STOP; R366; reset
  none -/
  raiseFailed : Option Nat := none
  /-- the supply demand is held at 7 by a failed raise; R366; reset false -/
  raiseDemand : Bool := false
  /-- overrun governor's demand; 4 bits; R25, R62; reset 0 -/
  overrunDemand : Nat := 0
  /-- consecutive ticks that every partition completed on the tier in force; R62; reset 0 -/
  cleanTicks : Nat := 0
  /-- the demands that count at the bell under way, in the order of Table PLAN-10; R55; reset empty -/
  counted : List Nat := []
  /-- demand words received in the domain: port, member, word, bells since refreshed; R241, R59; reset empty -/
  received : List (Nat × Nat × U32 × Nat) := []
  /-- demand word last sent towards the bellwether; R241; reset 0 -/
  sentWord : U32 := 0
  /-- image that an orphaned member has verified, and whether a re-formation sent it; it is loaded at the restart that ends ORPHANED;
  R29, R240, R251; reset none -/
  incoming : Option (List Byte × Bool) := none
  /-- the staging area of the last accepted load: LP5X address, length; R49, R240; reset none -/
  staging : Option (Nat × Nat) := none
  /-- device-wide safe state in force; R287, R330; reset false -/
  safe : Bool := false
deriving DecidableEq, Repr

/-! ## Tiles and the mesh -/

/-- Table TILE-5. -/
inductive TileMode where
  | active
  | gatedRetain
  | gatedOff
  | quarantined
  | testing
  | outOfService
deriving DecidableEq, Repr

/-- One element, or pad byte, that a record writes at its completion (R94, R122). -/
structure ElemWrite where
  addr : Nat
  size : Nat
  value : Nat
  poison : Bool
deriving DecidableEq, Repr

/-- A key-value pair of the index matcher (R104), and which half of it was loaded as poison. -/
structure MatchEntry where
  key : U32
  value : U32
  keyPoison : Bool := false
  valuePoison : Bool := false
deriving DecidableEq, Repr

/-- What a record does to the index matcher when it completes (R94, R104): clears it, or places pairs. -/
inductive MatcherChange where
  | clear
  | load (pairs : List MatchEntry)
deriving DecidableEq, Repr

/-- A record that has issued and not completed (R93, R94). -/
structure InFlight where
  done : Nat
  reads : List Nat
  writes : List Nat
  slotsRead : List Nat
  eot : Bool
  elems : List ElemWrite
  slotWrite : Option (Nat × Desc)
  matcher : Option MatcherChange := none
deriving DecidableEq, Repr

/-- A loop level being run (R97): body bounds, iterations, interval, the LOOP's issue cycle, the iteration. -/
structure LoopFrame where
  first : Nat
  len : Nat
  count : Nat
  interval : Nat
  start : Nat
  iter : Nat
deriving DecidableEq, Repr

/-- The sequencer of a tile (04). -/
structure Sequencer where
  /-- position of the next record in the list; R92; reset 0 -/
  pc : Nat := 0
  /-- loop levels in progress, outermost first; R97; reset empty -/
  loops : List LoopFrame := []
  /-- cycle of the last issue; R92; reset none -/
  lastIssue : Option Nat := none
  /-- issues made in this tick, for R140; reset 0 -/
  issues : Nat := 0
  /-- per unit (Table OPS-4) the cycle from which it accepts a record; R92; reset all 0 -/
  busy : Store := []
  /-- records issued and not completed; R94; reset empty -/
  inFlight : List InFlight := []
  /-- records completed in this tick, without their results: the cycles that R93 and R96 made later records wait for; reset empty -/
  past : List InFlight := []
  /-- end-of-tick marker reached; R96; reset false -/
  eot : Bool := false
deriving DecidableEq, Repr

/-- Where a tile's readmission or partition rebuild stands (R80, R440). -/
inductive Rebuild where
  | none
  | requested
  | selfTest
  | scrub
  | load (bytesLeft : Nat)
  | aligned
deriving DecidableEq, Repr

structure TileState where
  /-- 0x2620:02 [7:0] state; R75 Table TILE-5; reset GATED_OFF, or OUT_OF_SERVICE by the repair map -/
  mode : TileMode := .gatedOff
  /-- 0x2620:02 [9:8] failed self-tests in a row; reset 0 -/
  failCount : Nat := 0
  /-- self-test attempts of the readmission in progress; R80; reset 0 -/
  attempts : Nat := 0
  /-- transitions asked for inside the tick, in order: 1 quarantine by detail, 2 readmit, 3 out of service; R75, R79; reset empty -/
  requests : List (Nat × Nat) := []
  /-- readmission or rebuild in progress; R80, R440; reset none -/
  rebuild : Rebuild := .none
  /-- the rebuild is that of a partition reset, without self-test; R440; reset false -/
  forReset : Bool := false
  /-- reset epoch; 2 bits; R84; reset 0 -/
  epoch : BitVec 2 := 0
  /-- readmitted while a plan ran, at this bell count, and not used before a recovery step announced since; R82; reset none -/
  benched : Option Int := none
  /-- region table, 16 entries; R174 Table MEM-1; reset all zero -/
  regions : List Region := []
  /-- 0x2620:09 uncorrectable count; 32 bits saturating; R173; reset 0 -/
  ueCount : U32 := 0
  /-- bell counts of the last uncorrectable errors; Table TILE-7 detail 2; reset empty -/
  ueBells : List Int := []
  /-- SRAM, 768 KiB; R66; reset zero (R181: DESIGN CHOICE before a load, log 3) -/
  sram : Memory := {}
  /-- index matcher: keys and values; R104; reset empty -/
  matcher : List MatchEntry := []
  /-- override slots 0 to 7 written by FMAP; R90, R105; reset empty -/
  slots : List (Nat × Desc) := []
  /-- sequencer; R88 -/
  seq : Sequencer := {}
  /-- gleaner's next 16-byte unit; R193; reset 0 -/
  patrol : Nat := 0
deriving DecidableEq, Repr

/-- A transfer record bound to its mesh slot entry in this tick (R106). `late` sends poison (R107). -/
structure Transfer where
  entry : Nat
  tile : Nat
  opcode : Nat
  late : Bool
  words : List FWord
  dest : Option Desc
  tally : Nat
  amount : Nat
  binding : Nat
  /-- the increment of a TINC has been made (R108) -/
  made : Bool := false
deriving DecidableEq, Repr

/-- Reply data of a read entry, read at the responder (R71, R78). -/
structure Reply where
  entry : Nat
  rep : Nat
  words : List FWord
  /-- the tile that answers, the tile that asked, the owner of the entry, and the words of the requester's SRAM that flits still to
  come write; R84 -/
  responder : Option Nat := none
  requester : Nat := 0
  owner : Nat := 0
  rest : List Nat := []
deriving DecidableEq, Repr

/-- Sink data at the emit hub (R108): binding, words, whether every flit has arrived. -/
structure Emitted where
  binding : Nat
  words : List FWord
  complete : Bool
deriving DecidableEq, Repr

structure MeshUnit where
  /-- transfer records that have issued in this tick; R106, R107; reset empty -/
  transfers : List Transfer := []
  /-- read data waiting to reach their requesters; R71; reset empty -/
  replies : List Reply := []
  /-- sink data of the current tick; R108; reset empty -/
  emitted : List Emitted := []
  /-- sink data of the previous tick, for carried commits; R22; reset empty -/
  carried : List Emitted := []
  /-- tier of the previous tick, whose carried commits fall in this one; R22; reset none -/
  carriedTier : Option Nat := none
  /-- input record latched at step 3, 32 bytes; R356; reset empty -/
  inputRecord : List Byte := []
deriving DecidableEq, Repr

/-! ## Memory and integrity -/

/-- A block queued for reload: tile, address of the 4 KiB block (R196). -/
structure ReloadBlock where
  tile : Nat
  addr : Nat
deriving DecidableEq, Repr

/-- A service request held at a channel in self-refresh (R191): who asks, its offset, the data of a write or the length of a
read. -/
structure HeldRequest where
  principal : Principal
  offset : Nat
  data : Option (List Byte)
  ep : Bool
  length : Nat
deriving DecidableEq, Repr

structure MemoryUnit where
  /-- mailbox SRAM, 8 MiB; Table HOST-3; reset DESIGN CHOICE zero (log 3) -/
  mailbox : Memory := {}
  /-- LP5X, usable bytes; R187; reset DESIGN CHOICE zero (log 3) -/
  lp5x : Memory := {}
  /-- where the golden store begins in usable capacity; R179; reset DESIGN CHOICE 0 (log 13) -/
  goldenBase : Nat := 0
  /-- 0x2600:01 to :06 counters; 32 bits, saturating; R199; reset 0 -/
  sramCorrected : U32 := 0
  sramUncorrectable : U32 := 0
  poisonConsumed : U32 := 0
  lp5xCorrected : U32 := 0
  lp5xUncorrectable : U32 := 0
  forcedRefresh : U32 := 0
  /-- 0x2610:04, :05 passes; 32 bits; R193; reset 0 -/
  sramPasses : U32 := 0
  lp5xPasses : U32 := 0
  /-- reload queue, at most 64 blocks; R196 (0x2610:06); reset empty -/
  reload : List ReloadBlock := []
  /-- gleaner's next unit of mailbox SRAM, and next byte of each LP5X channel; R193; reset 0 -/
  mailboxPatrol : Nat := 0
  lp5xPatrol : Store := []
  /-- uncorrectable words queued for rewrite as poison: memory (tile, 0x100 + channel, 0x110) and word; R173; reset empty -/
  rewrite : List (Nat × Nat) := []
  /-- ECC_CORRECTED per source: count since the last entry, bell of the last entry; R172; reset empty -/
  corrected : List (Nat × Nat × Option Int) := []
  /-- sources that logged ECC_POISON_CONSUMED in this tick; R186; reset empty -/
  poisonLogged : List Nat := []
  /-- partitions whose memory-event tally is incremented at the next bell; R195; reset empty -/
  memEvents : List Nat := []
  /-- LP5X channels in self-refresh; R190; reset empty -/
  selfRefresh : List Nat := []
  /-- service requests held at channels in self-refresh; R191; reset empty -/
  held : List HeldRequest := []
  /-- channels whose DRAM reports a higher refresh rate; R188; reset empty -/
  hot : List Nat := []
deriving DecidableEq, Repr

/-! ## Partitions and tallies -/

structure PartState where
  /-- 0x2300 + p:03 consecutive overruns; 8 bits; R25; reset 0 -/
  overruns : Nat := 0
  /-- :04 completed ticks; 32 bits, wraps; Table PART-6; reset 0 -/
  completed : U32 := 0
  /-- :07 last notified tally; reset 0xFFFF -/
  lastNotified : Nat := 0xFFFF
  /-- :09 notice count; 32 bits, wraps; reset 0 -/
  notices : U32 := 0
  /-- overrun in the current tick; R20; reset false -/
  overrun : Bool := false
  /-- failed the current tick; R69; reset false -/
  failed : Bool := false
  /-- the previous tick was overrun or failed: its carried commits are withheld; R22; reset false -/
  prevBad : Bool := false
  /-- partition reset requested for the next bell; R211; reset false -/
  resetRequest : Bool := false
  /-- partition reset in progress; R440; reset false -/
  resetting : Bool := false
  /-- the last tile is rewritten: runs from the next bell; R440; reset false -/
  rebuilt : Bool := false
  /-- idle in this tick, and in the previous one, under the half rate of stage 3; R376; reset false -/
  skipTick : Bool := false
  prevSkip : Bool := false
deriving DecidableEq, Repr

/-- A tally (R213, R214). -/
structure Tally where
  value : U32 := 0
  reached : Bool := false
  /-- the tile cycle of the running tick at which the target was reached, negative for a tick before it; none where the increment's
  command names no cycle (R92, R215; log 171) -/
  at_ : Option Int := none
deriving DecidableEq, Repr

/-! ## Drove links -/

/-- Table DROVE-8. -/
inductive PortMode where
  | disabled
  | down
  | training
  | probation
  | eligible
deriving DecidableEq, Repr

structure Port where
  /-- 0x2700 + p:01 state; Table DROVE-8; reset DISABLED (0) -/
  mode : PortMode := .disabled
  /-- :02 peer; 16 bits; reset 0xFFFF -/
  peer : U16 := 0xFFFF
  /-- :03 hop delay, ps; 32 bits; R239; reset 0 -/
  hopPs : Nat := 0
  /-- :04 CRC failures, :05 retries sent, :06 cells lost; 32 bits saturating; reset 0 -/
  crcFails : U32 := 0
  retries : U32 := 0
  lost : U32 := 0
  /-- :07 probation CRC failures; 8 bits; R249; reset 0 -/
  probationFails : Nat := 0
  /-- :08 probation bells remaining; R249; reset 0 -/
  probation : Nat := 0
  /-- next training phase 1 to 4; R248; reset 1 -/
  phase : Nat := 1
  /-- consecutive failed phases; R248; reset 0 -/
  trainFails : Nat := 0
  /-- training starts or goes on in the next slot; R248; reset false -/
  wantTrain : Bool := false
  /-- the receiver sees signal; R248; reset DESIGN CHOICE false (log 5) -/
  signal : Bool := false
  /-- the link of the port is one recorded at formation; R247; reset false -/
  recorded : Bool := false
  /-- plan ID, and member, that phase 4 reported; R250; reset none -/
  peerPlan : Option (Nat × U64) := none
  /-- bells since training failed for good; R248; reset none -/
  retryIn : Option Nat := none
  /-- retry requests to serve, in order of arrival: slot asked for, slot of arrival; R232; reset empty -/
  requests : List (Nat × Nat) := []
  /-- cells sent or relayed in this tick by slot; R232; reset empty -/
  sentCells : List (Nat × Cell) := []
  /-- slots whose cell this receiver still asks for; R232; reset empty -/
  asking : List Nat := []
  /-- frame of the tick in whose control position it last asked; R222, R232; reset 0 -/
  askedFrame : Nat := 0
  /-- relays waiting for an unused retry slot: slot usable from, cell; R233; reset empty -/
  relays : List (Nat × Cell) := []
deriving DecidableEq, Repr

/-- A cell held for a receive or forward entry (R225, R234): entry, cell number, words. -/
structure HeldCell where
  entry : Nat
  number : Nat
  words : List FWord
deriving DecidableEq, Repr

structure DroveUnit where
  /-- ports DRV0 to DRV7 -/
  ports : Vector Port 8 := Vector.replicate 8 {}
  /-- 0x2710:01 domain state, 0 to 3; reset 0 -/
  domain : Nat := 0
  /-- 0x2710:02 topology; reset 0 -/
  topology : Nat := 0
  /-- 0x2710:07, :08 present members; 128 bits; reset 0 -/
  present : BitVec 128 := 0
  /-- 0x2710:09, :0A lost members; 128 bits; R247; reset 0 -/
  lost : BitVec 128 := 0
  /-- 0x2710:0B depth; reset 0 -/
  depth : Nat := 0
  /-- 0x2710:0E formation failure; Table DROVE-6; reset 0 -/
  failure : Nat := 0
  /-- 0x2000:04 member ID; R237; reset 0 -/
  memberId : Nat := 0
  /-- probe graph gathered so far; R239; reset empty -/
  graph : List GraphLink := []
  /-- a second device strapped as bellwether has answered; R239; reset false -/
  second : Bool := false
  /-- port over which the first formation probe came, towards the bellwether; R239; reset none -/
  parent : Option PortNo := none
  /-- member numbers given at formation, by serial number; R237; reset empty -/
  ids : List (Nat × Nat) := []
  /-- ends of links that are down, as link reports tell: member, port; R247; reset empty -/
  linkDown : List (Nat × Nat) := []
  /-- links recorded at formation: member and port of either end; R247; reset empty -/
  links : List ((Nat × Nat) × (Nat × Nat)) := []
  /-- cells held in this tick; R225, R234; reset empty -/
  cells : List HeldCell := []
  /-- data that a flow's deadline delivered: receive entry, words; R234; reset empty -/
  delivered : List (Nat × List FWord) := []
  /-- data of the DSENDs of this tick: flow, words, late; R106, R235; reset empty -/
  outgoing : List (Nat × List FWord × Bool) := []
  /-- flows whose loss was logged in this tick; R234; reset empty -/
  lossLogged : List Nat := []
  /-- lost members that wait for the readmission restart; R250; reset empty -/
  readmit : List Nat := []
  /-- those of them whose restart is announced; R250; reset empty -/
  returning : List Nat := []
  /-- lost members to be sent their image first, and how many bytes of it the slots have carried, oldest first; R251; reset empty -/
  resend : List (Nat × Nat) := []
  /-- number of the formation under way, as its probes carry it; R239, the model's own (log 84); reset 0 -/
  round : Nat := 0
deriving DecidableEq, Repr

/-! ## Per-principal copies, host ports -/

/-- Gateway request of one principal (Table DROVE-7). -/
structure Gateway where
  target : Nat := 0
  object : Nat := 0
  low : U32 := 0
  high : U32 := 0
  status : Nat := 0
  abort : U32 := 0
  /-- the command outstanding is a write -/
  write : Bool := false
  /-- the request has left in a maintenance slot; R17, R243 -/
  sent : Bool := false
deriving DecidableEq, Repr

/-- Indirect window of one principal (Table OD-3a). -/
structure Indirect where
  target : U32 := 0
  status : Nat := 0
  abort : U32 := 0
  length : Nat := 0
  data : List U32 := List.replicate 16 0
deriving DecidableEq, Repr

/-- The objects of R307 and the mirror state of R257, R258, held once per principal. Every copy is 0 after cold reset. -/
structure Copy where
  /-- 0x2620:01 tile select; 8 bits; R307; reset 0 -/
  tileSelect : TileNo := 0
  /-- 0x2620:04 region select; R307; reset 0 -/
  regionSelect : Nat := 0
  /-- mailbox shown in the window, 0x2D00 + m:08; R262; reset none -/
  view : Option (Fin 64) := none
  /-- 0x2E00:01 tally select; R219; reset 0 -/
  tallySelect : Nat := 0
  /-- 0x2710:10 to :16; R243 -/
  gateway : Gateway := {}
  /-- 0x2F02; R309 -/
  indirect : Indirect := {}
  /-- high word latched by a low-word read, with the object's key; R257; reset none -/
  latched : Option (Nat × U32) := none
  /-- words of longer objects that are held until the last one is written, by object key × 16 + word; R257; reset empty -/
  held : List (Nat × U32) := []
  /-- mirror abort words: code, index and subindex; R258; reset 0 -/
  abortCode : U32 := 0
  abortObject : U32 := 0
deriving DecidableEq, Repr

/-- R261. -/
inductive BackBuffer where
  | empty
  | filling
  | pending
deriving DecidableEq, Repr

structure Mailbox where
  /-- 0x2D00 + m:01 generation; 32 bits; R261; reset 0 -/
  generation : U32 := 0
  /-- :02 flags; R261; reset 0 -/
  ready : Bool := false
  poisoned : Bool := false
  stale : Bool := false
  overrun : Bool := false
  /-- :03 length; R261; reset 0 -/
  length : Nat := 0
  /-- :04 skip count, :05 drop count; 32 bits saturating; reset 0 -/
  skips : U32 := 0
  drops : U32 := 0
  /-- back buffer; R261; reset EMPTY -/
  back : BackBuffer := .empty
  /-- which of the two buffers is the front one; R261; reset false -/
  front : Bool := false
  /-- length and poison of the result in the back buffer; R261; reset 0 -/
  backLength : Nat := 0
  backPoisoned : Bool := false
  /-- bell of the last MAILBOX_OVERRUN, and skips and drops since it; R265; reset none, 0 -/
  lastLog : Option Int := none
  newSkips : Nat := 0
  newDrops : Nat := 0
deriving DecidableEq, Repr

/-- What the ingest hub knows of the frame of one tick (R269 to R271, Table HOST-7). -/
structure CamTick where
  /-- start instant in ns and CSI-2 frame number of the frame assigned to the tick -/
  start : Option (Nat × Nat) := none
  /-- lines arrived, lines intact, lines written as poison, lines with CRC errors -/
  lines : Nat := 0
  intact : Nat := 0
  poisoned : Nat := 0
  crcErrors : Nat := 0
  /-- a line was short -/
  short : Bool := false
  /-- a second frame was discarded -/
  second : Bool := false
  /-- no frame by the cutoff -/
  missing : Bool := false
deriving DecidableEq, Repr

structure Camera where
  /-- tick of the frame whose lines arrive; none when they are discarded; R269; reset none -/
  receiving : Option Nat := none
  /-- frames by tick, until their deadline; R269, R270; reset empty -/
  ticks : List (Nat × CamTick) := []
  /-- CAM_TRIGc pulse active; R272; reset inactive -/
  pulse : Bool := false
  /-- instant at which the last pulse of CAM_TRIGc has lasted its width, ns; R272; reset 0 -/
  pulseEnd : Nat := 0
  /-- the trigger is held after a poisoned commit; Table MEM-4; reset false -/
  held : Bool := false
  /-- the last commit was withheld; R217, R24; reset false -/
  stale : Bool := false
deriving DecidableEq, Repr

structure HostUnit where
  /-- copies: 0 the PF, 1 to 31 the VFs, 32 and 33 the USDO sessions; R307 -/
  copies : Vector Copy 34 := Vector.replicate 34 {}
  /-- SR-IOV VF Enable: set by the host before a VF's first access, cleared by a reset; R252, R255; reset DESIGN CHOICE false (log 8) -/
  vfEnable : Bool := false
  /-- result mailboxes 0 to 63; R261 -/
  mailboxes : Vector Mailbox 64 := Vector.replicate 64 {}
  /-- cameras 0 to 3; R266 -/
  cameras : Vector Camera 4 := Vector.replicate 4 {}
deriving DecidableEq, Repr

/-! ## Field network -/

/-- State of a pending frame in a controller (R277, R278): not started, in arbitration, or past the sample point of its RRS bit. -/
inductive TxState where
  | pending
  | arbitrating
  | committed
deriving DecidableEq, Repr

/-- What a pending frame is, for the rules that abort or replace it (R278 Table FIELD-3). -/
inductive TxKind where
  | tpdoBound (n : Nat)
  | tpdo (n : Nat)
  | sync
  | time
  | emcy
  | heartbeat
  | bootup
  | vote
  | homing (a : Nat)
  | usdo
deriving DecidableEq, Repr

structure TxFrame where
  frame : CanFrame
  kind : TxKind
  state : TxState := .pending
  /-- cause of an abort request that met it in arbitration or after it had won; once it has won, ABORT_LATE is set; R278 -/
  abortLate : Option Nat := none
deriving DecidableEq, Repr

/-- R280. -/
inductive CanState where
  | errorActive
  | errorPassive
  | busOff
  | recovering
  | asleep
deriving DecidableEq, Repr

structure Controller where
  /-- 0x2300:28, :29 fields; R280; reset 0 -/
  tec : Byte := 0
  recc : Byte := 0
  state : CanState := .errorActive
  busOffs : Nat := 0
  /-- buffers: pending frames; R277; reset empty -/
  buffers : List TxFrame := []
  /-- frames that wait for an aborted one to end; R278; reset empty -/
  queued : List TxFrame := []
  /-- halt buffer (FCAN0): inputs whose frame is pending; R355; reset empty -/
  halt : List (Fin 16) := []
  /-- the halt frame that is in arbitration or on the bus; R277; reset none -/
  haltOnBus : Option (Fin 16) := none
  /-- timing words in use since the controller last integrated to the bus: nominal and data word; R275; reset the defaults of
  Table FIELD-2 -/
  nominal : Nat := 0x7E3E7C00
  dataWord : Nat := 0xF3B80000
  /-- USDO session: the open segmented transfer; R284; reset none -/
  transfer : Option (Nat × List Byte × Bool) := none
deriving DecidableEq, Repr

/-- NMT states (R281, R282). -/
inductive Nmt where
  | initialisation
  | preOperational
  | operational
  | stopped
deriving DecidableEq, Repr

/-- An RPDO as received (R289). -/
structure Rpdo where
  /-- data that count for the next tick -/
  next : Option (List Byte) := none
  /-- last latched data -/
  data : List Byte := []
  /-- nothing has been received yet; R289; reset true -/
  never : Bool := true
  /-- no frame within the reception timeout; R290; reset false -/
  timeout : Bool := false
  /-- bell count of the bell at which the data were latched; R289; reset 0 -/
  tick : Nat := 0
deriving DecidableEq, Repr

/-- An unbound TPDO as its services keep it (R288; CiA 301, log 20). -/
structure Tpdo where
  /-- data of its last frame -/
  last : Option (List Byte) := none
  /-- an event or its timer met the inhibit time -/
  due : Bool := false
  /-- end of the inhibit time, ns -/
  nextAt : Nat := 0
  /-- SYNCs counted since its last frame; none before the SYNC of its start value -/
  syncs : Option Nat := none
deriving DecidableEq, Repr

/-- Table FIELD-7. -/
inductive SleepPhase where
  | awake
  | quiet
  | arming
  | pastPnr
deriving DecidableEq, Repr

structure FieldUnit where
  /-- controllers FCAN0 and FCAN1; R275 -/
  can : Vector Controller 2 := Vector.replicate 2 {}
  /-- NMT state; R281; reset Initialisation -/
  nmt : Nmt := .initialisation
  /-- 0x1001 error register; 8 bits; R294; reset 0 -/
  errorReg : Byte := 0
  /-- EMCYs waiting, at most 8; R294; reset empty -/
  emcy : List (List Byte) := []
  /-- the inhibit time runs since the last EMCY; R294; reset false -/
  emcyInhibit : Bool := false
  /-- RPDOs 1 to 32; R289 -/
  rpdos : Vector Rpdo 32 := Vector.replicate 32 {}
  /-- TPDOs in force that stay silent until a later tier's commit; R287; reset false -/
  tpdoMuted : Bool := false
  /-- unbound TPDOs; R288, R292; reset: nothing sent or counted -/
  tpdos : Vector Tpdo 32 := Vector.replicate 32 {}
  /-- 0x2300:35 sleep phase; Table FIELD-7; reset AWAKE -/
  sleep : SleepPhase := .awake
  /-- controllers that take part; R296; reset 0 -/
  sleepMask : BitVec 2 := 0
  /-- Q, and PNR's instant, ns; R297; reset 0 -/
  quietAt : Nat := 0
  pnrAt : Nat := 0
  /-- selective wake armed; R297; reset false -/
  armed : Bool := false
  /-- last frame on a participating controller, ns; R297; reset 0 -/
  lastFrame : Nat := 0
  /-- FCANc_SWE asserted; R297; reset false -/
  swe : BitVec 2 := 0
  /-- FCANc_STBN in standby; R297, Table PINS-7; reset true -/
  standby : BitVec 2 := 3
  /-- a wake latched after PNR: controller, µs from PNR; R299, kept by the island; reset none -/
  wakeAfterPnr : Option (Nat × Nat) := none
deriving DecidableEq, Repr

/-! ## Mandible drivers -/

/-- How the switches of a channel stand (R320). -/
inductive Drive where
  /-- both switches open -/
  | off
  /-- high and low side closed -/
  | on
  /-- low side closed, current recirculating -/
  | freewheel
  /-- both open, current into the boost rail -/
  | recover
  /-- bridge reverse diagonal closed -/
  | reverse
deriving DecidableEq, Repr

structure Channel where
  /-- current phase record, none when idle; R323; reset none -/
  record : Option Nat := none
  /-- kind of the current phase; Table MAND-8 [7:4]; reset 0 -/
  kind : Nat := 0
  /-- how the switches stand; R320; reset off -/
  drive : Drive := .off
  /-- setpoint and hold override of the last commit, mA; R326; reset 0 -/
  setpoint : Nat := 0
  holdOverride : Nat := 0
  /-- a start has occurred since the last reverse pulse; Table MAND-6; reset false -/
  startedSince : Bool := false
  /-- instant the phase began, ns; R321, R323; reset 0 -/
  phaseAt : Nat := 0
  /-- held by its safe state of hold, indefinitely and without dither; Table MAND-6; reset false -/
  safeHold : Bool := false
  /-- :03 status flags; Table MAND-8; reset 0 -/
  stale : Bool := false
  safe : Bool := false
  poisoned : Bool := false
  latched : Bool := false
  openLoad : Bool := false
  shortGnd : Bool := false
  shortSupply : Bool := false
  shortRamp : Bool := false
  thermal : Bool := false
  duty : Bool := false
  peakMissed : Bool := false
  recoverAsFreewheel : Bool := false
  direct : Bool := false
  probe : Nat := 0
  /-- last probe class and how many equal in a row; R335; reset 0 -/
  probeRun : Nat × Nat := (0, 0)
  /-- :04 measured current, mA; R319; reset 0 -/
  current : Int := 0
  /-- sum of I² in mA² and samples of the running millisecond; R332; reset 0 -/
  sumSq : Nat := 0
  samples : Nat := 0
  /-- a switch was closed in the running millisecond, release and decay excluded; R333; reset false -/
  closedMs : Bool := false
  /-- coil temperature T_c, °C; R332 (:0F); reset T_a, so 0 with the default profile -/
  coil : Rat := 0
  /-- milliseconds of the duty window in which a switch was closed, newest first; R333; reset empty -/
  dutyBits : List Bool := []
  /-- record whose switch-off mode carries the decay of an idle channel; R323, R327; reset none -/
  decay : Option Nat := none
  /-- instant the channel became idle, ns; R335; reset 0 -/
  idleAt : Nat := 0
  /-- end of the 2 µs between the two diagonals of a bridge, ns; R316; reset 0 -/
  gapUntil : Nat := 0
  /-- instant of the last start, instant of the last open load; R336; reset 0 -/
  startedAt : Nat := 0
  openAt : Nat := 0
deriving DecidableEq, Repr

structure MandibleUnit where
  /-- channels 0 to 7; R315 -/
  channels : Vector Channel 8 := Vector.replicate 8 {}
  /-- 0x2810:02 boost voltage, mV; reset 0 -/
  boostMv : Nat := 0
  /-- platform voltage the boost controller sees, mV; R317 [4]; reset DESIGN CHOICE 0 (log 5) -/
  platformMv : Nat := 0
  /-- overvoltage in force with its 105 % release; R318; reset false -/
  overLimit : Bool := false
deriving DecidableEq, Repr

/-! ## Angle engine, limits, homing -/

/-- Table ANGLE-2. -/
inductive Sync where
  | search
  | provisional
  | locked
  | lost
deriving DecidableEq, Repr

structure Wheel where
  /-- 0x2900 + w:05 sync state; reset SEARCH -/
  sync : Sync := .search
  /-- count k; R341; reset 0 -/
  k : Nat := 0
  /-- instant of the last accepted or inferred tooth; R342; reset none -/
  last : Option Nat := none
  /-- :07 reference period, ns; R342; reset 0 -/
  tRef : Nat := 0
  /-- periods seen in SEARCH since it began; Table ANGLE-2; reset 0 -/
  periods : Nat := 0
  /-- :06 position last shown in LOCKED; R344; reset 0 -/
  position : Nat := 0
  /-- :08 noise, :09 teeth inferred; 32 bits saturating; R343, R350; reset 0 -/
  noise : U32 := 0
  inferred : U32 := 0
  /-- :0A last slip; 16 bits; R351; reset 0 -/
  slip : Int := 0
  /-- noise since the last entry, instant of that entry; R343; reset 0, none -/
  newNoise : Nat := 0
  noiseLog : Option Nat := none
  /-- inferred interval: teeth, events suppressed, events fired, first position; R350; reset none -/
  interval : Option (Nat × Nat × Nat × Nat) := none
  /-- events fired in the current revolution; R351; reset 0 -/
  fired : Nat := 0
  /-- first position that the last accepted tooth brought within reach: the one after the position it found; R346; reset 0 -/
  reach : Nat := 0
deriving DecidableEq, Repr

structure AngleEvent where
  /-- :05 last timestamp; 32 bits; R346; reset 0 -/
  stamp : U32 := 0
  /-- armed by its binding's last commit; R346, R347; reset false -/
  armedByCommit : Bool := false
  /-- fired or suppressed in this revolution; R346, R349; reset false -/
  spent : Bool := false
deriving DecidableEq, Repr

structure Limit where
  /-- :06 debounced level active; R352; reset 0 -/
  level : Bool := false
  /-- seen (glitch-filtered) level active, and instant of its last transition; R352; reset false, none -/
  seen : Bool := false
  seenAt : Option Nat := none
  /-- :06 tripped, chattering; R353, R352; reset false -/
  tripped : Bool := false
  chatter : Bool := false
  /-- instants of the last seen transitions, newest first; R352; reset empty -/
  transitions : List Nat := []
  /-- :08 trip count; 32 bits saturating; reset 0 -/
  trips : U32 := 0
deriving DecidableEq, Repr

structure Homing where
  /-- 0x2A20 + a:09 state; Table ANGLE-5; reset 0 -/
  state : Nat := 0
  /-- :0A latched position; 32 bits; R359; reset 0 -/
  latchedPos : Int := 0
  /-- last drive frame: instant, position; R357, R359; reset none -/
  frame : Option (Nat × Int) := none
  /-- start instant of the moving phases, for the drive timeout; R359; reset 0 -/
  since : Nat := 0
  /-- instant of the home edge whose position is still to be computed; R359; reset none -/
  edgeAt : Option Nat := none
  /-- position of the seek edge; R358; reset none -/
  edgePos : Option Int := none
deriving DecidableEq, Repr

structure AngleUnit where
  /-- wheels 0 and 1; R340 -/
  wheels : Vector Wheel 2 := Vector.replicate 2 {}
  /-- events 0 to 63 of wheel 0, then of wheel 1 -/
  events : Vector AngleEvent 128 := Vector.replicate 128 {}
  /-- ANG_OUT0 to 7; R346; reset low -/
  angOut : BitVec 8 := 0
  /-- instant at which the pulse of each ends, ns; R346; reset 0 -/
  angEnd : Vector Nat 8 := Vector.replicate 8 0
  /-- limit inputs 0 to 15; R352 -/
  limits : Vector Limit 16 := Vector.replicate 16 {}
  /-- homing axes 0 to 7; Table ANGLE-5 -/
  homing : Vector Homing 8 := Vector.replicate 8 {}
  /-- HALT_OUT driven low outside R355: by the boot (Table PINS-7) or a rail failure (R367); reset true -/
  haltForced : Bool := true
deriving DecidableEq, Repr

/-! ## Power, thermal -/

structure PowerUnit where
  /-- 0x2400:01 shed stage; R371; reset 0 -/
  stage : Nat := 0
  /-- last ADC codes, newest first, at most 10; R368; reset empty -/
  codes : List Nat := []
  /-- 0x2400:02 V_plat, mV; R368; reset 0 -/
  vplat : Int := 0
  /-- the first evaluation after wake is done; R380; reset false -/
  evaluated : Bool := false
  /-- V_plat has stayed above the rise threshold of the stage since; R372; reset none -/
  aboveSince : Option Nat := none
  /-- instant of the last stage change; R372; reset 0 -/
  changedAt : Nat := 0
  /-- VDD_CORE setpoint, mV; R362, R365; reset 750 -/
  vddMv : Nat := 750
  /-- a raise written in this slot awaits its readback: target, mV; R366; reset none -/
  raise : Option Nat := none
  /-- bells since the last PMBus poll; R364; reset 0 -/
  pollBells : Nat := 0
deriving DecidableEq, Repr

structure ThermalUnit where
  /-- last reading of each of the 264 sensors, 0.1 °C; R383; reset DESIGN CHOICE 0 (log 5) -/
  reading : Vector Int 264 := Vector.replicate 264 0
  /-- sensors judged faulty; R384; reset empty -/
  faulty : List Nat := []
  /-- consecutive deviating samples per tile sensor; R384; reset 0 -/
  deviates : Store := []
  /-- model: temperature predicted for the next bell, and correction e_t, per tile; R389, R390; reset 0 -/
  predicted : List (Nat × Rat) := []
  correction : List (Nat × Rat) := []
  /-- 0x2500:05 forecast peak, 0.1 °C; R391; reset 0 -/
  peak : Int := 0
  /-- demands: forecast, measured; R392; reset 0 -/
  forecast : Nat := 0
  measured : Nat := 0
  /-- the no-flow condition stands; R394; reset false -/
  noFlow : Bool := false
  /-- bells at or above θ_s since the measured demand last moved; R392; reset 0 -/
  hotBells : Nat := 0
  /-- 0x2510:01, :02 NTC readings, 0.01 °C, none when faulty; R385; reset some 0 -/
  inlet : Option Int := some 0
  outlet : Option Int := some 0
  /-- 0x2510:03 flow, mL/min; R386; reset 0 -/
  flow : Nat := 0
  /-- 0x2510:08 heat removal, W; R387; reset 0 -/
  heat : Nat := 0
  /-- instants of the flow pulses of the last second, newest first; R386; reset empty -/
  pulses : List Nat := []
  /-- flow at or below the minimum since, and at or above it since; R394; reset none -/
  lowSince : Option Nat := none
  okSince : Option Nat := none
  /-- load commands refused after a trip; R388; reset false -/
  tripped : Bool := false
deriving DecidableEq, Repr

/-! ## Chrysalis island, radio, boot -/

/-- States of the island (Table CHRY-8). -/
inductive IslandState where
  | mainOn
  | poweringDown
  | chrysalis
  | waking
  | wakeFailed
deriving DecidableEq, Repr

/-- The calendar's fields (Table CHRY-4); numbers as stored, valid or not. -/
structure Calendar where
  year : Nat := 0
  month : Nat := 1
  weekday : Nat := 0
  day : Nat := 1
  hours : Nat := 0
  minutes : Nat := 0
  seconds : Nat := 0
  sub : Nat := 0
deriving DecidableEq, Repr

structure Island where
  /-- 0x2B00:01 [31:28]; R414; reset WAKING (cold reset with VDD_AUX present) -/
  state : IslandState := .waking
  /-- attempts in the wake series, [23:16]; R381; reset 1 (the attempt of the cold reset) -/
  attempts : Nat := 1
  /-- the attempt under way has failed and the next one waits; R381; reset false -/
  waiting : Bool := false
  /-- 0x2B00:02 last wake source; Table CHRY-9; reset 0 -/
  lastWake : Nat := 0
  /-- 0x2B00:03 wake failure code; reset 0 -/
  failCode : Nat := 0
  /-- event code, and rail or 0xFF, of the last failed attempt; Table POWER-3; reset 0, 0xFF -/
  failKind : Nat := 0
  failRail : Nat := 0xFF
  /-- pending wake sources; 7 bits; R416; reset 0 -/
  pendingWakes : BitVec 7 := 0
  /-- a source held until the last rail is removed: its code; R416; reset none -/
  heldWake : Option Nat := none
  /-- instant at which the recorded or held source fired, ns; R416; reset none (the cold reset's own series) -/
  wakeAt : Option Nat := none
  /-- the rail-failure retry is due; R367; reset false -/
  railRetry : Bool := false
  /-- rails enabled, counted from rail 0; R361; reset 1: the wake of the cold reset has asserted VREG_EN0 -/
  rails : Nat := 1
  /-- 50 MHz reference enabled; R381; reset false -/
  refEnabled : Bool := false
  /-- crystal fault [15]; R407; reset false -/
  crystalFault : Bool := false
  /-- a crystal fault since the last boot; R407, R443; reset false -/
  crystalFaultLog : Bool := false
  /-- FAULT_N driven low [14]; R381, R437; reset false -/
  faultN : Bool := false
  /-- interface locked [13]; R402; reset false -/
  locked : Bool := false
  /-- alarm fired [12], invalid date written [11], store low warning [10]; reset false -/
  alarmFired : Bool := false
  invalidDate : Bool := false
  lowWarning : Bool := false
  /-- 0x2B00:05 supply source: VDD_AUX in use; R396; reset 0, VSTORE, by Table OD-10 -/
  onAux : Bool := false
  /-- calendar 0x2B10; R403; reset 2000-01-01 -/
  calendar : Calendar := {}
  /-- instant of the last write or carry, for the sub-second count; R404; reset 0 -/
  subAt : Nat := 0
  /-- FREEZE shadow, and whether the timeout released one; R410; reset none, false -/
  shadow : Option Calendar := none
  expired : Bool := false
  /-- the island has a supply; R399; reset DESIGN CHOICE true (log 5) -/
  supplied : Bool := true
  /-- store switch open after a cutoff, open after an overcurrent trip; R397; reset DESIGN CHOICE false, closed (log 5) -/
  cutOff : Bool := false
  ocOpen : Bool := false
  /-- cutoff latch [6], overcurrent trip [7]; Table CHRY-2; reset false -/
  cutoffLatch : Bool := false
  overcurrent : Bool := false
  /-- charging held: temperature window [4], NTC open or shorted [8]; at target [3]; reset false -/
  tempOut : Bool := false
  ntcBad : Bool := false
  atTarget : Bool := false
  /-- VCHG present, HV_PV above 0.35 V, TEG booster running; R398, R400; reset DESIGN CHOICE false (log 5) -/
  vchg : Bool := false
  pvOk : Bool := false
  teg : Bool := false
  /-- PV regulation point, mV; R400; reset 0 -/
  pvPoint : Nat := 0
  /-- 0x2B30:01 store mV, :03 PV mV, :04 TEG mV, :05 harvested µW, :06 store 0.1 °C; reset 0 -/
  storeMv : Nat := 0
  pvMv : Nat := 0
  tegMv : Nat := 0
  harvested : Nat := 0
  storeTemp : Int := 0
  /-- the low warning arose while the main domain was down; R399; reset false -/
  lowWarningLog : Bool := false
deriving DecidableEq, Repr

structure Radio where
  /-- network key 0x2C00:06; 128 bits; R422; reset unset -/
  key : Option (BitVec 128) := none
  /-- outgoing frame counter; 32 bits; R422; reset 0 -/
  counter : U32 := 0
  /-- replay table, most recently used first, at most 8; R423; reset empty -/
  replay : List (U64 × U32) := []
  /-- 0x2C00:08 [2] halt, [3] refusal; R427, R431; reset false -/
  halt : Bool := false
  refused : Bool := false
  /-- values in force since the last slot boundary: region, PAN ID, short address, interval; R424; reset the defaults -/
  region : Nat := 0
  panId : Nat := 0xFFFF
  address : Nat := 0xFFFF
  interval : Nat := 2000
  /-- slot in progress and its channel; R419; reset 0 -/
  slot : Nat := 0
  channel : Nat := 0
  /-- receiving; R424; reset false -/
  rx : Bool := false
  /-- acknowledgement due on a channel; R426; reset none -/
  ackDue : Option Nat := none
  /-- a slot boundary fell in the reception; R424; reset false -/
  crossed : Bool := false
  /-- locates that wait for their status beacon, oldest first: RSSI; R428; reset empty -/
  beaconDue : List Byte := []
  /-- beacons that wait for the end of a reception: type, RSSI; R428; reset empty -/
  beaconWaits : List (Nat × Byte) := []
  /-- the beacon of the entry into CHRYSALIS, the first fault beacon of WAKE_FAILED; R428; reset false -/
  chrysalisBeacon : Bool := false
  faultBeacon : Bool := false
  /-- transmissions counted, newest first: end in ms, region × 256 + channel, ms; R430; reset empty -/
  record : List (Nat × Nat × Nat) := []
  /-- 0x2C10:03 refusals; 32 bits saturating; R431; reset 0 -/
  refusals : U32 := 0
  /-- refusals when the main domain last went down; R431; reset 0 -/
  refusalsDown : U32 := 0
  /-- instant of the last RADIO_DWELL_REFUSED, ns; R431; reset none -/
  refusedLog : Option Nat := none
deriving DecidableEq, Repr

/-- A key slot of the fuses (Table BOOT-4). -/
structure KeySlot where
  programmed : Bool := false
  revoked : Bool := false
  digest : BitVec 256 := 0
deriving DecidableEq, Repr

/-- What the main domain's core runs. -/
inductive BootPhase where
  | off
  | rom
  | recovery
  | starting
  | dmf
deriving DecidableEq, Repr

/-- Facts fixed by silicon, fuses and board, kept through every reset (Table BOOT-4, Table SCOPE-1). -/
structure Board where
  /-- 0x2000:02 silicon revision; 16 bits; by silicon; DESIGN CHOICE 0 (log 4) -/
  silicon : U16 := 0
  /-- 0x1018:04 serial; 32 bits; from fuses; DESIGN CHOICE 0 (log 4) -/
  serial : U32 := 0
  /-- installed LP5X, bytes; R187; DESIGN CHOICE 64 GiB (log 4) -/
  lp5xBytes : Nat := 64 * 2 ^ 30
  /-- firmware and plan key slots 0 to 3; Table BOOT-4; DESIGN CHOICE unprogrammed (log 4) -/
  fwKeys : Vector KeySlot 4 := Vector.replicate 4 {}
  planKeys : Vector KeySlot 4 := Vector.replicate 4 {}
  /-- rollback counter, 0 to 64; Table BOOT-4; DESIGN CHOICE 0 (log 4) -/
  rollback : Nat := 0
  /-- tile repair map; 256 bits; Table BOOT-4; DESIGN CHOICE 0 (log 4) -/
  repair : BitVec 256 := 0
  /-- boot flash; R273; unlisted bytes read 0xFF, PRESUMED (log 3) -/
  flash : List Host.Cell := []
  /-- size of the flash device, bytes; R273; DESIGN CHOICE 256 MiB (log 4) -/
  flashBytes : Nat := 256 * 2 ^ 20
  /-- regulators that answer on PMBus besides VDD_CORE's, by rail; R364; DESIGN CHOICE none (log 4) -/
  pmbus : List (Fin 6) := []
deriving DecidableEq, Repr

structure Boot where
  /-- what the main domain's core runs; R433; reset off -/
  phase : BootPhase := .off
  /-- main-domain reset released; R414, R433; reset false -/
  released : Bool := false
  /-- role straps as read since the cold reset, STRAP_ROLE1 and STRAP_ROLE0; R236, R446; reset none -/
  straps : Option (BitVec 2) := none
  /-- 0x2000:05 DMF version, and the running image's security version; Table BOOT-3; reset 0 -/
  dmfVersion : U32 := 0
  security : Nat := 0
  /-- the running image: 0 A, 1 B; R435; reset 0 -/
  image : Nat := 0
  /-- outcomes of the image selection kept for the log: event code, source, detail; R435, R443; reset empty -/
  outcomes : List (Nat × Nat × Nat) := []
  /-- boot flash port: data lines in use, and clock in MHz; R273; reset 1 and 25 -/
  flashLines : Nat := 1
  flashMhz : Nat := 25
  /-- flash descriptor: autoload, defer rollback, staging offset, plan length; Table BOOT-2; reset 0 -/
  autoload : Bool := false
  deferRollback : Bool := false
  stagingOffset : Nat := 0
  planLength : Nat := 0
  /-- LP5X trained, or training not yet failed twice; R438; reset false -/
  lp5xOk : Bool := false
  lp5xFailed : Bool := false
  /-- recovery window words 0x0, 0x4, 0x8; Table BOOT-5; reset 0 -/
  recStatus : U32 := 0
  recOffset : U32 := 0
  recData : U32 := 0
deriving DecidableEq, Repr

/-- One entry of the event log (Table OD-12). -/
structure LogEntry where
  code : Nat := 0
  source : Nat := 0
  detail : Nat := 0
  count : U64 := 0
deriving DecidableEq, Repr

/-- The event log (R312, R313). -/
structure EventLog where
  /-- 0x2F10 to 0x2F4F, 64 entries; R313; reset all zero -/
  entries : Vector LogEntry 64 := Vector.replicate 64 {}
  /-- 0x2F01 copy of the last entry; R313; reset zero -/
  last : LogEntry := {}
  /-- 0x2F00:01 entries since clear; 32 bits, wraps; reset 0 -/
  sinceClear : U32 := 0
  /-- 0x2F00:02 entries since cold reset; 32 bits, wraps; R311; reset 0 -/
  sinceReset : U32 := 0
deriving DecidableEq, Repr

/-- The dictionary's stored objects (13): the last value written, and, for objects that take effect at a bell, the value in
force (R302). -/
structure OdUnit where
  written : Store := []
  inForce : Store := []
deriving DecidableEq, Repr

/-- The whole block. -/
structure State where
  /-- commands waiting, first in first out; the block's queue; reset empty -/
  pending : List Instr := []
  /-- what the last command put out; the model's own; reset empty -/
  out : List Output := []
  /-- events raised by the command under way, logged together at its end (R313); the model's own; reset empty -/
  events : List LogEntry := []
  /-- instant of the last timed command, ns; the model's own; reset 0 -/
  now : Nat := 0
  /-- index of the next free value; the model's own; reset DESIGN CHOICE 0 (log 1) -/
  fresh : Nat := 0
  /-- facts of silicon, fuses and board -/
  board : Board := {}
  /-- startup; 20 -/
  boot : Boot := {}
  /-- 0x2000:03 role; R236; reset standalone (an open strap reads 0) -/
  role : Role := .standalone
  /-- stored objects of the dictionary; R300; reset the defaults of 13 -/
  od : OdUnit := {}
  /-- bell; 01 -/
  bell : BellUnit := {}
  /-- plan, tiers and demands; 02 -/
  plan : PlanUnit := {}
  /-- tiles 0 to 255; R66 -/
  tiles : Vector TileState 256 := Vector.replicate 256 {}
  /-- mesh traffic of the tick; 03, 04 -/
  mesh : MeshUnit := {}
  /-- memories and their integrity; 08 -/
  mem : MemoryUnit := {}
  /-- partitions 0 to 31; R200 -/
  parts : Vector PartState 32 := Vector.replicate 32 {}
  /-- the 4,096 tallies, those not at their reset value; R212; reset all 0 -/
  tallies : List (Nat × Tally) := []
  /-- drove links and the domain; 10 -/
  drove : DroveUnit := {}
  /-- host and sensor ports; 11 -/
  host : HostUnit := {}
  /-- field network; 12 -/
  field : FieldUnit := {}
  /-- mandible drivers; 14 -/
  mandible : MandibleUnit := {}
  /-- angle engine and limits; 15 -/
  angle : AngleUnit := {}
  /-- power and shedding; 16 -/
  power : PowerUnit := {}
  /-- thermal; 17 -/
  thermal : ThermalUnit := {}
  /-- chrysalis island; 18 -/
  island : Island := {}
  /-- Cicada radio; 19 -/
  radio : Radio := {}
  /-- event log; R312 -/
  log : EventLog := {}
deriving DecidableEq, Repr

/-- Reasons the block stops. -/
inductive Fault where
  /-- A measured voltage lies beyond Table PINS-9: R453 says the device may be damaged permanently and promises no rule.
  Raised by BOOST_OVERVOLTAGE, OFF_STATE_PROBE, SUPPLY_SWITCH, PV_MPPT_SAMPLE and TEG_BOOSTER_THRESHOLD. Safe: the model
  stops where the manual gives no effect. -/
  | absoluteMaximum
deriving DecidableEq, Repr

/-- Reasons the block has no meaning for a command. -/
inductive Refusal where
  /-- The command's row has no meaning yet. Raised by exec's arm for it. Safe. -/
  | notModelled (mnemonic : String)
deriving DecidableEq, Repr

/-- The block right after a cold reset with VDD_AUX present (R8, R414): the island is WAKING with wake source 0 and the main
domain is off. -/
def State.reset : State := {}

end Sys2Proof.Machine
end

