-- ==== Sys2Proof/Machine/Ops.lean ====
section
/-!
DEFINITION. The named operations over the state that every family shares: keyed lists, memories with SECDED words (08),
dictionary values (13), the event log and EMCY (13 R312, R313; 12 R294), frames handed to the CAN controllers (12 R277), free
values, and the frame of a command.
-/
namespace Sys2Proof.Machine

abbrev Result := Host.Outcome State Fault Refusal

/-! ## Keyed lists and vectors -/

/-- The value listed for a key. -/
def assocGet {α : Type} (k : Nat) : List (Nat × α) → Option α
  | [] => none
  | (j, v) :: r => if j = k then some v else assocGet k r

/-- The list with `v` for `k`; rising keys stay rising. -/
def assocPut {α : Type} (k : Nat) (v : α) : List (Nat × α) → List (Nat × α)
  | [] => [(k, v)]
  | (j, w) :: r => if k < j then (k, v) :: (j, w) :: r else if j = k then (k, v) :: r else (j, w) :: assocPut k v r

/-- The list without `k`. -/
def assocDel {α : Type} (k : Nat) : List (Nat × α) → List (Nat × α)
  | [] => []
  | (j, w) :: r => if j = k then assocDel k r else (j, w) :: assocDel k r

/-- Keys strictly rising. -/
def rising {α : Type} : List (Nat × α) → Bool
  | [] => true
  | [_] => true
  | (j, _) :: (k, w) :: r => decide (j < k) && rising ((k, w) :: r)

/-- Element `i` of a vector changed by `f`; nothing where there is no element `i`. -/
def vmod {α : Type} {n : Nat} (v : Vector α n) (i : Nat) (f : α → α) : Vector α n :=
  if h : i < n then v.set i (f v[i]) else v

/-- Element `i` of a vector, or the default. -/
def vget {α : Type} {n : Nat} (v : Vector α n) (i : Nat) (d : α) : α := v[i]?.getD d

/-! ## Memories -/

/-- The form of a memory: addresses and word indexes strictly rising, no byte equal to what an unlisted one reads as. -/
def Memory.wf (d : Byte) (m : Memory) : Bool :=
  rising m.bytes && m.bytes.all (fun c => c.2 ≠ d) && rising m.marks

/-- The byte at an address; `d` is what an unlisted address reads as. -/
def Memory.byte (d : Byte) (m : Memory) (a : Nat) : Byte := (assocGet a m.bytes).getD d

def Memory.setByte (d : Byte) (m : Memory) (a : Nat) (b : Byte) : Memory :=
  { m with bytes := if b = d then assocDel a m.bytes else assocPut a b m.bytes }

/-- Bytes from address `a` on. -/
def Memory.read (d : Byte) (m : Memory) (a : Nat) : Nat → List Byte
  | 0 => []
  | k + 1 => m.byte d a :: Memory.read d m (a + 1) k

/-- Bytes stored from address `a` on; marks are untouched. -/
def Memory.write (d : Byte) (m : Memory) (a : Nat) : List Byte → Memory
  | [] => m
  | b :: bs => Memory.write d (m.setByte d a b) (a + 1) bs

/-- The mark of a word, if any. -/
def Memory.mark (m : Memory) (w : Nat) : Option Mark := assocGet w m.marks

def Memory.setMark (m : Memory) (w : Nat) (k : Option Mark) : Memory :=
  { m with marks := match k with
      | none => assocDel w m.marks
      | some x => assocPut w x m.marks }

/-- The poison word stored at word `w` (R170). -/
def Memory.poison (d : Byte) (m : Memory) (w : Nat) : Memory :=
  (m.write d (8 * w) (List.replicate 8 0)).setMark w (some .poison)

/-- A whole word written with fresh check bits, or the poison word where the flag is set (R171). -/
def Memory.writeWord (d : Byte) (m : Memory) (w : Nat) (x : FWord) : Memory :=
  if x.poison then m.poison d w else (m.write d (8 * w) (toLE 8 x.data.toNat)).setMark w none

/-- What a read of word `w` delivers (R172, R173): the data, corrected, or the poison flag. -/
def Memory.readWord (d : Byte) (m : Memory) (w : Nat) : FWord :=
  match m.mark w with
  | some .poison => ⟨0, true⟩
  | some .uncorrectable => ⟨0, true⟩
  | _ => ⟨BitVec.ofNat 64 (leNat (m.read d (8 * w) 8)), false⟩

/-- The words from word `w` on. -/
def Memory.readWords (d : Byte) (m : Memory) (w : Nat) : Nat → List FWord
  | 0 => []
  | k + 1 => m.readWord d w :: Memory.readWords d m (w + 1) k

def Memory.writeWords (d : Byte) (m : Memory) (w : Nat) : List FWord → Memory
  | [] => m
  | x :: xs => Memory.writeWords d (m.writeWord d w x) (w + 1) xs

/-- Bytes written into words: each word touched is merged with what it holds and recoded (R259); a word that reads as poison
stays the poison word unless all of it is written (R171; DEDUCED, log 30). -/
def Memory.patchWord (d : Byte) (m : Memory) (w : Nat) (lo : Nat) (bs : List Byte) : Memory :=
  if bs.length = 8 then m.writeWord d w ⟨BitVec.ofNat 64 (leNat bs), false⟩
  else if (m.readWord d w).poison then m
  else (m.write d (8 * w + lo) bs).setMark w none

/-- Bytes written from address `a` on, word by word; `fuel` bounds the words touched. -/
def Memory.patch (d : Byte) : (fuel : Nat) → Memory → (a : Nat) → List Byte → Memory
  | 0, m, _, _ => m
  | _, m, _, [] => m
  | fuel + 1, m, a, bs =>
    Memory.patch d fuel (m.patchWord d (a / 8) (a % 8) (bs.take (8 - a % 8))) (a + (8 - a % 8)) (bs.drop (8 - a % 8))

/-- What an unlisted byte of SRAM, mailbox SRAM or LP5X reads as (log 3). -/
def emptyByte : Byte := 0

/-- What an unlisted byte of the boot flash reads as: erased NOR flash (log 3). -/
def erasedByte : Byte := 0xFF

/-! ## Free values and outputs -/

/-- The next free value, and the state past it (log 1). -/
def State.takeFree (s : State) : U64 × State := (Config.freeValue s.fresh, { s with fresh := s.fresh + 1 })

def State.emit (s : State) (o : Output) : State := { s with out := s.out ++ [o] }

/-! ## Dictionary values -/

/-- The key under which an object is stored. -/
def odKey (idx sub : Nat) : Nat := idx * 256 + sub

/-- The value a stored object has before anything writes it: Tables OD-4 to OD-11; the identifiers of R285 and R294 follow the
node-ID `node`. -/
def odDefault (node idx sub : Nat) : Nat :=
  if idx = 0x1014 then 0x80 + node
  else if 0x1400 ≤ idx ∧ idx ≤ 0x141F ∧ sub = 1 then
    (if idx < 0x1404 then 0x200 + 0x100 * (idx - 0x1400) + node else 0x80000000)
  else if 0x1800 ≤ idx ∧ idx ≤ 0x181F ∧ sub = 1 then
    (if idx < 0x1804 then 0x180 + 0x100 * (idx - 0x1800) + node else 0x80000000)
  else ((odRow? idx sub).map OdRow.dflt).getD 0

/-- The node-ID in force (0x2300:24, R281). -/
def State.nodeId (s : State) : Nat := (assocGet (odKey 0x2300 0x24) s.od.inForce).getD 64

/-- The value of a stored object that is in force (R301, R302). -/
def State.obj (s : State) (idx sub : Nat) : Nat :=
  (assocGet (odKey idx sub) s.od.inForce).getD (odDefault s.nodeId idx sub)

/-- The value last written to a stored object (R301). -/
def State.objW (s : State) (idx sub : Nat) : Nat :=
  (assocGet (odKey idx sub) s.od.written).getD (odDefault s.nodeId idx sub)

/-- An object of a signed type in force. -/
def State.objI (s : State) (w idx sub : Nat) : Int := signedOf w (s.obj idx sub)

/-- A value stored and in force at once. -/
def State.setObj (s : State) (idx sub v : Nat) : State :=
  { s with od := { written := assocPut (odKey idx sub) v s.od.written, inForce := assocPut (odKey idx sub) v s.od.inForce } }

/-- A value stored that takes effect at the next bell, or at once while the bell is STOPPED (R302). -/
def State.setObjB (s : State) (idx sub v : Nat) : State :=
  if s.bell.state = .stopped then s.setObj idx sub v
  else { s with od := { s.od with written := assocPut (odKey idx sub) v s.od.written } }

/-- The rwb writes accepted before the bell take effect (R302, step 1 of Table BELL-3). -/
def State.latchObjects (s : State) : State := { s with od := { s.od with inForce := s.od.written } }

/-- Byte `i` of an octet string held in an object. -/
def octet (v i : Nat) : Nat := v / 256 ^ i % 256

/-- `n` bytes of an octet string from byte `i`. -/
def octets (v i n : Nat) : Nat := v / 256 ^ i % 256 ^ n

/-- DMF runs and serves the dictionary (R433). -/
def State.live (s : State) : Bool := s.boot.phase = .dmf

/-- Bell period, maintenance slot and guard in ns (R9, R14). -/
def State.periodNs (s : State) : Nat := s.obj 0x2100 1 * 1000
def State.slotNs (s : State) : Nat := s.obj 0x2100 2 * 1000
def State.guardNs (s : State) : Nat := s.obj 0x2100 6 * 1000

/-- A plan runs (Table BELL-7). -/
def State.running (s : State) : Bool := s.bell.state ≠ .stopped

/-- The tier in force, if it is a present tier of a plan that runs. -/
def State.tier? (s : State) : Option Tier :=
  if s.running then (s.plan.plan.bind (fun p => (p.tiers[s.plan.effective]?).getD none)) else none

/-- The device takes part in the tier: a member outside its member mask runs no partition (R242). -/
def State.takesPart (s : State) (t : Tier) : Bool :=
  s.role = .standalone || bitOf t.entry.memberMask (if s.role = .member then s.drove.memberId else 0)

/-- Tile clock of a tier in MHz (Table PLAN-5). -/
def clockMHz (code : Nat) : Nat := 250 * (code + 1)

/-- Tile cycles of a tick of the tier in force (04, Ground). -/
def State.tickCycles (s : State) : Nat := s.obj 0x2100 1 * (s.tier?.map (fun t => clockMHz t.entry.clock)).getD 0

/-! ## CAN frames handed to a controller -/

/-- A frame of a PDO, USDO or EMCY is an FD frame with BRS set, of the other services a classical one (R276). ESI is set when it is sent. -/
def fdFrame (ident : Nat) (data : List Byte) : CanFrame :=
  { ident := BitVec.ofNat 11 ident, fd := true, ext := false, remote := false, data := data, brs := true }
def classicFrame (ident : Nat) (data : List Byte) : CanFrame :=
  { ident := BitVec.ofNat 11 ident, fd := false, ext := false, remote := false, data := data }

/-- A frame joins the pending frames of a controller (R277). A sleeping controller is stopped and takes none (Table FIELD-7). -/
def Controller.add (c : Controller) (f : TxFrame) : Controller :=
  if c.state = .asleep then c else { c with buffers := c.buffers ++ [f] }

def State.queueFrame (s : State) (c : Nat) (f : TxFrame) : State :=
  { s with field := { s.field with can := vmod s.field.can c (·.add f) } }

/-- A frame on every controller whose bit of the service mask is set: bit `b` for FCAN0, `b + 4` for FCAN1 (0x2300:25). -/
def State.queueService (s : State) (b : Nat) (f : TxFrame) : State :=
  let m := s.obj 0x2300 0x25
  let s := if bitOf m b then s.queueFrame 0 f else s
  if bitOf m (b + 4) then s.queueFrame 1 f else s

/-! ## EMCY (R294) -/

/-- Error code and register bit of an event (Table FIELD-6). -/
def emcyOf (code : Nat) : Option (Nat × Nat) :=
  if 0x7001 ≤ code ∧ code ≤ 0x7023 then some (0xFF00 + code % 256, 7)
  else if code = 0x8001 ∨ code = 0x8004 then some (0x3100, 2)
  else if code = 0x9001 ∨ code = 0x9002 ∨ code = 0x9003 then some (0x4200, 3)
  else if code = 0x3003 then some (0x5000, 0)
  else if code = 0x1001 ∨ code = 0x1003 then some (0x6100, 0)
  else none

/-- An EMCY is put on the bus; the inhibit time starts when 0x1015 is not 0. -/
def State.sendEmcy (s : State) (data : List Byte) : State :=
  let s := s.queueService 3 { frame := fdFrame (s.obj 0x1014 0) data, kind := .emcy }
  { s with field := { s.field with emcyInhibit := s.obj 0x1015 0 ≠ 0 } }

/-- The node produces EMCY: Pre-operational or Operational (R283). -/
def State.emcyAllowed (s : State) : Bool := s.field.nmt = .preOperational || s.field.nmt = .operational

/-- Waiting EMCYs go out in order while the node produces them and no inhibit time runs (R294). -/
def State.drainEmcy (s : State) : State :=
  s.field.emcy.foldl (fun (s : State) d =>
    if s.field.emcyInhibit ∨ ¬ s.emcyAllowed then s
    else ({ s with field := { s.field with emcy := s.field.emcy.drop 1 } }).sendEmcy d) s

/-- One EMCY, with the register bit its source sets first. It waits behind those before it for the inhibit time, unless it is the ninth,
which is dropped (R294). -/
def State.emcy (s : State) (code : Nat) (bit : Option Nat) (event detail : Nat) : State :=
  let s := match bit with
    | some b => { s with field := { s.field with errorReg := s.field.errorReg ||| BitVec.ofNat 8 (2 ^ b) } }
    | none => s
  let data := toLE 2 code ++ [s.field.errorReg] ++ toLE 2 event ++ toLE 3 detail
  if !s.emcyAllowed then s
  else if 8 ≤ s.field.emcy.length then s
  else ({ s with field := { s.field with emcy := s.field.emcy ++ [data] } }).drainEmcy

/-! ## The event log (R312, R313) -/

/-- The bell count an entry carries: all ones while the bell is STOPPED (Table OD-12). -/
def State.logCount (s : State) : U64 := if s.bell.state = .stopped then BitVec.allOnes 64 else s.bell.count

/-- An event is raised: DMF logs it at the end of the command, whose events share one instant (R313). Without DMF nothing is
logged (R442). -/
def State.raise (s : State) (code source detail : Nat) : State :=
  if s.live then { s with events := s.events ++ [{ code := code, source := source, detail := detail, count := s.logCount }] }
  else s

/-- The log after one more entry: the ring takes it at the place of its number, 0x2F01 copies it, both counters rise. -/
def EventLog.add (g : EventLog) (e : LogEntry) : EventLog :=
  { entries := vmod g.entries (g.sinceClear.toNat % 64) (fun _ => e), last := e, sinceClear := g.sinceClear + 1,
    sinceReset := g.sinceReset + 1 }

/-- One entry is written: the log takes it, the PF's vector 2 is raised, an EMCY follows where Table FIELD-6 names the event. -/
def State.writeEntry (s : State) (e : LogEntry) : State :=
  let s := { s with log := s.log.add e }
  let s := s.emit (.msix 0 2)
  match emcyOf e.code with
  | some (c, b) => s.emcy c (some b) e.code (e.detail % 2 ^ 24)
  | none => s

/-- `a` is logged no later than `b`: ascending code, then ascending source (R313). -/
def LogEntry.before (a b : LogEntry) : Bool := a.code < b.code || (a.code = b.code && a.source ≤ b.source)

def insertEntry (e : LogEntry) : List LogEntry → List LogEntry
  | [] => [e]
  | x :: xs => if x.before e then x :: insertEntry e xs else e :: x :: xs

/-- Entries in the order of R313; equal ones keep their order. -/
def sortEntries (es : List LogEntry) : List LogEntry := es.foldl (fun acc e => insertEntry e acc) []

/-- The events of a command are logged. -/
def State.settle (s : State) : State :=
  (sortEntries s.events).foldl State.writeEntry { s with events := [] }

/-! ## The frame of a command -/

/-- A command's effect: what the last command put out is gone, the effect happens, its events are logged. The commands that
wait stay as they are. -/
def run (f : State → State) (s : State) : Result :=
  .next { (f { s with out := [], events := [] }).settle with pending := s.pending }

/-- A command that only a running DMF, or the main domain it stands for, can carry out; without it nothing happens (log 21). -/
def runLive (f : State → State) (s : State) : Result := run (fun s => if s.live then f s else s) s

/-- The instant of a timed command. -/
def State.clock (s : State) (t : Nat) : State := { s with now := t }

/-- Time since the last bell, ns (R3). -/
def State.sinceBell (s : State) : Int := (s.now : Int) - (s.bell.at_ : Int)

/-! ## Protected memories of the device -/

/-- A memory by its code: tile number, 0x110 for the mailbox SRAM, 0x100 for LP5X (the sources of 08). -/
def State.memory (s : State) (code : Nat) : Memory :=
  if code < 256 then (vget s.tiles code {}).sram else if code = 0x110 then s.mem.mailbox else s.mem.lp5x

def State.setMemory (s : State) (code : Nat) (m : Memory) : State :=
  if code < 256 then { s with tiles := vmod s.tiles code (fun t => { t with sram := m }) }
  else if code = 0x110 then { s with mem := { s.mem with mailbox := m } }
  else { s with mem := { s.mem with lp5x := m } }

def State.onMemory (s : State) (code : Nat) (f : Memory → Memory) : State := s.setMemory code (f (s.memory code))

/-- Usable LP5X capacity, bytes: eight ninths (R187). -/
def State.usable (s : State) : Nat := s.board.lp5xBytes * 8 / 9

/-- The source that the events of a word carry: the tile, the mailbox SRAM, or the LP5X channel (08). -/
def State.memSource (s : State) (code word : Nat) : Nat :=
  if code < 256 ∨ code = 0x110 then code else 0x100 + (Config.lp5xChannel s.usable (8 * word)).val

/-- A single-bit error was corrected (R172). -/
def State.countCorrected (s : State) (code word : Nat) : State :=
  let src := s.memSource code word
  let s := if code = 0x100 then { s with mem := { s.mem with lp5xCorrected := satAdd 32 s.mem.lp5xCorrected 1 } }
    else { s with mem := { s.mem with sramCorrected := satAdd 32 s.mem.sramCorrected 1 } }
  let (n, last) := (assocGet src s.mem.corrected).getD (0, none)
  let b : Int := s.bell.count.toNat
  if last.all (fun l => decide (l + 1000 ≤ b)) then
    let s := { s with mem := { s.mem with corrected := assocPut src (0, some b) s.mem.corrected } }
    s.raise 0x3001 src (n + 1)
  else { s with mem := { s.mem with corrected := assocPut src (n + 1, last) s.mem.corrected } }

/-- An uncorrectable word is counted (R173): the device's counter, and for tile SRAM the tile's, which remembers the bells of
the last three for Table TILE-7. -/
def State.countUncorrectable (s : State) (code : Nat) : State :=
  let s := if code = 0x100 then { s with mem := { s.mem with lp5xUncorrectable := satAdd 32 s.mem.lp5xUncorrectable 1 } }
    else { s with mem := { s.mem with sramUncorrectable := satAdd 32 s.mem.sramUncorrectable 1 } }
  if code < 256 then
    { s with tiles := vmod s.tiles code (fun t =>
        { t with ueCount := satAdd 32 t.ueCount 1, ueBells := ((s.bell.count.toNat : Int) :: t.ueBells).take 3 }) }
  else s

/-- A read meets a word: corrections are counted (R172), an uncorrectable word not yet queued is counted and queued for its
rewrite as poison (R173). -/
def State.noteRead (s : State) (code word : Nat) : State :=
  match (s.memory code).mark word with
  | some .correctable => s.countCorrected code word
  | some .uncorrectable =>
    if s.mem.rewrite.contains (code, word) then s
    else
      let s := s.countUncorrectable code
      { s with mem := { s.mem with rewrite := s.mem.rewrite ++ [(code, word)] } }
  | _ => s

/-- The words `w` to `w + n - 1` are read: notes for each (R172, R173). -/
def State.noteWords (s : State) (code w n : Nat) : State := (List.range n).foldl (fun s k => s.noteRead code (w + k)) s

/-- The words that hold `len` bytes at address `a` are read. -/
def State.noteBytes (s : State) (code a len : Nat) : State :=
  if len = 0 then s else s.noteWords code (a / 8) ((a + len + 7) / 8 - a / 8)

/-- The words `w` to `w + n - 1` are read: notes for each, and what they deliver. -/
def State.readMem (s : State) (code w n : Nat) : List FWord × State :=
  ((s.memory code).readWords emptyByte w n, s.noteWords code w n)

/-- Words written into a memory (R171, R182). -/
def State.writeMem (s : State) (code w : Nat) (xs : List FWord) : State :=
  s.onMemory code (fun m => m.writeWords emptyByte w xs)

/-- Poison reached a consumer: 0x2600:03 rises (R183, R186). -/
def State.countPoison (s : State) : State :=
  { s with mem := { s.mem with poisonConsumed := satAdd 32 s.mem.poisonConsumed 1 } }

/-- ECC_POISON_CONSUMED, at most one entry per source and tick (R186). -/
def State.logPoison (s : State) (source detail : Nat) : State :=
  if s.mem.poisonLogged.contains source then s
  else { s.raise 0x3003 source detail with mem := { s.mem with poisonLogged := s.mem.poisonLogged ++ [source] } }

/-- The byte string of `len` bytes at address `a`, and whether some word it touches reads as poison. -/
def Memory.readPoisoned (d : Byte) (m : Memory) (a len : Nat) : List Byte × Bool :=
  let w0 := a / 8
  let w1 := (a + len + 7) / 8
  let ws := List.range (w1 - w0)
  let pois := ws.any (fun k => (m.readWord d (w0 + k)).poison)
  ((List.range len).map (fun k => if (m.readWord d ((a + k) / 8)).poison then 0 else m.byte d (a + k)), pois)

end Sys2Proof.Machine
end

