-- ==== Sys2Proof/Machine/Principals.lean ====
section
/-!
DEFINITION. Who may read and write what: principals and partitions (09 R208 to R210), the judgement of one access by owner,
class, length, range and state (13 R300 to R306), and how an access is answered (13 R314; 11 R258).
-/
namespace Sys2Proof.Machine

/-- Abort codes (Table OD-13). -/
def abortAccess : Nat := 0x06010000
def abortReadWo : Nat := 0x06010001
def abortWriteRo : Nat := 0x06010002
def abortNoObject : Nat := 0x06020000
def abortNotMappable : Nat := 0x06040041
def abortPdoLength : Nat := 0x06040042
def abortLength : Nat := 0x06070010
def abortNoSub : Nat := 0x06090011
def abortRange : Nat := 0x06090030
def abortGeneral : Nat := 0x08000000
def abortRule : Nat := 0x08000020
def abortState : Nat := 0x08000022

/-- The partition a principal acts as (Table PART-5, R210). -/
def State.actsAs (s : State) : Principal → Nat
  | .pf => 0
  | .vf n => n.val + 1
  | .usdo _ => s.obj 0x2001 1

/-- A warden principal acts as partition 0. -/
def State.warden (s : State) (p : Principal) : Bool := s.actsAs p = 0

/-- The copy of R307 that is a principal's own. -/
def copyIndex : Principal → Nat
  | .pf => 0
  | .vf n => n.val + 1
  | .usdo c => 32 + c.val

def State.copyOf (s : State) (p : Principal) : Copy := vget s.host.copies (copyIndex p) {}

def State.setCopy (s : State) (p : Principal) (f : Copy → Copy) : State :=
  { s with host := { s.host with copies := vmod s.host.copies (copyIndex p) f } }

/-- The loaded plan: the one that bell 0 started (Table PLAN-8 :01). -/
def State.loaded (s : State) : Option Plan := if s.plan.running then s.plan.plan else none

/-- Entry of partition `p` in the loaded plan; the entry of an absent partition is all zero (Table PART-2). -/
def State.partEntry (s : State) (p : Nat) : PartEntry :=
  match s.loaded with
  | some pl => pl.parts[p]?.getD {}
  | none => {}

/-- Partition `p` is present in the loaded plan. -/
def State.present (s : State) (p : Nat) : Bool := (s.partEntry p).present

/-- The first partition below `n` for which `f` holds. -/
def firstPart (f : Nat → Bool) (n : Nat) : Option Nat := (List.range n).find? f

/-- Owner of mailbox `m` (Table PART-3): none without a plan that names it. -/
def State.mailboxOwner (s : State) (m : Nat) : Option Nat :=
  firstPart (fun p => s.present p && bitOf (s.partEntry p).mailboxes m) 32

/-- Owner of camera port `c` (R206). -/
def State.cameraOwner (s : State) (c : Nat) : Option Nat :=
  firstPart (fun p => s.present p && bitOf (s.partEntry p).cameras c) 32

/-- Tally `i` lies in the range of partition `p`. -/
def State.inTallyRange (s : State) (p i : Nat) : Bool :=
  s.present p && decide ((s.partEntry p).tallyBase ≤ i) && decide (i < (s.partEntry p).tallyBase + (s.partEntry p).tallyCount)

/-- The partition whose range holds tally `i` (R212). -/
def State.tallyOwner (s : State) (i : Nat) : Option Nat := firstPart (fun p => s.inTallyRange p i) 32

/-- The partition that owns the binding of a sink in the tier in force, if one binds it (R46, R210). -/
def State.sinkOwner (s : State) (kind index : Nat) : Option Nat :=
  match s.tier? with
  | some t => (t.bindings.find? (fun b => b.kind = kind && b.index = index)).map Binding.owner
  | none => none

/-- The owner code lets the principal read (Table OD-3, R208, R209). -/
def State.mayRead (s : State) (p : Principal) (r : OdRow) (idx sub : Nat) : Bool :=
  if s.warden p then true
  else
    match r.own with
    | .c => true
    | .w | .pf => false
    | .p => s.present (s.actsAs p) && decide (idx = 0x2300 + s.actsAs p)
    | .mb => s.present (s.actsAs p) && decide (s.mailboxOwner (idx - 0x2D00) = some (s.actsAs p))
    | .t => s.present (s.actsAs p) &&
        (decide (idx = 0x2E00 ∧ sub = 1) || s.inTallyRange (s.actsAs p) (s.copyOf p).tallySelect)
    | .a => s.present (s.actsAs p)

/-- The owner code lets the principal write (Table OD-3, R208 to R210, R260). An object of owner C falls through to its class,
which refuses every write. -/
def State.mayWrite (s : State) (p : Principal) (r : OdRow) (idx sub v : Nat) : Bool :=
  match r.own with
  | .c => true
  | .w => if r.grant then s.warden p || decide (s.sinkOwner 1 (idx - 0x2800) = some (s.actsAs p)) else s.warden p
  | .pf => decide (p = .pf)
  | .p => s.warden p
  | .mb => if sub = 8 then s.mayRead p r idx sub
      else decide (s.mailboxOwner (idx - 0x2D00) = some (s.actsAs p)) || (r.acc = .ro && s.mayRead p r idx sub)
  | .t => if idx = 0x2E00 then s.warden p || s.inTallyRange (s.actsAs p) v else s.mayRead p r idx sub
  | .a => s.mayRead p r idx sub

/-- The abort of an object that is not there (R300). -/
def absent (idx : Nat) : Nat := if odIndex idx then abortNoSub else abortNoObject

/-- A read is judged (R300, R306, R301). -/
def State.checkRead (s : State) (p : Principal) (idx sub : Nat) : Except Nat OdRow :=
  match odRow? idx sub with
  | none => .error (absent idx)
  | some r =>
    if !s.mayRead p r idx sub then .error abortAccess
    else if r.acc = .wo then .error abortReadWo
    else .ok r

/-- An rwl write is accepted now (R303). -/
def State.lockedOpen (s : State) : Bool :=
  s.bell.state = .stopped && (s.plan.status = 0 || s.plan.status = 3 || s.plan.status = 4)

/-- A write of `len` bytes of value `v` is judged: existence (R300), class for objects nobody writes, owner (R306), class (R301),
grant (R328), length and range (R305), state (R303), interface lock (R402). The order of the last six is log 22. The answer is the value with its
reserved bits cleared (R6). -/
def State.checkWrite (s : State) (p : Principal) (idx sub len v : Nat) : Except Nat (OdRow × Nat) :=
  match odRow? idx sub with
  | none => .error (absent idx)
  | some r =>
    if r.grant && !bitOf (s.obj 0x2001 2) (idx - 0x2800) then .error abortState
    else if !s.mayWrite p r idx sub v && !(idx = 0x2E00 && decide (4095 < v)) then .error abortAccess
    else if r.acc = .const || r.acc = .ro then .error abortWriteRo
    else if len ≠ r.bytes then .error abortLength
    else if !r.inRange idx sub (v &&& r.mask) then .error abortRange
    else if r.acc = .rwl && !s.lockedOpen then .error abortState
    else if 0x2B00 ≤ idx && idx < 0x2D00 && s.island.locked then .error abortState
    else .ok (r, v &&& r.mask)

/-- A refused write through the mirror leaves its code and object in the abort words (R258). -/
def State.noteAbort (s : State) (p : Principal) (idx sub code : Nat) : State :=
  match p with
  | .usdo _ => s
  | _ => s.setCopy p (fun c => { c with abortCode := BitVec.ofNat 32 code,
                                        abortObject := BitVec.ofNat 32 (idx * 65536 + sub * 256) })

/-- Another mirror access came in between: the latch of R257 is spent. -/
def State.spendLatch (s : State) (p : Principal) : State :=
  match p with
  | .usdo _ => s
  | _ => s.setCopy p (fun c => { c with latched := none })

/-- The answer to a write (R314). -/
def State.answer (s : State) (p : Principal) (idx sub : Nat) (r : Except Nat State) : State :=
  match r with
  | .ok s' => s'.emit (.odReply p 0)
  | .error e => (s.noteAbort p idx sub e).emit (.odReply p (BitVec.ofNat 32 e))

/-- A write that a command stands for: judged, then acted on, then answered. `act` may still refuse. -/
def State.ownWrite (p : Principal) (idx sub len v : Nat) (act : State → Except Nat State) (s : State) : State :=
  let s := s.spendLatch p
  s.answer p idx sub (match s.checkWrite p idx sub len v with
    | .error e => .error e
    | .ok _ => act s)

end Sys2Proof.Machine
end

