-- ==== Sys2Proof/Machine/Host.lean ====
section
/-!
DEFINITION. Host and sensor ports (11): resets of PCIe functions, the memory window, result mailboxes, camera receivers and
camera triggers.
-/
namespace Sys2Proof.Machine

/-! ## Functions and windows -/

/-- A principal is a PCIe function (Table HOST-1). -/
def isFunction : Principal → Bool
  | .usdo _ => false
  | _ => true

/-- What configuration space tells of a function (R252). -/
structure PciIdentity where
  vendor : Nat
  device : Nat
  subsystemVendor : Nat
  subsystem : Nat
  revision : Nat
  classCode : Nat
deriving DecidableEq, Repr

/-- The identity of the PF or of a VF: the revision is the low byte of the silicon revision. -/
def State.pciIdentity (s : State) (p : Principal) : PciIdentity :=
  { vendor := 0x1F4D, device := if p = .pf then 0x2560 else 0x2561, subsystemVendor := 0x1F4D, subsystem := 0x2560,
    revision := s.board.silicon.toNat % 256, classCode := 0x120000 }

/-- An access by a VF: the host has set VF Enable before it. The configuration write that sets it has no command of its own (DESIGN
CHOICE, log 8). -/
def State.vfAccess (s : State) (p : Principal) : State :=
  match p with
  | .vf _ => { s with host := { s.host with vfEnable := true } }
  | _ => s

/-- FUNCTION_LEVEL_RESET (R255, R307): the function's copies are cleared; a reset of the PF clears VF Enable. -/
def execFunctionLevelReset (p : Principal) (s : State) : Result :=
  run (fun s => if isFunction p then
      let s := s.setCopy p (fun _ => {})
      if p = .pf then { s with host := { s.host with vfEnable := false } } else s
    else s) s

/-- PCIE_FUNDAMENTAL_RESET (R441): a Function Level Reset of every function, and nothing else. -/
def execPcieFundamentalReset (s : State) : Result :=
  run (fun s => { s with host := { s.host with
    copies := (List.range 32).foldl (fun v k => vmod v k (fun _ => {})) s.host.copies, vfEnable := false } }) s

/-- Base and size of partition `p`'s window (R204). While no plan is loaded the warden's window, into which plans are staged, is the whole
usable capacity (log 54). -/
def State.windowOf (s : State) (p : Nat) : Nat × Nat :=
  if s.loaded.isNone ∧ p = 0 then (0, s.usable)
  else if (s.partEntry p).present then ((s.partEntry p).winBase, (s.partEntry p).winSize)
  else (0, 0)

/-- LP5X address of window offset `o` of partition `p`, when `len` bytes from there lie in the window (R204, R259). -/
def State.windowAddr (s : State) (p o len : Nat) : Option Nat :=
  if o + len ≤ (s.windowOf p).2 then some ((s.windowOf p).1 + o) else none

/-- Some byte of an LP5X range lies in a channel in self-refresh (R190). -/
def State.refreshes (s : State) (a len : Nat) : Bool :=
  (List.range len).any (fun k => s.mem.selfRefresh.contains (Config.lp5xChannel s.usable (a + k)).val)

/-- A read of the window, answered (R259): EP is set where a poison word is met. -/
def State.windowRead (s : State) (p : Principal) (a len : Nat) : State :=
  let (bs, ep) := (s.memory 0x100).readPoisoned emptyByte a len
  ((List.range ((a + len + 7) / 8 - a / 8)).foldl (fun s k => s.noteRead 0x100 (a / 8 + k)) s).emit (.hostData p bs ep)

/-- A write to the window (R259): with EP every word touched becomes the poison word, else the bytes are merged and recoded. -/
def State.windowWrite (s : State) (a : Nat) (data : List Byte) (ep : Bool) : State :=
  if ep then
    s.onMemory 0x100 (fun m => (List.range ((a + data.length + 7) / 8 - a / 8)).foldl
      (fun m k => m.poison emptyByte (a / 8 + k)) m)
  else s.onMemory 0x100 (fun m => Memory.patch emptyByte (data.length + 1) m a data)

/-- A read of the memory window: refused beyond the window, held where a channel is in self-refresh (R191), else answered. -/
def State.memoryRead (s : State) (p : Principal) (offset len : Nat) : State :=
  match s.windowAddr (s.actsAs p) offset len with
  | none => s.emit (.unsupported p)
  | some a =>
    if s.refreshes a len then { s with mem := { s.mem with held := s.mem.held ++ [⟨p, a, none, false, len⟩] } }
    else s.windowRead p a len

/-- A write to the memory window; one that reaches beyond the window writes nothing. -/
def State.memoryWrite (s : State) (p : Principal) (offset : Nat) (data : List Byte) (ep : Bool) : State :=
  match s.windowAddr (s.actsAs p) offset data.length with
  | none => s
  | some a =>
    if s.refreshes a data.length then { s with mem := { s.mem with held := s.mem.held ++ [⟨p, a, some data, ep, data.length⟩] } }
    else s.windowWrite a data ep

/-- The held requests are served in order (R191). -/
def State.serveHeld (s : State) : State :=
  s.mem.held.foldl (fun s h => match h.data with
    | none => s.windowRead h.principal h.offset h.length
    | some d => s.windowWrite h.offset d h.ep) { s with mem := { s.mem with held := [] } }

/-! ## Result mailboxes -/

def State.mailbox (s : State) (m : Nat) : Mailbox := vget s.host.mailboxes m {}

def State.onMailbox (s : State) (m : Nat) (f : Mailbox → Mailbox) : State :=
  { s with host := { s.host with mailboxes := vmod s.host.mailboxes m f } }

/-- Start in mailbox SRAM of a mailbox's buffer: `b` true for the second of its two (11, Result mailboxes). -/
def bufferBase (m : Nat) (b : Bool) : Nat := (2 * m + (if b then 1 else 0)) * 65536

/-- The generation after `g` (R261). -/
def nextGeneration (g : U32) : U32 := if g = BitVec.allOnes 32 then 1 else g + 1

/-- The flags word (Table HOST-3 :02). -/
def Mailbox.flags (x : Mailbox) : Nat :=
  (if x.ready then 1 else 0) + (if x.poisoned then 2 else 0) + (if x.stale then 4 else 0) + (if x.overrun then 8 else 0)
  + (if x.back = .pending then 16 else 0)

/-- Publication (R261): the buffers swap, the generation moves on, READY is set, vector 1 is raised where enabled. -/
def State.publish (s : State) (m : Nat) : State :=
  let s := s.onMailbox m (fun x => { x with
    front := !x.front, generation := nextGeneration x.generation, length := x.backLength, poisoned := x.backPoisoned,
    stale := false, overrun := false, ready := true, back := .empty })
  if s.obj (0x2D00 + m) 0xA = 1 then
    (match s.mailboxOwner m with
      | some p => s.emit (.msix p 1)
      | none => s)
  else s

/-- A skip or drop was counted: MAILBOX_OVERRUN, at most once in 1,000 bells (R265). -/
def State.noteOverrun (s : State) (m : Nat) : State :=
  let x := s.mailbox m
  let b : Int := s.bell.count.toNat
  if x.lastLog.all (fun l => decide (l + 1000 ≤ b)) then
    (s.raise 0x5001 m (min x.newSkips 0xFFFF * 65536 + min x.newDrops 0xFFFF)).onMailbox m
      (fun x => { x with lastLog := some b, newSkips := 0, newDrops := 0 })
  else s

/-- EMIT data reach the back buffer (Table HOST-4): a PENDING result is discarded and counted as a skip. -/
def State.mailboxData (s : State) (m len : Nat) (words : List FWord) : State :=
  let x := s.mailbox m
  let s := if x.back = .pending then
      (s.onMailbox m (fun x => { x with skips := satAdd 32 x.skips 1, newSkips := x.newSkips + 1 })).noteOverrun m
    else s
  let s := s.onMailbox m (fun x => { x with back := .filling, backLength := len })
  s.writeMem 0x110 (bufferBase m (!x.front) / 8) words

/-- The commit of a mailbox fires (Table HOST-4); STALE and OVERRUN describe the most recent commit (R24, R264). -/
def State.mailboxCommit (s : State) (m : Nat) (poisoned : Bool) : State :=
  let x := s.mailbox m
  let s := s.onMailbox m (fun x => { x with backPoisoned := poisoned, stale := false, overrun := false })
  if !x.ready then s.publish m
  else if s.obj (0x2D00 + m) 7 = 0 then s.onMailbox m (fun x => { x with back := .pending })
  else (s.onMailbox m (fun x => { x with back := .empty, drops := satAdd 32 x.drops 1, newDrops := x.newDrops + 1 })).noteOverrun m

/-- The commit of a mailbox is withheld (Table HOST-4); `late` under R22 or R69. -/
def State.mailboxWithheld (s : State) (m : Nat) (late : Bool) : State :=
  s.onMailbox m (fun x => { x with
    back := if x.back = .filling then .empty else x.back, stale := true, overrun := late })

/-- MAILBOX_DATA_ARRIVAL (R261). -/
def execMailboxDataArrival (m : Fin 64) (len : Nat) (words : List FWord) (s : State) : Result :=
  runLive (fun s => s.mailboxData m len words) s

/-- An ACK (Table HOST-4). -/
def State.ack (m : Nat) (v : U32) (s : State) : Except Nat State :=
  let x := s.mailbox m
  if x.ready ∧ v = x.generation then
    let s := s.onMailbox m (fun x => { x with ready := false })
    .ok (if x.back = .pending then s.publish m else s)
  else .ok s

/-- MAILBOX_ACK (R261). -/
def execMailboxAck (p : Principal) (m : Fin 64) (v : U32) (s : State) : Result :=
  runLive (State.ownWrite p (0x2D00 + m.val) 6 4 v.toNat (State.ack m v)) s

/-- The view of a principal moves to mailbox `m` (R262). -/
def State.setView (p : Principal) (m : Fin 64) (s : State) : Except Nat State :=
  .ok (s.setCopy p (fun c => { c with view := some m }))

/-- MAILBOX_VIEW (R260, R262). -/
def execMailboxView (p : Principal) (m : Fin 64) (s : State) : Result :=
  runLive (State.ownWrite p (0x2D00 + m.val) 8 1 1 (State.setView p m)) s

/-- A read of a function's mailbox window (R262, R264): the front buffer of the mailbox last selected, zero beyond its length or with none
selected; EP and zero bytes where a poison word is met (R259). -/
def State.mailboxRead (s : State) (p : Principal) (o len : Nat) : State :=
  match (s.copyOf p).view with
  | none => s.emit (.hostData p (List.replicate len 0) false)
  | some m =>
    let x := s.mailbox m
    let a := bufferBase m x.front + o
    let n := min len (x.length - o)
    let bs := s.mem.mailbox.readPoisoned emptyByte a n
    (s.noteBytes 0x110 a n).emit (.hostData p (bs.1 ++ List.replicate (len - n) 0) bs.2)

/-- MEMORY_WINDOW_READ (R259, R262): a read of BAR 4, or of the mailbox window of BAR 2, which has no row of its own. -/
def execMemoryWindowRead (p : Principal) (at_ : WindowAt) (len : Nat) (s : State) : Result :=
  runLive (fun s =>
    let s := s.vfAccess p
    if !isFunction p then s
    else match at_.bar with
      | .mailbox => s.mailboxRead p at_.offset len
      | .memory => s.memoryRead p at_.offset len) s

/-- MEMORY_WINDOW_WRITE (R259); a write to the mailbox window is discarded (R262). -/
def execMemoryWindowWrite (p : Principal) (at_ : WindowAt) (data : List Byte) (ep : Bool) (s : State) : Result :=
  runLive (fun s =>
    let s := s.vfAccess p
    if !isFunction p then s
    else match at_.bar with
      | .mailbox => s
      | .memory => s.memoryWrite p at_.offset data ep) s

/-- At plan load every mailbox is empty (R260). -/
def State.clearMailboxes (s : State) : State :=
  { s with host := { s.host with mailboxes := Vector.replicate 64 {} } }

/-! ## Camera triggers (R272) -/

def State.camera (s : State) (c : Nat) : Camera := vget s.host.cameras c {}

def State.onCamera (s : State) (c : Nat) (f : Camera → Camera) : State :=
  { s with host := { s.host with cameras := vmod s.host.cameras c f } }

/-- Width of a pulse of CAM_TRIGc in ns, and the level of the pin when it is active (Table HOST-5). -/
def State.camWidthNs (s : State) (c : Nat) : Nat := bitsOf (s.obj 0x2300 (0x13 + 4 * c)) 0 16 * 1000
def State.camActiveLevel (s : State) (c : Nat) : Bool := !bitOf (s.obj 0x2300 (0x13 + 4 * c)) 16

/-- The level that CAM_TRIGc drives (R272). -/
def State.camPin (s : State) (c : Nat) : Bool := if (s.camera c).pulse then s.camActiveLevel c else !s.camActiveLevel c

/-- A pulse of CAM_TRIGc of the configured width: none inside an active pulse, in the safe state, in ORPHANED or after a stop. -/
def State.camPulse (s : State) (c : Nat) : State :=
  if s.plan.safe || !s.running || s.bell.state = .orphaned || (s.camera c).pulse then s
  else s.onCamera c (fun x => { x with pulse := true, pulseEnd := s.now + s.camWidthNs c })

/-- CAM_TRIG_PULSE_END (R272): the pulse ends once it has lasted its width. -/
def execCamTrigPulseEnd (e : PulseEnd 4) (s : State) : Result :=
  runLive (fun s => (s.clock e.t).onCamera e.pin (fun x => { x with pulse := x.pulse && decide (e.t < x.pulseEnd) })) s

/-- Every CAM_TRIG pin inactive (R272). -/
def State.camerasInactive (s : State) : State :=
  { s with host := { s.host with cameras := s.host.cameras.map (fun x => { x with pulse := false }) } }

/-! ## Camera receivers -/

def State.camWord (s : State) (c : Nat) : Nat := s.obj 0x2300 (0x10 + 4 * c)
def State.camLines (s : State) (c : Nat) : Nat := bitsOf (s.obj 0x2300 (0x11 + 4 * c)) 16 16
def State.camWidth (s : State) (c : Nat) : Nat := bitsOf (s.obj 0x2300 (0x11 + 4 * c)) 0 16

/-- Ingest cutoff of the plan in ns (Table PLAN-2). -/
def State.cutoffNs (s : State) : Nat := ((s.plan.plan.map (fun p => p.header.cutoff)).getD 0) * 1000

/-- The receiver runs (R267). -/
def State.camRuns (s : State) (c : Nat) : Bool := bitOf (s.camWord c) 0 && s.running && (s.cameraOwner c).isSome

/-- Bytes of a line (Table HOST-6). -/
def lineBytes (dataType width : Nat) : Nat := if dataType = 0x2A then width else 2 * width

/-- Bytes a line takes in the ring (R268). -/
def State.camLineB (s : State) (c : Nat) : Nat := cdiv (lineBytes (bitsOf (s.camWord c) 8 6) (s.camWidth c)) 16 * 16

/-- Size of a ring slot (R268). -/
def State.camSlotSize (s : State) (c : Nat) : Nat := cdiv (64 + s.camLines c * s.camLineB c) 4096 * 4096

/-- LP5X address of the ring slot of tick `n` (R268, Table HOST-5). -/
def State.camSlot (s : State) (c n : Nat) : Nat :=
  let base := match s.cameraOwner c with
    | some p => (s.partEntry p).winBase
    | none => 0
  base + s.obj 0x2300 (0x12 + 4 * c) * 4096 + n % 4 * s.camSlotSize c

/-- Tick to which a frame start at instant `t` belongs (R269). -/
def State.camTickOf (s : State) (t : Nat) : Nat :=
  if t < s.bell.at_ + s.cutoffNs then s.bell.count.toNat else s.bell.count.toNat + 1

def State.camTick (s : State) (c n : Nat) : CamTick := (assocGet n (s.camera c).ticks).getD {}

def State.onCamTick (s : State) (c n : Nat) (f : CamTick → CamTick) : State :=
  s.onCamera c (fun x => { x with ticks := assocPut n (f ((assocGet n x.ticks).getD {})) x.ticks })

/-- CSI_FRAME_START (R269). -/
def execCsiFrameStart (c : Fin 4) (vc : BitVec 2) (frame : U16) (t : Nat) (s : State) : Result :=
  runLive (fun s => let s := s.clock t
    if !s.camRuns c || bitsOf (s.camWord c) 6 2 ≠ vc.toNat then s
    else
      let n := s.camTickOf t
      if (s.camTick c n).start.isSome then
        (s.onCamTick c n (fun x => { x with second := true })).onCamera c (fun x => { x with receiving := none })
      else
        (s.onCamTick c n (fun x => { x with start := some (t, frame.toNat) })).onCamera c
          (fun x => { x with receiving := some n })) s

/-- A data type that the receivers support (R266). -/
def typeSupported (dataType : Nat) : Bool := [0x2A, 0x2B, 0x2C, 0x1E].contains dataType

/-- The bytes that samples of a line store: RAW10 and RAW12 in the low bits of two bytes, the rest one byte each (Table HOST-6). -/
def lineData (dataType : Nat) (samples : List U16) : List Byte :=
  if dataType = 0x2B then samples.flatMap (fun x => toLE 2 (x.toNat % 1024))
  else if dataType = 0x2C then samples.flatMap (fun x => toLE 2 (x.toNat % 4096))
  else samples.map (fun x => BitVec.ofNat 8 x.toNat)

/-- The words of a stored line (R268, R270): poison where the CRC failed or bytes are missing, zero padding to `b` bytes. -/
def lineWords (bytes b : Nat) (data : List Byte) (crcOk : Bool) : List FWord :=
  (List.range (b / 8)).map (fun k =>
    if !crcOk || (data.length < bytes && data.length < 8 * k + 8 && 8 * k < bytes) then ⟨0, true⟩
    else ⟨BitVec.ofNat 64 (leNat ((data.take bytes).drop (8 * k) |>.take 8)), false⟩)

/-- CSI_LINE_RECEIVED (R270). -/
def execCsiLineReceived (c : Fin 4) (vc : BitVec 2) (dataType : BitVec 6) (samples : List U16) (crcOk : Bool) (t : Nat)
    (s : State) : Result :=
  runLive (fun s => let s := s.clock t
    match (s.camera c).receiving with
    | none => s
    | some n =>
      if !s.camRuns c || bitsOf (s.camWord c) 6 2 ≠ vc.toNat || bitsOf (s.camWord c) 8 6 ≠ dataType.toNat || !typeSupported dataType.toNat then s
      else
        let k := (s.camTick c n).lines
        if s.camLines c ≤ k then s
        else
          let bytes := lineBytes dataType.toNat (s.camWidth c)
          let data := lineData dataType.toNat samples
          let short := data.length < bytes
          let s := s.writeMem 0x100 ((s.camSlot c n + 64 + k * s.camLineB c) / 8) (lineWords bytes (s.camLineB c) data crcOk)
          s.onCamTick c n (fun x => { x with
            lines := x.lines + 1, intact := if crcOk && !short then x.intact + 1 else x.intact,
            poisoned := if crcOk && !short then x.poisoned else x.poisoned + 1,
            crcErrors := if crcOk then x.crcErrors else x.crcErrors + 1, short := x.short || short })) s

/-- Lines `k` to `k + n - 1` of a slot become poison words (R270). -/
def State.poisonLines (s : State) (c tick k n : Nat) : State :=
  s.writeMem 0x100 ((s.camSlot c tick + 64 + k * s.camLineB c) / 8) (List.replicate (n * s.camLineB c / 8) ⟨0, true⟩)

/-- INGEST_CUTOFF (R270): where no frame is assigned to the tick, the slot below its header becomes poison. -/
def execIngestCutoff (s : State) : Result :=
  runLive (fun s =>
    let n := s.bell.count.toNat
    (List.range 4).foldl (fun s c =>
      if s.camRuns c && (s.camTick c n).start.isNone then
        let s := s.writeMem 0x100 ((s.camSlot c n + 64) / 8) (List.replicate ((s.camSlotSize c - 64) / 8) ⟨0, true⟩)
        s.onCamTick c n (fun x => { x with missing := true })
      else s) s) s

/-- The ring slot header (Table HOST-7): tick, start relative to the bell, frame number, lines intact, lines poisoned, flags. -/
def camHeader (n : Nat) (rel : Int) (frame intact poisoned flags : Nat) : List FWord :=
  [⟨BitVec.ofNat 64 n, false⟩,
   ⟨BitVec.ofNat 64 (unsignedOf 32 rel + 2 ^ 32 * (frame % 65536) + 2 ^ 48 * (intact % 65536)), false⟩,
   ⟨BitVec.ofNat 64 (poisoned % 65536 + 65536 * flags), false⟩]
  ++ List.replicate 5 ⟨0, false⟩

/-- The cause of a tick's CSI_FRAME_LATE and the lines it concerns, the lowest cause first (R271). -/
def camCause (x : CamTick) (lines : Nat) : Option (Nat × Nat) :=
  if x.missing then some (1, lines)
  else if x.lines < lines then some (2, lines - x.lines)
  else if x.second then some (3, 0)
  else if 0 < x.crcErrors then some (4, x.crcErrors)
  else none

/-- CAPTURE_DEADLINE (R270, R271): missing lines become poison, the slot header is written, the cause is logged. -/
def execCaptureDeadline (c : Fin 4) (s : State) : Result :=
  runLive (fun s =>
    if !s.camRuns c then s
    else
      let n := s.bell.count.toNat
      let x := s.camTick c n
      let lines := s.camLines c
      let miss := lines - x.lines
      let s := if x.missing then s else s.poisonLines c n x.lines miss
      let flags := (if !x.missing && miss = 0 then 1 else 0) + (if x.missing then 2 else 0)
        + (if x.short || (!x.missing && 0 < miss) then 4 else 0) + (if 0 < x.crcErrors then 8 else 0)
      let (rel, frame) : Int × Nat := match x.start with
        | some (t, f) => ((t : Int) - (s.bell.at_ : Int), f)
        | none => (0, 0)
      let s := s.writeMem 0x100 (s.camSlot c n / 8) (camHeader n rel frame x.intact (x.poisoned + miss) flags)
      let s := match camCause x lines with
        | some (k, l) => s.raise 0x5002 (0x110 + c.val) (k * 2 ^ 24 + l)
        | none => s
      s.onCamera c (fun y => { y with
        ticks := assocDel n y.ticks, receiving := if y.receiving = some n then none else y.receiving })) s

/-- Cameras at a bell restart: no frame of the old count is left (R36, R269). -/
def State.camerasFresh (s : State) : State :=
  { s with host := { s.host with
    cameras := s.host.cameras.map (fun x => { x with receiving := none, ticks := [], held := false, stale := false }) } }

end Sys2Proof.Machine
end

