-- ==== Sys2Proof/Machine/Mandible.lean ====
section
/-!
DEFINITION. Mandible drivers (14): the current loop, the six-phase profile, commands, safe states, protection, diagnostics.
-/
namespace Sys2Proof.Machine

def State.ch (s : State) (c : Nat) : Channel := vget s.mandible.channels c {}

def State.onCh (s : State) (c : Nat) (f : Channel → Channel) : State :=
  { s with mandible := { s.mandible with channels := vmod s.mandible.channels c f } }

/-! ## Configuration and profile -/

/-- Config word of a channel (Table MAND-1). -/
def State.chCfg (s : State) (c : Nat) : Nat := s.obj (0x2800 + c) 1

/-- The channel is enabled (R315). -/
def State.chOn (s : State) (c : Nat) : Bool := bitOf (s.chCfg c) 0

/-- The channel forms a bridge with its neighbour (R316). -/
def State.chBridge (s : State) (c : Nat) : Bool := c % 2 = 0 && bitOf (s.chCfg c) 1

/-- The channel is the partner of a bridge, which has no commands of its own (R316). -/
def State.chPartner (s : State) (c : Nat) : Bool := c % 2 = 1 && s.chBridge (c - 1)

/-- A phase record (Table MAND-3). -/
structure Phase where
  kind : Nat
  mode : Nat
  dither : Bool
  setpoint : Nat
  duration : Nat
  band : Nat
deriving DecidableEq, Repr

/-- Record `r` of a profile object (Table MAND-2). -/
def phaseIn (v r : Nat) : Phase :=
  { kind := octet v (7 * r) % 16, mode := octet v (7 * r) / 16 % 4, dither := bitOf (octet v (7 * r)) 6,
    setpoint := octets v (7 * r + 1) 2, duration := octets v (7 * r + 3) 2, band := octet v (7 * r + 5) }

def State.phase (s : State) (c r : Nat) : Phase := phaseIn (s.obj (0x2800 + c) 6) r

/-- Coil thermal resistance in K/W, coil ambient in °C (Table MAND-2). -/
def State.coilRth (s : State) (c : Nat) : Rat := (octets (s.obj (0x2800 + c) 6) 0x2A 2 : Rat) / 10
def State.coilTa (s : State) (c : Nat) : Int := signedOf 8 (octet (s.obj (0x2800 + c) 6) 0x2C)

/-- Full-scale current in mA (R319). -/
def State.fullScale (s : State) (c : Nat) : Rat := 250000000 / (s.obj (0x2800 + c) 0x11 : Rat)

/-- The kinds a start sequence runs (R323). -/
def isRunKind (k : Nat) : Bool := 1 ≤ k && k ≤ 4

/-- The profile is valid (R324); a kind outside Table MAND-4 is not (DEDUCED, log 40). -/
def State.profileValid (s : State) (c : Nat) : Bool :=
  let ks := (List.range 6).map (fun r => (s.phase c r).kind)
  ks.all (· ≤ 6)
  && (List.range 6).all (fun j => !isRunKind (s.phase c j).kind
        || (List.range j).all (fun i => (s.phase c i).kind ≠ 5 && (s.phase c i).kind ≠ 6))
  && ks.count 5 ≤ 1 && ks.count 6 ≤ 1
  && (!ks.contains 1 || bitOf (s.chCfg c) 2)
  && (!ks.contains 6 || s.chBridge c)
  && (List.range 6).all (fun r => decide (((s.phase c r).setpoint : Rat) * 10 ≤ 9 * s.fullScale c))

/-- The rules of R329 for a channel that a plan binds or a direct command starts. -/
def State.chFit (s : State) (c : Nat) : Bool :=
  s.chOn c && !s.chPartner c && s.profileValid c
  && (s.obj (0x2800 + c) 2 ≠ 1 || (s.chBridge c && (List.range 6).any (fun r => (s.phase c r).kind = 6)))
  && (!bitOf (s.obj (0x2800 + c) 0xD) 0 || (s.obj (0x2800 + c) 8 ≠ 0 && octets (s.obj (0x2800 + c) 6) 0x2A 2 ≠ 0))

/-- The record of a kind, if the profile has one. -/
def State.recordOf (s : State) (c k : Nat) : Option Nat := (List.range 6).find? (fun r => (s.phase c r).kind = k)

/-! ## The loop -/

/-- Triangle wave from 0, rising, of period 1 and height 1 at 1/4 (R321). -/
def triangle (x : Rat) : Rat :=
  let f := x - (x.floor : Rat)
  if f < 1 / 4 then 4 * f else if f < 3 / 4 then 2 - 4 * f else 4 * f - 4

/-- Square wave of period 1 whose first half is high (R321; DEDUCED, log 41). -/
def square (x : Rat) : Rat := if x - (x.floor : Rat) < 1 / 2 then 1 else -1

/-- The setpoint of a phase before dither, mA (R323, Table MAND-4). -/
def State.setpointOf (s : State) (c : Nat) (p : Phase) : Nat :=
  let ch := s.ch c
  if ch.safeHold then p.setpoint
  else if p.kind = 3 then (if ch.holdOverride = 0 then p.setpoint else ch.holdOverride)
  else if p.kind = 4 then min ch.setpoint p.setpoint
  else p.setpoint

/-- The target T at the present instant, mA (R320, R321). -/
def State.target (s : State) (c : Nat) (p : Phase) : Rat :=
  let t : Rat := (s.setpointOf c p : Nat)
  let w := s.obj (0x2800 + c) 7
  if p.dither && !(s.ch c).safeHold && (p.kind = 3 || p.kind = 4) && bitsOf w 16 5 ≠ 0 then
    let x : Rat := ((s.now : Rat) - ((s.ch c).phaseAt : Rat)) * (bitsOf w 0 9 : Rat) / 1000000000
    t + t * (bitsOf w 16 5 : Rat) / 100 * (if bitOf w 24 then square x else triangle x)
  else t

/-- The band B, mA (R320). -/
def bandOf (p : Phase) : Rat := (p.setpoint : Rat) * (p.band : Rat) / 100

/-- How a switch-off mode decays (R320), RECOVER carried out as FREEWHEEL while the rail is over (R318). The second part says
that it was. -/
def decayOf (mode : Nat) (high : Bool) (i t b : Rat) : Drive × Bool :=
  let recover : Drive × Bool := if high then (.freewheel, true) else (.recover, false)
  if mode = 1 then (.freewheel, false)
  else if mode = 2 then (if i > t + b then recover else (.freewheel, false))
  else recover

/-- The current I that the rules compare: the size of the latest sample, whichever diagonal of a bridge carries it (DEDUCED, log 143). -/
def Channel.size (x : Channel) : Nat := x.current.natAbs

/-- The switches close for drive `d`, once the 2 µs between two diagonals are over (R316). -/
def State.closeDrive (s : State) (c : Nat) (d : Drive) : State :=
  s.onCh c (fun x => if s.now < x.gapUntil then x else { x with drive := d })

/-- The record whose diagonal the switches of a channel belong to is a reverse latch pulse (R316, Table MAND-4). -/
def State.reversed (s : State) (c : Nat) : Bool :=
  match ((s.ch c).record).or (s.ch c).decay with
  | some r => (s.phase c r).kind = 6
  | none => false

/-- A phase of kind `k` is to begin: where the switches that are closed belong to the other diagonal of the bridge, every gate is off for
2 µs; the first sample after that closes them (R316). -/
def State.turnTo (s : State) (c k : Nat) : State :=
  let d := (s.ch c).drive
  let other : Bool := if k = 6 then d = .on || (d = .freewheel && !s.reversed c) else d = .reverse || (d = .freewheel && s.reversed c)
  if other then s.onCh c (fun x => { x with drive := .off, gapUntil := s.now + 2000 }) else s

/-- A decay begins: the drive, and status bit [19] (R318). -/
def State.beginDecay (s : State) (c : Nat) (p : Phase) (t : Rat) : State :=
  let (d, f) := decayOf p.mode s.mandible.overLimit ((s.ch c).size : Rat) t (bandOf p)
  s.onCh c (fun x => { x with drive := d, recoverAsFreewheel := f })

/-- A MIXED decay goes on: one that was carried out as FREEWHEEL does not recover any more (R318, R320). -/
def State.mixDecay (s : State) (c : Nat) (p : Phase) (t : Rat) : State :=
  let held := (s.ch c).recoverAsFreewheel
  let (d, f) := decayOf p.mode (s.mandible.overLimit || held) ((s.ch c).size : Rat) t (bandOf p)
  s.onCh c (fun x => { x with drive := d, recoverAsFreewheel := f || held })

/-- A regulating phase compares the sample with its target (R320). Within the band the switches keep their state, and MIXED goes on as
FREEWHEEL there. -/
def State.regulate (s : State) (c : Nat) (p : Phase) : State :=
  let i : Rat := ((s.ch c).size : Rat)
  let t := s.target c p
  let b := bandOf p
  let closed : Drive := if p.kind = 6 then .reverse else .on
  if i < t - b / 2 then s.closeDrive c closed
  else if i > t + b / 2 then
    (if (s.ch c).drive = closed ∨ (s.ch c).drive = .off then s.beginDecay c p t
     else if p.mode = 2 then s.mixDecay c p t else s)
  else if p.mode = 2 ∧ (s.ch c).drive = .recover then s.mixDecay c p t
  else s

/-- A channel without a phase; the instant it became so. -/
def Channel.idle (x : Channel) (now : Nat) : Channel :=
  { x with record := none, kind := 0, safeHold := false, idleAt := if x.record.isSome then now else x.idleAt }

/-- The channel is idle, decaying with the switch-off mode of record `r` (R323, R327). -/
def State.idleWith (s : State) (c r : Nat) : State :=
  let p := s.phase c r
  let s := s.beginDecay c p 0
  s.onCh c (fun x => { x.idle s.now with decay := some r })

/-- The channel is idle with both switches open. -/
def State.idleOpen (s : State) (c : Nat) : State :=
  s.onCh c (fun x => { x.idle s.now with drive := .off, decay := none })

/-- Phase `r` begins. -/
def State.beginPhase (s : State) (c r : Nat) : State :=
  let p := s.phase c r
  let s := (s.turnTo c p.kind).onCh c (fun x => { x with record := some r, kind := p.kind, phaseAt := s.now, decay := none })
  if p.kind = 1 then s.closeDrive c .on
  else if p.kind = 5 then s.beginDecay c p 0
  else if p.kind = 6 then (s.onCh c (fun x => { x with startedSince := false })).regulate c p
  else s.regulate c p

/-- Off (R327): the release record, or the present phase's switch-off mode; then idle. -/
def State.channelOff (s : State) (c : Nat) : State :=
  let s := s.onCh c (fun x => { x with safeHold := false })
  match s.recordOf c 5 with
  | some r => s.beginPhase c r
  | none =>
    match (s.ch c).record with
    | some r => s.idleWith c r
    | none => s

/-- Start (R326): the sequence from its first phase; without one of kinds 1 to 4 nothing runs. -/
def State.channelStart (s : State) (c : Nat) : State :=
  let s := s.onCh c (fun x => { x with startedSince := true, startedAt := s.now, peakMissed := false, safeHold := false })
  if isRunKind (s.phase c 0).kind then s.beginPhase c 0 else s.idleOpen c

/-- Reverse (R326): the pulse on a bridge that has one, otherwise off. -/
def State.channelReverse (s : State) (c : Nat) : State :=
  match s.chBridge c, s.recordOf c 6 with
  | true, some r => (s.onCh c (fun x => { x with safeHold := false })).beginPhase c r
  | _, _ => s.channelOff c

/-- A phase ends (R323, Table MAND-4). -/
def State.endPhase (s : State) (c r : Nat) : State :=
  let k := (s.phase c r).kind
  if isRunKind k && (r + 1 < 6) && isRunKind (s.phase c (r + 1)).kind then s.beginPhase c (r + 1)
  else if k = 5 then s.idleOpen c
  else s.idleWith c r

/-! ## Status -/

/-- The channel is limited by the coil protections (R332, R333). -/
def Channel.limited (x : Channel) : Bool := x.thermal || x.duty

/-- Energised: a phase that drives current is in progress (DEDUCED, log 42). -/
def Channel.energised (x : Channel) : Bool := x.record.isSome && x.kind ≠ 5 && x.kind ≠ 0

/-- The channel status word (Table MAND-8). The record field reads 7 on an idle channel that is configured, and 0, the default of
Table OD-9, on a channel that is off (DEDUCED, log 150). -/
def Channel.status (on : Bool) (x : Channel) : Nat :=
  (if x.energised then 1 else 0) + 2 * (x.record.getD (if on then 7 else 0)) + 16 * x.kind
  + (if x.stale then 2 ^ 8 else 0) + (if x.safe then 2 ^ 9 else 0) + (if x.poisoned then 2 ^ 10 else 0)
  + (if x.latched then 2 ^ 11 else 0) + (if x.openLoad then 2 ^ 12 else 0) + (if x.shortGnd then 2 ^ 13 else 0)
  + (if x.shortSupply then 2 ^ 14 else 0) + (if x.shortRamp then 2 ^ 15 else 0) + (if x.thermal then 2 ^ 16 else 0)
  + (if x.duty then 2 ^ 17 else 0) + (if x.peakMissed then 2 ^ 18 else 0)
  + (if x.recoverAsFreewheel then 2 ^ 19 else 0) + (if x.direct then 2 ^ 20 else 0) + 2 ^ 21 * x.probe

/-- A rounded read-out: the number when it is whole, else one of its two neighbours (log 10). -/
def readout (what : Nat) (key : Nat) (q : Rat) : Int :=
  if q.den = 1 then q.num else q.floor + (if Config.roundsUp what key then 1 else 0)

/-! ## Safe states -/

/-- The channel's own safe state is entered (R330, Table MAND-6; R334, R336). -/
def State.enterSafe (s : State) (c : Nat) : State :=
  if !s.chOn c then s
  else
    let x := s.ch c
    let s := s.onCh c (fun x => { x with safe := true })
    let off := if (s.ch c).drive = .off then s.idleOpen c
      else
        let d : Drive := if s.mandible.overLimit then .freewheel else .recover
        s.onCh c (fun y => { y.idle s.now with drive := d, decay := none, recoverAsFreewheel := s.mandible.overLimit })
    if x.latched then s
    else if s.obj (0x2800 + c) 2 = 1 then
      (match s.recordOf c 6 with
        | some r => if x.startedSince then s.beginPhase c r else s
        | none => off)
    else if s.obj (0x2800 + c) 2 = 2 ∧ ¬ x.limited then
      (match x.energised, s.recordOf c 3 with
        | true, some r =>
          let s := (s.turnTo c 3).onCh c (fun y => { y with safeHold := true, record := some r, kind := 3, phaseAt := s.now, decay := none })
          s.regulate c (s.phase c r)
        | true, none => off
        | false, _ => off)
    else off

/-- Every channel enters its safe state (R330). -/
def State.mandiblesSafe (s : State) : State := (List.range 8).foldl State.enterSafe s

/-- On a rail failure every channel opens both switches at once (R330). -/
def State.mandiblesOpen (s : State) : State := (List.range 8).foldl State.idleOpen s

/-- At bell 0 every channel is idle and not in its safe state (R331); stale marks are cleared by the restart (R36). -/
def State.mandiblesFresh (s : State) : State :=
  (List.range 8).foldl (fun s c => (s.idleOpen c).onCh c (fun x => { x with safe := false, stale := false })) s

/-! ## Commands -/

/-- A clean commit (R325, R326, R331, R336): leaves a safe state of the channel, clears STALE, poison and the direct mark, keeps
the setpoints, and acts unless a device-wide safe state is in force, the channel is off or latched, or a start is refused. -/
def State.mandibleCommit (s : State) (c cmd setpoint hold : Nat) : State :=
  if !s.chOn c || s.chPartner c || s.plan.safe then s
  else
    let s := s.onCh c (fun x => { x with stale := false, poisoned := false, safe := false, safeHold := false, direct := false })
    if (s.ch c).latched then s
    else
      let s := s.onCh c (fun x => { x with setpoint := setpoint, holdOverride := hold })
      if cmd = 1 then (if (s.ch c).limited then s else s.channelStart c)
      else if cmd = 2 ∨ cmd = 4 then s
      else if cmd = 3 then s.channelReverse c
      else s.channelOff c

/-- A poisoned commit (Table MEM-4): the declared safe state. -/
def State.mandiblePoisoned (s : State) (c : Nat) : State :=
  if !s.chOn c || s.chPartner c || s.plan.safe then s
  else (s.enterSafe c).onCh c (fun x => { x with poisoned := true, stale := false })

/-- A withheld commit (Table BELL-5). -/
def State.mandibleWithheld (s : State) (c : Nat) : State := s.onCh c (fun x => { x with stale := true })

/-- A start by FIRE or by an angle event (R326, R331). -/
def State.fireStart (s : State) (c : Nat) : State :=
  let x := s.ch c
  if !s.chOn c || s.chPartner c || s.plan.safe || x.safe || x.stale || x.limited || x.latched then s else s.channelStart c

/-- The channel can take a direct command of value 0 or 1 (R315, R328, R331, R336; log 43). -/
def State.directOk (s : State) (c : Nat) : Bool :=
  s.chOn c && !s.chPartner c && !s.plan.safe && !(s.ch c).safe && !(s.ch c).latched

def State.directOff (c : Nat) (s : State) : Except Nat State :=
  if s.directOk c then .ok ((s.channelOff c).onCh c (fun x => { x with direct := true })) else .error abortState

def State.directStart (c : Nat) (s : State) : Except Nat State :=
  if s.directOk c && s.chFit c && !(s.ch c).limited then
    .ok ((s.channelStart c).onCh c (fun x => { x with direct := true }))
  else .error abortState

def State.directSafe (c : Nat) (s : State) : Except Nat State :=
  if s.chOn c && !s.chPartner c && !(s.ch c).latched then
    .ok ((s.enterSafe c).onCh c (fun x => { x with direct := true }))
  else .error abortState

/-- A latched short is released (R336): the channel idles, the fault bits clear. -/
def State.faultClear (c : Nat) (s : State) : Except Nat State :=
  if (s.ch c).latched then
    .ok ((s.idleOpen c).onCh c (fun x =>
      { x with latched := false, shortGnd := false, shortSupply := false, shortRamp := false, probeRun := (0, 0) }))
  else .ok s

/-! ## Diagnostics -/

/-- Detail of a diagnostic event (R337). -/
def State.diagDetail (s : State) (c row : Nat) : Nat :=
  let x := s.ch c
  row * 2 ^ 24 + (if x.record.isSome then x.kind else 0xFF) * 2 ^ 16 + unsignedOf 16 x.current

/-- A short latches the channel off (R336, R337); `flag` sets the row's bit. A latched channel logs nothing more. -/
def State.latchShort (s : State) (c row code : Nat) (flag : Channel → Channel) : State :=
  if (s.ch c).latched then s
  else
    let s := s.raise code (0x160 + c) (s.diagDetail c row)
    (s.idleOpen c).onCh c (fun x => flag { x with latched := true })

/-- An open load is flagged, once (R336, R337). -/
def State.flagOpen (s : State) (c row : Nat) : State :=
  if (s.ch c).openLoad then s
  else (s.raise 0x7001 (0x160 + c) (s.diagDetail c row)).onCh c (fun x => { x with openLoad := true, openAt := s.now })

/-- The class of an off-state probe (Table MAND-7, rows 2, 4, 7 and healthy): 0 none, 1 healthy, 2 open, 3 short to ground,
4 short to supply. -/
def probeClass (sh dl : Int) : Nat :=
  if sh < 1000 ∧ dl > 4000 then 2
  else if sh < 1000 ∧ dl < 1000 then 3
  else if sh > 6000 ∧ dl > 6000 then 4
  else if 1000 ≤ sh ∧ sh ≤ 4000 ∧ 1000 ≤ dl ∧ dl ≤ 4000 ∧ sh - dl ≤ 500 ∧ dl - sh ≤ 500 then 1
  else 0

/-- A probe of an idle, probing channel; a result counts after three equal ones (R335). -/
def State.probe (s : State) (c : Nat) (sh dl : Int) : State :=
  if !s.chOn c || !bitOf (s.chCfg c) 3 || (s.ch c).record.isSome then s
  else
    let k := probeClass sh dl
    let (k0, n) := (s.ch c).probeRun
    let n := if k = k0 then n + 1 else 1
    let s := s.onCh c (fun x => { x with probeRun := (k, n) })
    if n < 3 then s
    else
      let s := s.onCh c (fun x => { x with probe := k })
      if k = 1 then s.onCh c (fun x => { x with openLoad := false })
      else if k = 2 then s.flagOpen c 2
      else if k = 3 then s.latchShort c 4 0x7002 (fun x => { x with shortGnd := true })
      else if k = 4 then s.latchShort c 7 0x7003 (fun x => { x with shortSupply := true })
      else s

/-! ## Meanings -/

/-- MANDIBLE_CMD_OFF (R327). -/
def execMandibleCmdOff (ch : Fin 8) (setpoint hold : U16) (s : State) : Result :=
  runLive (fun s => s.mandibleCommit ch 0 setpoint.toNat hold.toNat) s

/-- MANDIBLE_CMD_START (R326). -/
def execMandibleCmdStart (ch : Fin 8) (setpoint hold : U16) (s : State) : Result :=
  runLive (fun s => s.mandibleCommit ch 1 setpoint.toNat hold.toNat) s

/-- MANDIBLE_CMD_UPDATE (R326). -/
def execMandibleCmdUpdate (ch : Fin 8) (setpoint hold : U16) (s : State) : Result :=
  runLive (fun s => s.mandibleCommit ch 2 setpoint.toNat hold.toNat) s

/-- MANDIBLE_CMD_REVERSE (R326). -/
def execMandibleCmdReverse (ch : Fin 8) (setpoint hold : U16) (s : State) : Result :=
  runLive (fun s => s.mandibleCommit ch 3 setpoint.toNat hold.toNat) s

/-- MANDIBLE_CMD_ARM (R326). -/
def execMandibleCmdArm (ch : Fin 8) (setpoint hold : U16) (s : State) : Result :=
  runLive (fun s => s.mandibleCommit ch 4 setpoint.toNat hold.toNat) s

/-- MANDIBLE_DIRECT_OFF (R328). -/
def execMandibleDirectOff (p : Principal) (ch : Fin 8) (s : State) : Result :=
  runLive (State.ownWrite p (0x2800 + ch.val) 5 1 0 (State.directOff ch)) s

/-- MANDIBLE_DIRECT_START (R328). -/
def execMandibleDirectStart (p : Principal) (ch : Fin 8) (s : State) : Result :=
  runLive (State.ownWrite p (0x2800 + ch.val) 5 1 1 (State.directStart ch)) s

/-- MANDIBLE_DIRECT_SAFE_STATE (R328). -/
def execMandibleDirectSafeState (p : Principal) (ch : Fin 8) (s : State) : Result :=
  runLive (State.ownWrite p (0x2800 + ch.val) 5 1 2 (State.directSafe ch)) s

/-- MANDIBLE_FAULT_CLEAR (R336). -/
def execMandibleFaultClear (p : Principal) (ch : Fin 8) (s : State) : Result :=
  runLive (State.ownWrite p (0x2800 + ch.val) 0x10 1 1 (State.faultClear ch)) s

/-- The switches of an active phase, or the decay of an idle channel, follow a sample (R320, R323). -/
def State.loop (s : State) (c : Nat) : State :=
  let x := s.ch c
  match x.record with
  | some r =>
    let p := s.phase c r
    if p.kind = 1 then s.closeDrive c .on
    else if p.kind = 5 then (if p.mode = 2 then s.mixDecay c p 0 else s)
    else s.regulate c p
  | none =>
    match x.decay with
    | some r =>
      if ((x.size : Rat) * 50 < s.fullScale c) then s.idleOpen c
      else if (s.phase c r).mode = 2 then s.mixDecay c (s.phase c r) 0 else s
    | none => if x.drive ≠ .off ∧ (x.size : Rat) * 50 < s.fullScale c then s.idleOpen c else s

/-- A switch of the channel is closed, release and the decay of off excluded (R333). -/
def Channel.closed (x : Channel) : Bool :=
  x.record.isSome && x.kind ≠ 5 && (x.drive = .on || x.drive = .freewheel || x.drive = .reverse)

/-- A sample is taken into :04, the sums of R332 and the loop (R319, R320); an open load older than the last start clears once
2 ms of it have passed without row 1 (R336). -/
def State.sample (s : State) (c : Nat) (mA : Int) : State :=
  let s := s.onCh c (fun x => { x with current := mA, sumSq := x.sumSq + mA.natAbs * mA.natAbs, samples := x.samples + 1 })
  let s := s.loop c
  s.onCh c (fun x =>
    { x with closedMs := x.closedMs || x.closed,
             openLoad := x.openLoad && !(x.record.isSome && decide (x.openAt < x.startedAt)
               && decide (x.startedAt + 2000000 ≤ s.now)) })

/-- CURRENT_SAMPLE (R320). A disabled channel holds its gates off (R315). -/
def execCurrentSample (ch : Fin 8) (mA : Int) (t : Nat) (s : State) : Result :=
  runLive (fun s => let s := s.clock t
    if s.chOn ch then s.sample ch mA else s.onCh ch (fun x => { x with current := mA })) s

/-- The phase in progress ends now by current or duration (Table MAND-4). -/
def State.phaseOver (s : State) (c : Nat) (p : Phase) : Bool :=
  let x := s.ch c
  let elapsed : Bool := decide (x.phaseAt + p.duration * 10000 ≤ s.now)
  if x.safeHold then false
  else if p.kind = 1 then decide (p.setpoint ≤ x.size) || elapsed
  else if p.kind = 5 then decide ((x.size : Rat) * 50 < s.fullScale c) || elapsed
  else if p.kind = 3 ∨ p.kind = 4 then p.duration ≠ 0 && elapsed
  else elapsed

/-- PHASE_END (R323). -/
def execPhaseEnd (ch : Fin 8) (t : Nat) (s : State) : Result :=
  runLive (fun s => let s := s.clock t
    match (s.ch ch).record with
    | none => s
    | some r =>
      let p := s.phase ch r
      if s.phaseOver ch p then
        let missed := p.kind = 1 && decide ((s.ch ch).size < p.setpoint)
        (s.onCh ch (fun x => { x with peakMissed := x.peakMissed || missed })).endPhase ch r
      else s) s

/-- The coil estimate moves by one millisecond (R332). -/
def State.coilStep (s : State) (c : Nat) : Rat :=
  let x := s.ch c
  let r20 : Rat := (s.obj (0x2800 + c) 8 : Rat) / 1000
  let r := r20 * (1 + 393 / 100000 * (x.coil - 20))
  let meanSq : Rat := if x.samples = 0 then 0 else (x.sumSq : Rat) / (x.samples : Rat) / 1000000
  let pc := meanSq * r
  let tau : Rat := (s.obj (0x2800 + c) 9 : Rat)
  x.coil + 1 / 1000 / tau * ((s.coilTa c : Rat) + s.coilRth c * pc - x.coil)

/-- Coil temperature in 0.1 °C (0x2800 + ch:0F). -/
def State.coilTenths (s : State) (c : Nat) : Int := readout 0x280F c ((s.ch c).coil * 10)

/-- COIL_THERMAL_UPDATE (R332). -/
def execCoilThermalUpdate (ch : Fin 8) (s : State) : Result :=
  runLive (fun s =>
    let tc := s.coilStep ch
    let s := s.onCh ch (fun x => { x with coil := tc, sumSq := 0, samples := 0 })
    let lim : Rat := (s.obj (0x2800 + ch.val) 0xA : Rat)
    if bitOf (s.obj (0x2800 + ch.val) 0xD) 0 && decide (lim ≤ tc) && !(s.ch ch).thermal then
      let s := s.raise 0x7005 (0x160 + ch.val) (unsignedOf 16 (s.coilTenths ch))
      ((s.onCh ch (fun x => { x with thermal := true })).channelOff ch)
    else if (s.ch ch).thermal && decide (tc ≤ lim - 10) then s.onCh ch (fun x => { x with thermal := false })
    else s) s

/-- Milliseconds of the duty window in which a switch was closed (R333). -/
def Channel.dutyCount (x : Channel) : Nat := x.dutyBits.count true

/-- DUTY_UPDATE (R333). The duty in ‰ over W seconds is the count divided by W. -/
def execDutyUpdate (ch : Fin 8) (s : State) : Result :=
  runLive (fun s =>
    let w := s.obj (0x2800 + ch.val) 0xC
    let s := s.onCh ch (fun x => { x with dutyBits := (x.closedMs :: x.dutyBits).take (1000 * w), closedMs := x.closed })
    let n := (s.ch ch).dutyCount
    let lim := s.obj (0x2800 + ch.val) 0xB
    if bitOf (s.obj (0x2800 + ch.val) 0xD) 1 && decide (lim * w < n) && !(s.ch ch).duty then
      let s := s.raise 0x7006 (0x160 + ch.val) (unsignedOf 16 (readout 0x7006 ch ((n : Rat) / (w : Rat))))
      ((s.onCh ch (fun x => { x with duty := true })).channelOff ch)
    else if (s.ch ch).duty && decide (10 * n ≤ 9 * lim * w) then s.onCh ch (fun x => { x with duty := false })
    else s) s

/-- The absolute maximum of the boost rail and of the pins at it, mV (Table PINS-9). -/
def boostMaxMv : Int := 70000

/-- OFF_STATE_PROBE (R335), once the channel has been idle for 2 ms. A voltage beyond Table PINS-9 is outside every rule (R453). -/
def execOffStateProbe (ch : Fin 8) (mv : TerminalMv) (t : Nat) (s : State) : Result :=
  if mv.sh > boostMaxMv ∨ mv.dl > boostMaxMv then .fault .absoluteMaximum
  else runLive (fun s => let s := s.clock t
    if (s.ch ch).idleAt + 2000000 ≤ t then s.probe ch mv.sh mv.dl else s) s

/-- ON_STATE_OPEN_LOAD (R335): both switches closed, target at least 100 mA, current below the threshold. -/
def execOnStateOpenLoad (ch : Fin 8) (s : State) : Result :=
  runLive (fun s =>
    match (s.ch ch).record with
    | none => s
    | some r =>
      let t := s.target ch (s.phase ch r)
      let i : Rat := ((s.ch ch).size : Rat)
      if bitOf (s.chCfg ch) 4 && ((s.ch ch).drive = .on || (s.ch ch).drive = .reverse) && decide (100 ≤ t)
          && (decide (i < 50) || decide (i * 20 < t)) then s.flagOpen ch 1
      else s) s

/-- SHUNT_COMPARATOR_TRIP (R335, row 6). -/
def execShuntComparatorTrip (ch : Fin 8) (s : State) : Result :=
  runLive (fun s => if s.chOn ch then s.latchShort ch 6 0x7003 (fun x => { x with shortSupply := true }) else s) s

/-- A high side, or a low side, of the channel is closed (R316, R320). -/
def Channel.sideClosed (x : Channel) (highSide : Bool) : Bool :=
  x.drive = .on || x.drive = .reverse || (!highSide && x.drive = .freewheel)

/-- DESAT_BLANKING_END (R338): of a gate that has been turned on and still is. -/
def execDesatBlankingEnd (ch : Fin 8) (vdsMv : Nat) (s : State) : Result :=
  runLive (fun s => if s.chOn ch && (s.ch ch).sideClosed false && decide (2000 < vdsMv) then
    s.latchShort ch 8 0x7004 (fun x => { x with shortRamp := true }) else s) s

/-- DESAT_COMPARATOR_TRIP (R335, rows 3 and 5), of a switch that is closed. -/
def execDesatComparatorTrip (ch : Fin 8) (highSide : Bool) (s : State) : Result :=
  runLive (fun s =>
    if !s.chOn ch || !(s.ch ch).sideClosed highSide then s
    else if highSide then s.latchShort ch 3 0x7002 (fun x => { x with shortGnd := true })
    else s.latchShort ch 5 0x7003 (fun x => { x with shortSupply := true })) s

/-- The boost rail is above 110 % of its setpoint or above 66 V (R317 [3]). -/
def State.boostOver (s : State) (mv : Nat) : Bool :=
  decide (s.obj 0x2810 1 * 1100 < mv) || decide (66000 < mv)

/-- The boost status word (R317). Regulation, undervoltage and bypass are judged while the controller is enabled, overvoltage always
(DEDUCED, log 142: the word's default is 0). -/
def State.boostStatus (s : State) : Nat :=
  let v := s.mandible.boostMv
  let set := s.obj 0x2810 1 * 1000
  let on := s.obj 0x2810 4 = 1
  (if on then 1 else 0)
  + (if on ∧ 95 * set ≤ 100 * v ∧ 100 * v ≤ 105 * set then 2 else 0)
  + (if on ∧ 100 * v < 80 * set then 4 else 0)
  + (if s.boostOver v then 8 else 0)
  + (if on ∧ set < s.mandible.platformMv then 16 else 0)

/-- BOOST_OVERVOLTAGE (R318): the rail's voltage moves; above the limit every RECOVER becomes FREEWHEEL, below 105 % the next
decay may recover again. -/
def execBoostOvervoltage (mv platformMv : Nat) (s : State) : Result :=
  if (mv : Int) > boostMaxMv then .fault .absoluteMaximum
  else runLive (fun s =>
    let high := s.boostOver mv || (s.mandible.overLimit && decide (s.obj 0x2810 1 * 1050 ≤ mv))
    let s := { s with mandible := { s.mandible with boostMv := mv, platformMv := platformMv, overLimit := high } }
    if s.boostOver mv then
      (List.range 8).foldl (fun s c => if (s.ch c).drive = .recover then
        s.onCh c (fun x => { x with drive := .freewheel, recoverAsFreewheel := true }) else s) s
    else s) s

end Sys2Proof.Machine
end

