-- ==== Sys2Proof/Machine/Tallies.lean ====
section
/-!
DEFINITION. Tallies (09, R212 to R221): values, targets, the actions at a reach, and the commands on the selected tally.
-/
namespace Sys2Proof.Machine

def State.tally (s : State) (i : Nat) : Tally := (assocGet i s.tallies).getD {}

/-- A tally's new contents; a tally at its reset value is not listed. -/
def State.setTally (s : State) (i : Nat) (x : Tally) : State :=
  { s with tallies := if x = {} then assocDel i s.tallies else assocPut i x s.tallies }

/-- The config of a tally in the loaded plan; one without a config has target 0 and no action (R212). -/
def State.tallyConfig (s : State) (i : Nat) : TallyConfig :=
  match s.loaded with
  | some pl => (pl.tallies.find? (fun c => c.index = i)).getD { index := i }
  | none => { index := i }

/-- Partition `p` lies in the partition set of the tier in force. -/
def State.inTier (s : State) (p : Nat) : Bool :=
  match s.tier? with
  | some t => s.takesPart t && bitOf t.entry.partSet p
  | none => false

/-- Partition `p` owns a binding of the sink in the tier in force. -/
def State.binds (s : State) (p kind index : Nat) : Bool :=
  match s.tier? with
  | some t => t.bindings.any (fun b => b.kind = kind && b.index = index && b.owner = p)
  | none => false

def State.onPart (s : State) (p : Nat) (f : PartState → PartState) : State := { s with parts := vmod s.parts p f }

/-- EVENT (R216). -/
def State.tallyEvent (s : State) (p i : Nat) : State :=
  (s.onPart p (fun x => { x with lastNotified := i, notices := x.notices + 1 })).emit (.msix p 0)

/-- FIRE (R217, R220): only for a partition of the tier in force that binds the sink, never on an orphan, never while the sink is
in its safe state or stale. -/
def State.tallyFire (s : State) (p kind index : Nat) : State :=
  if !s.inTier p || !s.binds p kind index || s.bell.state = .orphaned then s
  else if kind = 1 then s.fireStart index
  else if kind = 4 then
    (if (s.camera index).held || (s.camera index).stale then s else s.camPulse index)
  else s

/-- The actions of a reach (R214 to R217). WAKE is the reach flag itself, which waiting records read (R215). -/
def State.reach (s : State) (i : Nat) : State :=
  match s.tallyOwner i with
  | none => s
  | some p =>
    let c := s.tallyConfig i
    let s := if c.event then s.tallyEvent p i else s
    if c.fire then s.tallyFire p c.sinkKind c.sinkIndex else s

/-- An increment (R213, R214), at a tile cycle of the running tick where its command names one. -/
def State.incTally (s : State) (i amount : Nat) (at_ : Option Int) : State :=
  let x := s.tally i
  let v := satAdd 32 x.value amount
  let target := (s.tallyConfig i).target
  if target ≠ 0 ∧ x.value.toNat < target ∧ target ≤ v.toNat then
    (s.setTally i { value := v, reached := true, at_ := at_ }).reach i
  else s.setTally i { x with value := v }

/-- Value 0, reach flag clear (R218). -/
def State.clearTally (s : State) (i : Nat) : State := s.setTally i {}

/-- Step 4 of Table BELL-3 (R218). -/
def State.autoReset (s : State) : State :=
  { s with tallies := s.tallies.filter (fun x => !(s.tallyConfig x.1).autoReset) }

/-- The instants of reach, counted from the next bell: a tick of `cycles` tile cycles has ended. -/
def State.ageTallies (s : State) (cycles : Nat) : State :=
  { s with tallies := s.tallies.map (fun x => (x.1, { x.2 with at_ := x.2.at_.map (fun c => c - cycles) })) }

/-- The tallies of a partition take value 0 (R211). -/
def State.clearPartTallies (s : State) (p : Nat) : State :=
  { s with tallies := s.tallies.filter (fun x => !s.inTallyRange p x.1) }

/-- The config word of 0x2E01:04 (R219). -/
def State.tallyWord (s : State) (i : Nat) : Nat :=
  let c := s.tallyConfig i
  c.sinkIndex * 2 ^ 24 + c.sinkKind % 16 * 2 ^ 16 + (if (s.tally i).reached then 16 else 0) + (if c.autoReset then 8 else 0)
  + (if c.fire then 4 else 0) + (if c.event then 2 else 0) + (if c.wake then 1 else 0)

/-- TALLY_INCREMENT (R219). -/
def execTallyIncrement (p : Principal) (amount : U16) (s : State) : Result :=
  runLive (State.ownWrite p 0x2E01 2 2 amount.toNat (fun s => .ok (s.incTally (s.copyOf p).tallySelect amount.toNat none))) s

/-- TALLY_CLEAR (R218, R219). -/
def execTallyClear (p : Principal) (s : State) : Result :=
  runLive (State.ownWrite p 0x2E01 3 1 1 (fun s => .ok (s.clearTally (s.copyOf p).tallySelect))) s

end Sys2Proof.Machine
end

