-- ==== Sys2Proof/Machine/Field.lean ====
section
/-!
DEFINITION. The field network (12): frames and their abort, the CANopen FD node, PDOs and plan sinks, EMCY and heartbeat, network
sleep. What needs the dictionary engine (received PDOs, USDO, unbound TPDOs) stands in Machine/Access.lean.
-/
namespace Sys2Proof.Machine

def State.can (s : State) (c : Nat) : Controller := vget s.field.can c {}

def State.onCan (s : State) (c : Nat) (f : Controller → Controller) : State :=
  { s with field := { s.field with can := vmod s.field.can c f } }

/-! ## Frames, arbitration and abort (R277, R278) -/

/-- The halt frame of a limit input (Table ANGLE-3). -/
def State.haltFrame (s : State) (i : Nat) : CanFrame :=
  let v := s.obj (0x2A00 + i) 9
  { ident := BitVec.ofNat 11 (octets v 0 2 % 2048), fd := octet v 2 = 1, ext := false, remote := false,
    data := toLE (octet v 3) (octets v 4 12), brs := octet v 2 = 1 }

/-- An abort request meets a buffer (R278): a frame that has not started is removed; one in arbitration, or past it, carries the cause. -/
def abortIn (p : TxFrame → Bool) (cause : Nat) (fs : List TxFrame) : List TxFrame :=
  fs.filterMap (fun f =>
    if p f then
      (match f.state with
        | .pending => none
        | .arbitrating | .committed => some { f with abortLate := some (f.abortLate.getD cause) })
    else some f)

def Controller.abort (c : Controller) (p : TxFrame → Bool) (cause : Nat) : Controller :=
  { c with buffers := abortIn p cause c.buffers, queued := c.queued.filter (fun f => !p f) }

/-- The controller is in bus-off or recovering from it. -/
def Controller.off (c : Controller) : Bool := c.state = .busOff || c.state = .recovering

/-- Error passive while a count is above 127, else error active (R280; ISO 11898-1, log 23). -/
def Controller.judged (c : Controller) : Controller :=
  if c.off || c.state = .asleep then c
  else { c with state := if 127 < c.tec.toNat ∨ 127 < c.recc.toNat then .errorPassive else .errorActive }

/-- A frame that a controller has to send: a halt frame or a buffer. -/
inductive OwnFrame where
  | halt (i : Fin 16)
  | buffer (f : TxFrame)
deriving DecidableEq, Repr

/-- The buffer of the lowest identifier, of equal ones the first. -/
def lowest : List TxFrame → Option TxFrame
  | [] => none
  | f :: r => match lowest r with
    | none => some f
    | some g => some (if g.frame.ident.toNat < f.frame.ident.toNat then g else f)

/-- The frame a controller offers at an arbitration (R277): a halt frame first, in ascending input (R355), then the lowest identifier. -/
def Controller.offered (c : Controller) : Option OwnFrame :=
  match (List.finRange 16).find? (fun i => c.halt.contains i) with
  | some i => some (.halt i)
  | none => (lowest c.buffers).map .buffer

/-- The frame in arbitration or on the bus; where none is, the one that the controller offers next. -/
def Controller.current (c : Controller) : Option OwnFrame :=
  match c.haltOnBus, c.buffers.find? (fun f => f.state ≠ .pending) with
  | some i, _ => some (.halt i)
  | none, some f => some (.buffer f)
  | none, none => c.offered

/-- A frame replaces those of its kind (R278, cause 0): they are aborted, and where one completes late the new frame waits for
it. -/
def Controller.replace (c : Controller) (f : TxFrame) (cause : Nat) : Controller :=
  let c := c.abort (fun g => g.kind = f.kind) cause
  if c.buffers.any (fun g => g.kind = f.kind) then { c with queued := c.queued ++ [f] } else c.add f

/-- The first frame equal to `f` leaves the buffers. -/
def dropFrame (f : TxFrame) : List TxFrame → List TxFrame
  | [] => []
  | g :: r => if g = f then r else g :: dropFrame f r

/-- The first frame equal to `f` becomes `f'`. -/
def putFrame (f f' : TxFrame) : List TxFrame → List TxFrame
  | [] => []
  | g :: r => if g = f then f' :: r else g :: putFrame f f' r

/-- Frames that waited for an aborted one become pending once none of their kind is left (R278). -/
def Controller.release (c : Controller) : Controller :=
  let go := c.queued.filter (fun f => !c.buffers.any (fun g => g.kind = f.kind))
  { c with buffers := c.buffers ++ go, queued := c.queued.filter (fun f => c.buffers.any (fun g => g.kind = f.kind)) }

/-- The log entry of an abort that came too late (R278). -/
def State.logAbortLate (s : State) (c : Nat) (f : TxFrame) (failed : Bool) : State :=
  match f.abortLate with
  | some k => s.raise 0x6002 (0x140 + c) ((if failed then 2 ^ 31 else 0) + k % 4 * 2 ^ 29 + f.frame.ident.toNat)
  | none => s

/-! ## Sleep and received frames (R296 to R298) -/

/-- Controller `c` takes part in the sleep vote that stands. -/
def State.sleeps (s : State) (c : Nat) : Bool := s.field.sleep ≠ .awake && bitOf s.field.sleepMask.toNat c

/-- Cyclic traffic flows: no sleep vote stands (R296). -/
def State.awake (s : State) : Bool := s.field.sleep = .awake

/-- Sleep ends: SWE deasserted, the vote cleared, AWAKE (R296, R298). -/
def State.endSleep (s : State) : State :=
  let s := s.setObj 0x2300 0x30 0
  { s with field := { s.field with sleep := .awake, swe := 0, armed := false, sleepMask := 0 } }

/-- A frame was on controller `c` (R297): in QUIET the 50 ms start again. -/
def State.busActive (s : State) (c : Nat) : State :=
  if s.sleeps c && s.field.sleep = .quiet then { s with field := { s.field with lastFrame := s.now } } else s

/-- The identifier passes the wake filter (R298). -/
def State.wakeMatch (s : State) (ident : Nat) : Bool :=
  (ident ^^^ s.obj 0x2300 0x32) &&& s.obj 0x2300 0x33 &&& 0x7FF = 0

/-- Value of 0x2300:35 (Table FIELD-7). -/
def SleepPhase.code : SleepPhase → Nat
  | .awake => 0
  | .quiet => 1
  | .arming => 2
  | .pastPnr => 3

/-- A valid frame with an 11-bit identifier before PNR: it aborts sleep when it matches the wake filter (R298). -/
def State.wakeCheck (s : State) (c ident : Nat) : State :=
  if s.sleeps c && (s.field.sleep = .quiet || s.field.sleep = .arming) && s.wakeMatch ident then
    (s.raise 0x6003 (0x140 + c) (s.field.sleep.code * 2 ^ 30 + ident)).endSleep
  else s

/-- A frame leaves its buffer; those that waited for it become pending. -/
def Controller.finish (c : Controller) (f : TxFrame) : Controller :=
  Controller.release { c with buffers := dropFrame f c.buffers }

/-- A frame takes part in an arbitration, wins it, loses it, or is interrupted: an abort request that met it in arbitration removes it when it
loses, and an error does not bring back a frame that was to be aborted (R278). ESI is set while the controller is error passive (R276). -/
def Controller.transmit (c : Controller) (f : TxFrame) (result : TxEnd) : Controller :=
  let put (g : TxFrame) : Controller := { c with buffers := putFrame f g c.buffers }
  match result with
  | .started => put { f with state := .arbitrating }
  | .won => put { f with state := .committed, frame := { f.frame with esi := f.frame.fd && c.state = .errorPassive } }
  | .lost | .error => if f.abortLate.isSome then c.finish f else put { f with state := .pending }
  | .sent => c.finish f

/-- A successful transmission lowers the transmit error count (R280; ISO 11898-1, log 23). -/
def Controller.sentWell (c : Controller) : Controller := { c with tec := c.tec - (if c.tec = 0 then 0 else 1) }.judged

/-- A halt frame is offered again until it is sent (R277, R355); one sent in QUIET or ARMING restarts QUIET (R298). -/
def State.haltTransmit (s : State) (c : Nat) (i : Fin 16) (result : TxEnd) : State :=
  match result with
  | .started | .won => s.onCan c (fun x => { x with haltOnBus := some i })
  | .lost | .error => s.onCan c (fun x => { x with haltOnBus := none })
  | .sent =>
    let s := s.onCan c (fun x => Controller.sentWell { x with haltOnBus := none, halt := x.halt.filter (· ≠ i) })
    if s.sleeps c && (s.field.sleep = .quiet || s.field.sleep = .arming) then
      { s with field := { s.field with sleep := .quiet, swe := 0, armed := false, lastFrame := s.now } }
    else s

/-- CAN_TX_DONE (R277, R278): of a controller's frames, the one in arbitration or on the bus, or else the one it offers; no other can be
started or sent. A controller in bus-off or asleep sends nothing. -/
def execCanTxDone (c : Fin 2) (ident : BitVec 11) (result : TxEnd) (s : State) : Result :=
  runLive (fun s =>
    if (s.can c).off || (s.can c).state = .asleep then s
    else match (s.can c).current with
    | some (.halt i) => if (s.haltFrame i).ident = ident then s.haltTransmit c i result else s
    | some (.buffer f) =>
      if f.frame.ident ≠ ident then s
      else
        let s := s.onCan c (·.transmit f result)
        (match result with
          | .sent => ((s.onCan c (·.sentWell)).logAbortLate c f false).busActive c
          | .error => if f.state = .committed then s.logAbortLate c f true else s
          | _ => s)
    | none => s) s

/-- CAN_ABORT_COMMAND (R278, cause 3). -/
def execCanAbortCommand (p : Principal) (c : Fin 2) (s : State) : Result :=
  runLive (State.ownWrite p 0x2300 0x2C 1 (2 ^ c.val) (fun s => .ok (s.onCan c (·.abort (fun _ => true) 3)))) s

/-! ## Errors (R279, R280) -/

/-- The state field of the status word (R280). -/
def CanState.code : CanState → Nat
  | .errorActive => 0
  | .errorPassive => 1
  | .busOff => 2
  | .recovering => 3
  | .asleep => 4

/-- The controller status word (R280). -/
def Controller.status (c : Controller) : Nat :=
  c.tec.toNat * 2 ^ 24 + c.recc.toNat * 2 ^ 16 + c.state.code * 2 ^ 12 + min c.busOffs 0xFFF

/-- CAN_BUS_OFF (R279): the count rises, every frame but the halt frames is discarded. -/
def execCanBusOff (c : Fin 2) (s : State) : Result :=
  runLive (fun s =>
    if (s.can c).off || (s.can c).state = .asleep then s
    else
      let s := s.onCan c (fun x => { x with
        state := .busOff, busOffs := min (x.busOffs + 1) 0xFFF, buffers := [], queued := [], haltOnBus := none })
      s.raise 0x6001 (0x140 + c.val) (s.can c).busOffs) s

/-- BUS_OFF_RECOVERY_START (R279). -/
def execBusOffRecoveryStart (c : Fin 2) (s : State) : Result :=
  runLive (fun s => if (s.can c).state = .busOff then s.onCan c (fun x => { x with state := .recovering }) else s) s

/-- The controller integrates to the bus: the accepted timing words take effect (R275). -/
def State.integrate (s : State) (c : Nat) : State :=
  s.onCan c (fun x => { x with nominal := s.obj 0x2300 (0x20 + 2 * c), dataWord := s.obj 0x2300 (0x21 + 2 * c) })

/-- BUS_OFF_RECOVERY_DONE (R279): the controller is error active again with its counts at 0 (ISO 11898-1, log 23), and EMCY 0x8140
is sent. -/
def execBusOffRecoveryDone (c : Fin 2) (s : State) : Result :=
  runLive (fun s =>
    if (s.can c).state = .recovering then
      ((s.onCan c (fun x => { x with state := .errorActive, tec := 0, recc := 0 })).integrate c).emcy 0x8140 (some 4) 0 0
    else s) s

/-- CAN_BUS_ERROR (R280): the counts move; a count above 127 makes the controller error passive (ISO 11898-1, log 23). -/
def execCanBusError (c : Fin 2) (tec rx : Byte) (s : State) : Result :=
  runLive (fun s => s.onCan c (fun x => Controller.judged { x with tec := tec, recc := rx })) s

/-- A frame received without error lowers the receive error count, which from above 127 falls to a value between 119 and 127 (R280; ISO
11898-1, log 23). -/
def State.receivedWell (s : State) (c : Nat) : State :=
  let n := (s.can c).recc.toNat
  if n = 0 then s
  else if n ≤ 127 then s.onCan c (fun x => Controller.judged { x with recc := BitVec.ofNat 8 (n - 1) })
  else
    let (v, s) := s.takeFree
    s.onCan c (fun x => Controller.judged { x with recc := BitVec.ofNat 8 (119 + v.toNat % 9) })

/-! ## The node (R281 to R283, R294, R295) -/

/-- NMT state as a heartbeat carries it (CiA 301, log 20). -/
def Nmt.code : Nmt → Nat
  | .initialisation => 0
  | .stopped => 4
  | .operational => 5
  | .preOperational => 127

def State.setNmt (s : State) (n : Nmt) : State := { s with field := { s.field with nmt := n } }

/-- A state is entered: in Operational the SYNCs of the TPDOs count from anew, and EMCYs that waited for a state that sends them go out
(R283, R294). -/
def State.enterNmt (s : State) (n : Nmt) : State :=
  let s := if n = .operational ∧ s.field.nmt ≠ .operational then
      { s with field := { s.field with tpdos := s.field.tpdos.map (fun x => { x with syncs := none }) } }
    else s
  (s.setNmt n).drainEmcy

/-- The node passes through Initialisation (R281): boot-up messages, Pre-operational, and Operational where autostart is set. -/
def State.nodeStart (s : State) : State :=
  let s := s.queueService 0 { frame := classicFrame (0x700 + s.nodeId) [0], kind := .bootup }
  s.enterNmt (if s.obj 0x2300 0x2D = 1 then .operational else .preOperational)

/-- An NMT command reaches this node: addressed to it or to every node (node 0). -/
def State.nmtForMe (s : State) (node : Byte) : Bool := node = 0 || decide (node.toNat = s.nodeId)

/-- The objects 0x1000 to 0x1FFF take their defaults, the error register among them, and the node starts again (R282). -/
def State.resetComm (s : State) : State :=
  let keep (x : Nat × Nat) : Bool := x.1 < odKey 0x1000 0 || odKey 0x2000 0 ≤ x.1
  let s := { s with od := { written := s.od.written.filter keep, inForce := s.od.inForce.filter keep },
                    field := { s.field with errorReg := 0, nmt := .initialisation, tpdos := Vector.replicate 32 {} } }
  s.nodeStart

def State.nmtStart (s : State) (node : Byte) : State := if s.nmtForMe node then s.enterNmt .operational else s
def State.nmtStop (s : State) (node : Byte) : State := if s.nmtForMe node then s.enterNmt .stopped else s
def State.nmtPreop (s : State) (node : Byte) : State := if s.nmtForMe node then s.enterNmt .preOperational else s
def State.nmtReset (s : State) (node : Byte) : State := if s.nmtForMe node then s.resetComm else s

/-- NMT_START (R282). -/
def execNmtStart (node : Byte) (s : State) : Result := runLive (fun s => s.nmtStart node) s

/-- NMT_STOP (R282). -/
def execNmtStop (node : Byte) (s : State) : Result := runLive (fun s => s.nmtStop node) s

/-- NMT_ENTER_PREOPERATIONAL (R282). -/
def execNmtEnterPreoperational (node : Byte) (s : State) : Result := runLive (fun s => s.nmtPreop node) s

/-- NMT_RESET_NODE (R282). -/
def execNmtResetNode (node : Byte) (s : State) : Result := runLive (fun s => s.nmtReset node) s

/-- NMT_RESET_COMMUNICATION (R282). -/
def execNmtResetCommunication (node : Byte) (s : State) : Result :=
  runLive (fun s => if s.nmtForMe node then s.resetComm else s) s

/-- HEARTBEAT_PRODUCE (R295, R283): in every NMT state, unless 0x1017 is 0 or a sleep vote stands. -/
def execHeartbeatProduce (s : State) : Result :=
  runLive (fun s => if s.obj 0x1017 0 = 0 || !s.awake then s
    else s.queueService 0 { frame := classicFrame (0x700 + s.nodeId) [BitVec.ofNat 8 s.field.nmt.code], kind := .heartbeat }) s

/-- HEARTBEAT_CONSUMER_TIMEOUT (R295): EMCY 0x8130, then what 0x1029:01 selects. -/
def execHeartbeatConsumerTimeout (k : Fin 8) (s : State) : Result :=
  runLive (fun s =>
    let e := s.obj 0x1016 (k.val + 1)
    if bitsOf e 0 16 = 0 ∨ bitsOf e 16 8 = 0 then s
    else
      let s := s.emcy 0x8130 (some 4) 0 0
      if s.obj 0x1029 1 = 0 then s.enterNmt .preOperational
      else if s.obj 0x1029 1 = 2 then s.enterNmt .stopped
      else s) s

/-- EMCY_INHIBIT_EXPIRY (R294): the next waiting EMCY is sent; in a state that sends none it waits on. -/
def execEmcyInhibitExpiry (s : State) : Result :=
  runLive (fun s => ({ s with field := { s.field with emcyInhibit := false } }).drainEmcy) s

/-- The error register is cleared and error code 0x0000 sent (R294). -/
def State.clearErrors (s : State) : State :=
  ({ s with field := { s.field with errorReg := 0 } }).emcy 0 none 0 0

/-- CLEAR_ERROR_REGISTER (R294). -/
def execClearErrorRegister (p : Principal) (s : State) : Result :=
  runLive (State.ownWrite p 0x2300 0x2C 1 0x10 (fun s => .ok s.clearErrors)) s

/-! ## PDOs and plan sinks (R285 to R290) -/

/-- PDO length in bytes from its mapping (R285); `base` is 0x1600 or 0x1A00. -/
def State.pdoLength (s : State) (base n : Nat) : Nat :=
  ((List.range (s.obj (base + n) 0)).map (fun k => bitsOf (s.obj (base + n) (k + 1)) 0 8)).sum / 8

/-- The controller a PDO uses (R285). -/
def State.tpdoCan (s : State) (n : Nat) : Nat := if bitOf (s.obj 0x2300 0x26) n then 1 else 0
def State.rpdoCan (s : State) (n : Nat) : Nat := if bitOf (s.obj 0x2300 0x27) n then 1 else 0

/-- TPDO `n` is plan-bound (R286). -/
def State.tpdoBound (s : State) (n : Nat) : Bool := (s.sinkOwner 2 n).isSome

/-- The first `l` bytes, with zeros where the data end sooner (log 44). -/
def fit (l : Nat) (bs : List Byte) : List Byte := (bs ++ List.replicate l 0).take l

/-- Safe content of TPDO `n`, its first L bytes (R287). -/
def State.safeContent (s : State) (n : Nat) : List Byte :=
  toLE (s.pdoLength 0x1A00 n) (s.obj 0x2300 (0x40 + n))

/-- A plan-bound TPDO frame becomes pending (R283, R286, R278): in Operational, with a valid identifier, on a controller that is
not in bus-off. -/
def State.sendBound (s : State) (n : Nat) (data : List Byte) (cause : Nat) : State :=
  let c := s.tpdoCan n
  let cob := s.obj (0x1800 + n) 1
  if s.field.nmt ≠ .operational ∨ bitOf cob 31 ∨ (s.can c).off then s
  else s.onCan c (fun x => x.replace { frame := fdFrame (cob % 2048) data, kind := .tpdoBound n } cause)

/-- A commit of a plan-bound TPDO fires (R286, R287): its data, or the safe content when it is poisoned. -/
def State.tpdoCommit (s : State) (n : Nat) (data : List Byte) (poisoned : Bool) : State :=
  if s.field.tpdoMuted then s
  else s.sendBound n (if poisoned then s.safeContent n else fit (s.pdoLength 0x1A00 n) data) 0

/-- Every plan-bound TPDO frame is aborted (Table FIELD-3, cause 1). -/
def State.abortBound (s : State) : State :=
  let p (f : TxFrame) : Bool := match f.kind with
    | .tpdoBound _ => true
    | _ => false
  (s.onCan 0 (·.abort p 1)).onCan 1 (·.abort p 1)

/-- Safe-state entry of the TPDOs (R287): abort, then the safe content of each one bound in the tier in force, then silence. -/
def State.tpdoSafe (s : State) : State :=
  let s := s.abortBound
  let s := (List.range 32).foldl (fun s n => if s.tpdoBound n then s.sendBound n (s.safeContent n) 1 else s) s
  { s with field := { s.field with tpdoMuted := true } }

def State.rpdo (s : State) (n : Nat) : Rpdo := vget s.field.rpdos n {}

def State.onRpdo (s : State) (n : Nat) (f : Rpdo → Rpdo) : State :=
  { s with field := { s.field with rpdos := vmod s.field.rpdos n f } }

/-- Owner of RPDO `n` (R290). -/
def State.rpdoOwner (s : State) (n : Nat) : Option Nat :=
  if bitsOf (s.obj 0x2300 (0x60 + n)) 24 8 = 0xFF then none else some (bitsOf (s.obj 0x2300 (0x60 + n)) 24 8)

/-- The latch record of Table FIELD-5. -/
def rpdoRecord (x : Rpdo) (fresh : Bool) (l : Nat) : List Byte :=
  fit 64 x.data
  ++ [BitVec.ofNat 8 l, BitVec.ofNat 8 ((if fresh then 1 else 0) + (if x.never then 2 else 0) + (if x.timeout then 4 else 0))]
  ++ List.replicate 6 0 ++ toLE 8 x.tick ++ List.replicate 48 0

/-- Bytes as words. -/
def toWords : (k : Nat) → List Byte → List FWord
  | 0, _ => []
  | k + 1, bs => ⟨BitVec.ofNat 64 (leNat (bs.take 8)), false⟩ :: toWords k (bs.drop 8)

/-- RPDO `n` is latched for tick `b` and its record written to its page (R289, R290; step 3 of Table BELL-3). -/
def State.latchRpdo (s : State) (b n : Nat) : State :=
  match s.rpdoOwner n with
  | none => s
  | some p =>
    let fresh := (s.rpdo n).next.isSome
    let s := s.onRpdo n (fun x => match x.next with
      | some d => { x with data := d, next := none, never := false, tick := b }
      | none => x)
    let page := (s.partEntry p).winBase + bitsOf (s.obj 0x2300 (0x60 + n)) 0 24 * 4096
    if s.present p then
      s.writeMem 0x100 ((page + 128 * (b % 2)) / 8) (toWords 16 (rpdoRecord (s.rpdo n) fresh (s.pdoLength 0x1600 n)))
    else s

def State.latchRpdos (s : State) (b : Nat) : State := (List.range 32).foldl (fun s n => s.latchRpdo b n) s

/-- At plan load no RPDO has been received (Table FIELD-5). -/
def State.rpdosFresh (s : State) : State :=
  { s with field := { s.field with rpdos := Vector.replicate 32 {} } }

/-- RPDO_EVENT_TIMEOUT (R290). -/
def execRpdoEventTimeout (n : Fin 32) (s : State) : Result :=
  runLive (fun s => if s.obj (0x1400 + n.val) 5 = 0 then s else s.onRpdo n (fun x => { x with timeout := true })) s

/-! ## Network sleep (R296, R297) -/

/-- A vote is written (R296). -/
def State.vote (controllers : BitVec 2) (s : State) : Except Nat State :=
  if s.running then .error abortState
  else
    let s := s.setObj 0x2300 0x30 (1 + 2 * controllers.toNat)
    let s := { s with field := { s.field with sleep := .quiet, sleepMask := controllers, lastFrame := s.now, swe := 0,
                                              armed := false } }
    let abortOn (s : State) (c : Nat) : State :=
      if bitOf controllers.toNat c then s.onCan c (·.abort (fun _ => true) 2) else s
    let s := abortOn (abortOn s 0) 1
    let w := s.obj 0x2300 0x31
    let f : TxFrame := { frame := classicFrame (w % 2048) [BitVec.ofNat 8 s.nodeId], kind := .vote }
    if bitOf w 31 then .ok s
    else
      let s := if bitOf controllers.toNat 0 then s.queueFrame 0 f else s
      .ok (if bitOf controllers.toNat 1 then s.queueFrame 1 f else s)

/-- SLEEP_VOTE (R296). -/
def execSleepVote (p : Principal) (controllers : BitVec 2) (s : State) : Result :=
  runLive (State.ownWrite p 0x2300 0x30 1 (1 + 2 * controllers.toNat) (State.vote controllers)) s

/-- The vote is withdrawn before PNR (R296); after it nothing can stop sleep entry (log 45). -/
def State.cancelVote (s : State) : Except Nat State :=
  if s.field.sleep = .pastPnr then .error abortState else .ok s.endSleep

/-- SLEEP_CANCEL (R296). -/
def execSleepCancel (p : Principal) (s : State) : Result :=
  runLive (State.ownWrite p 0x2300 0x30 1 0 State.cancelVote) s

/-- T_f in ns for one controller (R297): bit times are ticks of 12.5 ns. -/
def Controller.frameBound (c : Controller) : Nat :=
  max (165 * nominalTq c.nominal * 25 / 2) ((60 * nominalTq c.nominal + 700 * dataTq c.dataWord) * 25 / 2)

/-- T_f of the slowest controller that takes part (R297). -/
def State.frameBound (s : State) : Nat :=
  max (if bitOf s.field.sleepMask.toNat 0 then (s.can 0).frameBound else 0)
    (if bitOf s.field.sleepMask.toNat 1 then (s.can 1).frameBound else 0)

/-- SLEEP_QUIET_INSTANT (R297): after 50 ms without a frame, SWE is asserted and PNR is fixed. -/
def execSleepQuietInstant (t : Nat) (s : State) : Result :=
  runLive (fun s => let s := s.clock t
    if s.field.sleep = .quiet ∧ s.field.lastFrame + 50000000 ≤ t then
      { s with field := { s.field with sleep := .arming, quietAt := t, swe := s.field.sleepMask,
                                       pnrAt := t + s.obj 0x2300 0x34 * 1000 + s.frameBound } }
    else s) s

/-- SLEEP_ARMED (R297). -/
def execSleepArmed (t : Nat) (s : State) : Result :=
  runLive (fun s => let s := s.clock t
    if s.field.sleep = .arming ∧ s.field.quietAt + s.obj 0x2300 0x34 * 1000 ≤ t then
      { s with field := { s.field with armed := true } }
    else s) s

/-- At PNR the participating controllers stop and their transceivers go to sleep (Table FIELD-7). -/
def State.pastPnr (s : State) : State :=
  let sleepOn (s : State) (c : Nat) : State :=
    if bitOf s.field.sleepMask.toNat c then s.onCan c (fun x => { x with state := .asleep }) else s
  let s := sleepOn (sleepOn s 0) 1
  { s with field := { s.field with sleep := .pastPnr, standby := s.field.standby ||| s.field.sleepMask } }

end Sys2Proof.Machine
end

