-- ==== Sys2Proof/Machine/Angle.lean ====
section
/-!
DEFINITION. Angle engine, limit inputs, halt actions and homing (15).
-/
namespace Sys2Proof.Machine

/-! ## Wheels -/

def State.wheel (s : State) (w : Nat) : Wheel := vget s.angle.wheels w {}

def State.onWheel (s : State) (w : Nat) (f : Wheel → Wheel) : State :=
  { s with angle := { s.angle with wheels := vmod s.angle.wheels w f } }

/-- N, M and the enable bit of a wheel (R340, R341). -/
def State.wheelN (s : State) (w : Nat) : Nat := s.obj (0x2900 + w) 1
def State.wheelM (s : State) (w : Nat) : Nat := s.obj (0x2900 + w) 2
def State.wheelOn (s : State) (w : Nat) : Bool := bitOf (s.obj (0x2900 + w) 4) 0

/-- Position in 1/64 tooth at instant `t` of a LOCKED wheel (R344): it stops at k + 63/64, and runs through the gap from the last
tooth on. -/
def Wheel.positionAt (x : Wheel) (n m t : Nat) : Nat :=
  let e := match x.last with
    | some l => if x.tRef = 0 then 0 else 64 * (t - l) / x.tRef
    | none => 0
  if x.k + m + 1 = n then min (64 * x.k + e) (64 * (n - 1) + 63) else 64 * x.k + min 63 e

/-- 0x2900 + w:06 (R344): the present position in LOCKED, the last LOCKED one otherwise. -/
def State.wheelPosition (s : State) (w : Nat) : Nat :=
  let x := s.wheel w
  if x.sync = .locked then x.positionAt (s.wheelN w) (s.wheelM w) s.now else x.position

/-- Period tests of Table ANGLE-1 against T_ref `r`, with M missing teeth. -/
def isNoise (p r : Nat) : Bool := 2 * p < r
def isTooth (p r : Nat) : Bool := r ≤ 2 * p && 10 * p ≤ 16 * r
def isGap (m p r : Nat) : Bool := (2 * m + 1) * r ≤ 2 * p && 10 * p ≤ 16 * (m + 1) * r
def isEarly (m p r : Nat) : Bool := r ≤ 2 * p && 2 * p < (2 * m + 1) * r

/-- T_ref after a period (R342): the period where it lies in 0.75 to 1.33 of T_ref. -/
def newRef (p r : Nat) : Nat := if 3 * r ≤ 4 * p ∧ 100 * p ≤ 133 * r then p else r

/-- Noise is counted and logged at most once a second (R343). -/
def State.wheelNoise (s : State) (w : Nat) : State :=
  let x := s.wheel w
  let n := x.newNoise + 1
  let due := match x.noiseLog with
    | none => true
    | some l => decide (l + 1000000000 ≤ s.now)
  let s := s.onWheel w (fun x => { x with noise := satAdd 32 x.noise 1, newNoise := if due then 0 else n,
                                          noiseLog := if due then some s.now else x.noiseLog })
  if due then s.raise 0x7011 (0x170 + w) (min n 0xFFFFFFFF) else s

/-- An inferred interval ends (R350). -/
def State.closeInterval (s : State) (w : Nat) : State :=
  match (s.wheel w).interval with
  | none => s
  | some (n, sup, fired, first) =>
    (s.raise 0x7010 (0x170 + w) (n * 2 ^ 24 + sup % 256 * 2 ^ 16 + fired % 256 * 256 + first % 256)).onWheel w
      (fun x => { x with inferred := satAdd 32 x.inferred n, interval := none })

/-- The wheel becomes LOST (R345): the position shown stays, an inferred interval ends. -/
def State.wheelLost (s : State) (w detail : Nat) : State :=
  let pos := s.wheelPosition w
  let s := s.closeInterval w
  let s := s.onWheel w (fun x => { x with sync := .lost, position := pos })
  s.raise 0x7012 (0x170 + w) detail

/-- Every event of the wheel is armed anew for the next revolution (R346). -/
def State.rearm (s : State) (w : Nat) : State :=
  { s with angle := { s.angle with
    events := (List.range 64).foldl (fun v e => vmod v (64 * w + e) (fun x => { x with spent := false })) s.angle.events } }

/-- A tooth is accepted at the present instant. In LOCKED it takes the position on from where it stood (R344). -/
def State.acceptTooth (s : State) (w k : Nat) (ref : Nat) : State :=
  let pos := s.wheelPosition w
  let s := s.closeInterval w
  let s := s.onWheel w (fun x => { x with k := k, last := some s.now, tRef := ref,
                                          reach := if k = 0 then 0 else min (pos + 1) (64 * k) })
  if k = 0 then (s.rearm w).onWheel w (fun x => { x with fired := 0 }) else s

/-- The wheel searches anew, from the edge `edge` where there is one; T_ref shows its last value until the first period sets it. -/
def State.wheelSearch (s : State) (w : Nat) (edge : Option Nat) : State :=
  s.onWheel w (fun x => { x with sync := .search, periods := 0, last := edge, interval := none })

/-- The wheel is disabled, or enabled anew: SEARCH, and the position shown stays (R344, R345, Table ANGLE-2). -/
def State.wheelRestart (s : State) (w : Nat) : State :=
  let pos := s.wheelPosition w
  (s.wheelSearch w none).onWheel w (fun x => { x with position := pos })

/-- An edge in SEARCH (Table ANGLE-2, R342). -/
def State.searchEdge (s : State) (w m p : Nat) : State :=
  let x := s.wheel w
  if x.periods = 0 then s.onWheel w (fun x => { x with tRef := p, periods := 1, last := some s.now })
  else if isNoise p x.tRef then s.wheelNoise w
  else if isGap m p x.tRef && decide (2 ≤ x.periods) then
    s.onWheel w (fun x => { x with sync := .provisional, k := 0, last := some s.now, tRef := newRef (p / (m + 1)) x.tRef })
  else s.onWheel w (fun x => { x with periods := x.periods + 1, last := some s.now, tRef := newRef p x.tRef })

/-- An edge in PROVISIONAL (Table ANGLE-2). -/
def State.provisionalEdge (s : State) (w n m p : Nat) : State :=
  let x := s.wheel w
  if isNoise p x.tRef then s.wheelNoise w
  else if x.k + m + 1 < n then
    (if isTooth p x.tRef then s.acceptTooth w (x.k + 1) (newRef p x.tRef) else s.wheelSearch w (some s.now))
  else if isGap m p x.tRef then
    (s.acceptTooth w 0 (newRef (p / (m + 1)) x.tRef)).onWheel w (fun x => { x with sync := .locked })
  else s.wheelSearch w (some s.now)

/-- An early tooth, or LOST when the count leaves the wheel (Table ANGLE-1). -/
def State.earlyTooth (s : State) (w n k : Nat) : State :=
  if n - 1 < k + 1 then s.wheelLost w 2 else s.acceptTooth w (k + 1) (s.wheel w).tRef

/-- A gap out of place (R351). -/
def State.gapSlip (s : State) (w n m p : Nat) : State :=
  let x := s.wheel w
  let slip : Int := ((x.k : Int) - ((n : Int) - (m : Int) - 1)) * 64
  let s := s.raise 0x7013 (0x170 + w) (unsignedOf 16 slip * 65536 + x.fired % 256)
  (s.acceptTooth w 0 (newRef (p / (m + 1)) x.tRef)).onWheel w (fun y => { y with slip := slip })

/-- An edge in LOCKED (Table ANGLE-1). -/
def State.lockedEdge (s : State) (w n m p : Nat) : State :=
  let x := s.wheel w
  if isNoise p x.tRef then s.wheelNoise w
  else if x.k + m + 1 < n then (if isTooth p x.tRef then s.acceptTooth w (x.k + 1) (newRef p x.tRef) else s)
  else if isEarly m p x.tRef then s.earlyTooth w n x.k
  else if isGap m p x.tRef then
    (if x.k + m + 1 = n then s.acceptTooth w 0 (newRef (p / (m + 1)) x.tRef) else s.gapSlip w n m p)
  else s

/-- WHEEL_EDGE (R340 to R345, R351). -/
def execWheelEdge (w : Fin 2) (t : Nat) (s : State) : Result :=
  runLive (fun s => let s := s.clock t
    if !s.wheelOn w then s
    else
      let x := s.wheel w
      let n := s.wheelN w
      let m := s.wheelM w
      match x.last, x.sync with
      | some l, .lost => if isNoise (t - l) x.tRef then s.wheelNoise w else s.wheelSearch w (some t)
      | none, .lost => s.wheelSearch w (some t)
      | none, _ => s.onWheel w (fun x => { x with last := some t })
      | some l, .search => s.searchEdge w m (t - l)
      | some l, .provisional => s.provisionalEdge w n m (t - l)
      | some l, .locked => s.lockedEdge w n m (t - l)) s

/-! ## Angle events (R346 to R349) -/

def State.event (s : State) (e : Nat) : AngleEvent := vget s.angle.events e {}

def State.onEvent (s : State) (e : Nat) (f : AngleEvent → AngleEvent) : State :=
  { s with angle := { s.angle with events := vmod s.angle.events e f } }

/-- The object of event number `e`, 0 to 127: wheel 0's first (Table OD-9). -/
def eventIndex (e : Nat) : Nat := 0x2910 + e

/-- Some present tier of the loaded plan binds the event to a sink. -/
def State.eventBound (s : State) (e : Nat) : Bool :=
  match s.loaded with
  | some pl => pl.tiers.any (fun t => match t with
      | some t => t.bindings.any (fun b => b.kind = 5 && b.index = e)
      | none => false)
  | none => false

/-- The event is armed (R346). -/
def State.eventArmed (s : State) (e : Nat) : Bool :=
  s.obj (eventIndex e) 2 ≠ 0
  && (!s.eventBound e || ((s.event e).armedByCommit && (s.sinkOwner 5 e).isSome))

/-- Position of an event, in 1/64 tooth. -/
def State.eventPos (s : State) (e : Nat) : Nat := s.obj (eventIndex e) 1

/-- The action of an event that fires (R346, R348). -/
def State.eventAction (s : State) (e : Nat) : State :=
  let a := s.obj (eventIndex e) 2
  let n := s.obj (eventIndex e) 3
  if a = 1 then
    (if s.plan.safe ∨ 8 ≤ n then s
     else if bitOf s.angle.angOut.toNat n then s
     else { s with angle := { s.angle with
       angOut := s.angle.angOut ||| BitVec.ofNat 8 (2 ^ n),
       angEnd := vmod s.angle.angEnd n (fun _ => s.now + s.obj (eventIndex e) 6 * 1000) } })
  else if a = 2 then (if (s.camera n).held then s else s.camPulse n)
  else if a = 3 then s.fireStart n
  else if a = 4 then (if (s.tallyOwner n).isSome then s.incTally n (s.obj (eventIndex e) 6) none else s)
  else s

/-- An event fires (R346): timestamp, action, once per revolution. The timestamp is the time since the last bell (R3). While the bell is
STOPPED no tick is open, and the manual gives no origin: the time since the last bell there was goes on, in 32 bits (DESIGN CHOICE,
log 186). -/
def State.fireEvent (s : State) (w e : Nat) : State :=
  let s := s.onEvent e (fun x => { x with stamp := BitVec.ofInt 32 s.sinceBell, spent := true })
  let s := s.onWheel w (fun x => { x with fired := x.fired + 1 })
  s.eventAction e

/-- Inside an inferred interval an event fires only with INFERRED_OK; else it is suppressed (R349). -/
def State.inferredEvent (s : State) (w e : Nat) : State :=
  if bitOf (s.obj (eventIndex e) 4) 0 then
    (s.fireEvent w e).onWheel w (fun x => { x with interval := x.interval.map (fun (n, a, b, f) => (n, a, b + 1, f)) })
  else
    (s.onEvent e (fun x => { x with stamp := 0x80000000, spent := true })).onWheel w
      (fun x => { x with interval := x.interval.map (fun (n, a, b, f) => (n, a + 1, b, f)) })

/-- Event `e` is reached at the present instant: armed, not spent, its position in the run from the last tooth to now; at the instant of
a tooth, also where that tooth took the position past it (R346; DEDUCED, log 189). -/
def State.eventReached (s : State) (w e : Nat) : Bool :=
  let x := s.wheel w
  x.sync = .locked && s.eventArmed e && !(s.event e).spent && decide (s.eventPos e ≤ s.wheelPosition w)
  && (decide (64 * x.k ≤ s.eventPos e) || (decide (x.last = some s.now) && x.interval.isNone && decide (x.reach ≤ s.eventPos e)))

/-- The events of the wheel that the jump at an inference has passed, in ascending number (R349). -/
def State.passedEvents (s : State) (w : Nat) : State :=
  (List.range 64).foldl (fun s e => if s.eventReached w (64 * w + e) then s.inferredEvent w (64 * w + e) else s) s

/-- A tooth is inferred at instant `at_` (Table ANGLE-1, R349); the third in a row makes the wheel LOST (R345). -/
def State.inferTooth (s : State) (w k at_ : Nat) : State :=
  match (s.wheel w).interval with
  | some (2, _, _, _) => s.wheelLost w 1
  | i =>
    let i : Nat × Nat × Nat × Nat := match i with
      | some (n, a, b, f) => (n + 1, a, b, f)
      | none => (1, 0, 0, k)
    let s := s.onWheel w (fun x => { x with k := k, last := some at_, interval := some i })
    let s := if k = 0 then (s.rearm w).onWheel w (fun x => { x with fired := 0 }) else s
    s.passedEvents w

/-- TOOTH_INFERENCE (R349, R345, Tables ANGLE-1 and ANGLE-2). A wheel that leaves PROVISIONAL here searches from its next edge on. -/
def execToothInference (w : Fin 2) (t : Nat) (s : State) : Result :=
  runLive (fun s => let s := s.clock t
    let x := s.wheel w
    let n := s.wheelN w
    let m := s.wheelM w
    match x.last with
    | none => s
    | some l =>
      let gapDue := 10 * l + 16 * (m + 1) * x.tRef ≤ 10 * t
      let toothDue := 10 * l + 16 * x.tRef ≤ 10 * t
      if !s.wheelOn w then s
      else if x.sync = .provisional then
        (if (x.k + m + 1 < n ∧ toothDue) ∨ (n ≤ x.k + m + 1 ∧ gapDue) then
          s.wheelSearch w none else s)
      else if x.sync = .locked then
        (if x.k + m + 1 < n then (if toothDue then s.inferTooth w (x.k + 1) (l + x.tRef) else s)
         else if x.k + m + 1 = n then (if gapDue then s.inferTooth w 0 (l + (m + 1) * x.tRef) else s)
         else (if gapDue then s.wheelLost w 2 else s))
      else s) s

/-- ANGLE_EVENT_FIRE (R346, R349). -/
def execAngleEventFire (w : Fin 2) (e : Fin 64) (t : Nat) (s : State) : Result :=
  runLive (fun s => let s := s.clock t
    if s.eventReached w (64 * w.val + e.val) then
      (if (s.wheel w).interval.isSome then s.inferredEvent w (64 * w.val + e.val) else s.fireEvent w (64 * w.val + e.val))
    else s) s

/-- A commit arms an event (R347): position and width or amount; a width of 0 keeps the one in force (log 46). -/
def State.armEvent (s : State) (e position width : Nat) : State :=
  let s := s.setObj (eventIndex e) 1 (position % 0x4000)
  let s := if width = 0 then s else s.setObj (eventIndex e) 6 width
  s.onEvent e (fun x => { x with armedByCommit := true })

def State.disarmEvent (s : State) (e : Nat) : State := s.onEvent e (fun x => { x with armedByCommit := false })

/-- ANGLE_EVENT_ARM (R347). -/
def execAngleEventArm (e : Fin 128) (position width : U16) (s : State) : Result :=
  runLive (fun s => s.armEvent e position.toNat width.toNat) s

/-- ANGLE_EVENT_DISARM (R347): a commit that disarms carries position and width as well. -/
def execAngleEventDisarm (d : Disarm) (s : State) : Result :=
  runLive (fun s => (s.armEvent d.event d.position.toNat d.width.toNat).disarmEvent d.event) s

/-- ANG_OUT_PULSE_END (R346): after the event's width. -/
def execAngOutPulseEnd (e : PulseEnd 8) (s : State) : Result :=
  runLive (fun s => let s := s.clock e.t
    if vget s.angle.angEnd e.pin 0 ≤ e.t then
      { s with angle := { s.angle with angOut := s.angle.angOut &&& ~~~(BitVec.ofNat 8 (2 ^ e.pin.val)) } }
    else s) s

/-- At bell 0, and where the tier in force does not bind it, a bound event is disarmed (R346). -/
def State.disarmUnbound (s : State) (bell0 : Bool) : State :=
  (List.range 128).foldl (fun s e => if bell0 || (s.sinkOwner 5 e).isNone then s.disarmEvent e else s) s

/-! ## Limit inputs (R352 to R355) -/

def State.limit (s : State) (i : Nat) : Limit := vget s.angle.limits i {}

def State.onLimit (s : State) (i : Nat) (f : Limit → Limit) : State :=
  { s with angle := { s.angle with limits := vmod s.angle.limits i f } }

def State.limitCfg (s : State) (i : Nat) : Nat := s.obj (0x2A00 + i) 1

/-- A hard input (R353). -/
def State.limitHard (s : State) (i : Nat) : Bool := bitOf (s.limitCfg i) 2

/-- HALT_OUT is driven low (R355, R367, Table PINS-7). -/
def State.haltLow (s : State) : Bool :=
  s.angle.haltForced || (List.range 16).any (fun i => s.limitHard i && bitOf (s.limitCfg i) 3 && (s.limit i).tripped)

/-- State word of a limit input (R352). -/
def Limit.word (x : Limit) : Nat := (if x.level then 1 else 0) + (if x.tripped then 2 else 0) + (if x.chatter then 4 else 0)

/-- A trip (R353, R355); while tripped it changes nothing. -/
def State.trip (s : State) (i cause : Nat) : State :=
  if (s.limit i).tripped || !s.limitHard i then s
  else
    let s := s.onLimit i (fun x => { x with tripped := true, trips := satAdd 32 x.trips 1 })
    let s := s.raise 0x7020 (0x180 + i) (cause * 2 ^ 24 + (s.limit i).trips.toNat % 65536)
    if bitOf (s.limitCfg i) 4 then
      s.onCan 0 (fun x => { x with halt := (List.finRange 16).filter (fun j => x.halt.contains j || decide (j.val = i)) })
    else s

/-- A release of a trip is allowed (R354). -/
def State.releasable (s : State) (i : Nat) : Bool := !(s.limit i).level && !(s.limit i).chatter

def State.releaseTrip (s : State) (i : Nat) : State := s.onLimit i (fun x => { x with tripped := false })

/-! ## Homing (R357 to R360) -/

def State.axis (s : State) (a : Nat) : Homing := vget s.angle.homing a {}

def State.onAxis (s : State) (a : Nat) (f : Homing → Homing) : State :=
  { s with angle := { s.angle with homing := vmod s.angle.homing a f } }

/-- The axis is in a moving phase (Table ANGLE-5). -/
def Homing.moving (h : Homing) : Bool := 1 ≤ h.state && h.state ≤ 3

def State.axisNode (s : State) (a : Nat) : Nat := s.obj (0x2A20 + a) 1
def State.axisHome (s : State) (a : Nat) : Nat := s.obj (0x2A20 + a) 2
def State.axisLimits (s : State) (a : Nat) : Nat := s.obj (0x2A20 + a) 3

/-- The home input is a limit used as home (R360). -/
def State.limitAsHome (s : State) (a : Nat) : Bool := bitOf (s.obj (0x2A20 + a) 7) 0

/-- Velocity of the phase (Table ANGLE-5). -/
def State.velocity (s : State) (a : Nat) : Int :=
  let d : Int := if bitOf (s.obj (0x2A20 + a) 7) 1 then -1 else 1
  let v1 : Int := (s.objI 32 (0x2A20 + a) 4).natAbs
  let v2 : Int := (s.objI 32 (0x2A20 + a) 5).natAbs
  if (s.axis a).state = 1 then d * v1 else if (s.axis a).state = 2 then -d * v1 else if (s.axis a).state = 3 then d * v2 else 0

/-- A frame of the supervisor on FCAN0 (R357). -/
def State.homingFrame (s : State) (a control : Nat) (v : Int) : State :=
  s.queueFrame 0 { frame := classicFrame (0x300 + s.axisNode a) (toLE 2 control ++ toLE 4 (unsignedOf 32 v)), kind := .homing a }

/-- An abort (R359): one frame, then nothing. -/
def State.homingStop (s : State) (a code : Nat) : State :=
  (s.homingFrame a 0x010F 0).onAxis a (fun h => { h with state := code, edgeAt := none })

/-- An abort that is logged: phase and input in the detail (R359). -/
def State.homingAbort (s : State) (a code event input : Nat) : State :=
  (s.raise event (0x190 + a) ((s.axis a).state * 2 ^ 24 + input * 2 ^ 16)).homingStop a code

/-- The home edge ends seek or approach (Table ANGLE-5); the position follows from the next drive frame (R359; log 47). -/
def State.homeEdge (s : State) (a : Nat) : State :=
  if (s.axis a).state = 1 then s.onAxis a (fun h => { h with state := 2, edgeAt := some s.now, edgePos := none })
  else if (s.axis a).state = 3 then
    (s.homingFrame a 0x000F 0).onAxis a (fun h => { h with state := 4, edgeAt := some s.now })
  else s

/-- Back off ends (Table ANGLE-5): moved far enough from the seek edge, home input debounced inactive. -/
def State.backOffDone (s : State) (a : Nat) : Bool :=
  match (s.axis a).edgePos, (s.axis a).frame with
  | some p, some (_, q) => decide ((s.objI 32 (0x2A20 + a) 6).natAbs ≤ (q - p).natAbs) && !(s.limit (s.axisHome a)).level
  | _, _ => false

/-- The supervisor's own steps in back off: it clears the trip of a limit used as home once R354 allows (R360), and goes on to
approach when back off is done. -/
def State.backOff (s : State) (a : Nat) : State :=
  if (s.axis a).state ≠ 2 then s
  else
    let s := if s.limitAsHome a && s.releasable (s.axisHome a) then s.releaseTrip (s.axisHome a) else s
    if s.backOffDone a then s.onAxis a (fun h => { h with state := 3 }) else s

/-- What a limit event does to a moving axis, in the order of R359: `tripped` by this event, `chatter` newly set, `edge` seen to
active. A chattering home input aborts as chatter (R360). -/
def State.homingLimit (s : State) (i : Nat) (tripped chatter edge : Bool) (a : Nat) : State :=
  if !(s.axis a).moving then s
  else
    let home : Bool := s.axisHome a = i
    if tripped && bitOf (s.axisLimits a) i && !(home && (s.limitAsHome a || chatter)) then s.homingAbort a 5 0x7022 i
    else if chatter && home then s.homingAbort a 6 0x7023 i
    else if edge && home then s.homeEdge a
    else s.backOff a

/-- LIMIT_TRANSITION (R352, R353): the seen level changes. -/
def execLimitTransition (i : Fin 16) (high : Bool) (t : Nat) (s : State) : Result :=
  runLive (fun s => let s := s.clock t
    let cfg := s.limitCfg i
    let active := high != bitOf cfg 1
    if !bitOf cfg 0 || (s.limit i).seen == active then s
    else
      let w := s.obj (0x2A00 + i.val) 5 * 1000000
      let k := s.obj (0x2A00 + i.val) 4
      let recent := t :: (s.limit i).transitions.filter (fun u => t ≤ u + w)
      let s := s.onLimit i (fun x => { x with seen := active, seenAt := some t, transitions := recent })
      let before := (s.limit i).tripped
      let s := if active then s.trip i 1 else s
      let chatter := !(s.limit i).chatter && decide (k ≤ recent.length)
      let s := if chatter then
          ((s.onLimit i (fun x => { x with chatter := true })).raise 0x7021 (0x180 + i.val) k).trip i 2
        else s
      let tripped := !before && (s.limit i).tripped
      (List.range 8).foldl (State.homingLimit · i tripped chatter active) s) s

/-- LIMIT_DEBOUNCE_EXPIRY (R352). -/
def execLimitDebounceExpiry (i : Fin 16) (t : Nat) (s : State) : Result :=
  runLive (fun s => let s := s.clock t
    match (s.limit i).seenAt with
    | none => s
    | some u =>
      if u + s.obj (0x2A00 + i.val) 3 * 100000 ≤ t then
        (List.range 8).foldl State.backOff (s.onLimit i (fun x => { x with level := x.seen }))
      else s) s

/-- LIMIT_CHATTER_CLEAR (R352). -/
def execLimitChatterClear (i : Fin 16) (t : Nat) (s : State) : Result :=
  runLive (fun s => let s := s.clock t
    match (s.limit i).seenAt with
    | none => s
    | some u =>
      if (s.limit i).chatter ∧ u + s.obj (0x2A00 + i.val) 5 * 1000000 ≤ t then
        (List.range 8).foldl State.backOff (s.onLimit i (fun x => { x with chatter := false, transitions := [] }))
      else s) s

/-- A trip clear (R354). -/
def State.clearTrip (i : Nat) (s : State) : Except Nat State :=
  if s.releasable i then .ok (s.releaseTrip i) else .error abortState

/-- LIMIT_TRIP_CLEAR (R354). -/
def execLimitTripClear (p : Principal) (i : Fin 16) (s : State) : Result :=
  runLive (State.ownWrite p (0x2A00 + i.val) 7 1 1 (State.clearTrip i)) s

/-- A plan-bound TPDO of the tier in force uses the axis's identifier (R358). -/
def State.axisTaken (s : State) (a : Nat) : Bool :=
  (List.range 32).any (fun n => s.tpdoBound n && decide (s.obj (0x1800 + n) 1 % 2048 = 0x300 + s.axisNode a))

/-- A start is refused for the present state (R358). -/
def State.startRefused (s : State) (a : Nat) : Bool :=
  (s.axis a).moving || s.axisNode a = 0 || s.axisHome a = 0xFF || !bitOf (s.limitCfg (s.axisHome a)) 0
  || (List.range 16).any (fun i => bitOf (s.axisLimits a) i && ((s.limit i).tripped || (s.limit i).chatter))
  || s.field.nmt = .stopped

def State.homingBegin (a : Nat) (s : State) : Except Nat State :=
  if s.startRefused a then .error abortState
  else if s.axisTaken a then .error abortRule
  else .ok (s.onAxis a (fun h => { h with state := 1, since := s.now, frame := none, edgeAt := none, edgePos := none }))

/-- HOMING_START (R358). -/
def execHomingStart (p : Principal) (a : Fin 8) (t : Nat) (s : State) : Result :=
  runLive (fun s => State.ownWrite p (0x2A20 + a.val) 8 1 1 (State.homingBegin a) (s.clock t)) s

def State.homingCommand (a : Nat) (s : State) : Except Nat State :=
  .ok (if (s.axis a).moving then s.homingStop a 7 else s)

/-- HOMING_ABORT (R359). -/
def execHomingAbort (p : Principal) (a : Fin 8) (s : State) : Result :=
  runLive (State.ownWrite p (0x2A20 + a.val) 8 1 2 (State.homingCommand a)) s

/-- HOMING_VELOCITY_FRAME (R357). -/
def execHomingVelocityFrame (a : Fin 8) (s : State) : Result :=
  runLive (fun s => if (s.axis a).moving then s.homingFrame a 0x000F (s.velocity a) else s) s

/-- p1 + (p2 − p1) × (te − t1) / (t2 − t1), rounded to nearest (R359); halves go up (log 47). -/
def interpolate (t1 : Nat) (p1 : Int) (t2 : Nat) (p2 : Int) (te : Nat) : Int :=
  if t2 ≤ t1 then p2
  else p1 + (2 * (p2 - p1) * ((te : Int) - (t1 : Int)) + ((t2 : Int) - (t1 : Int))) / (2 * ((t2 : Int) - (t1 : Int)))

/-- A drive frame (R357, R359). -/
def State.driveFrame (s : State) (a : Nat) (status position : Nat) : State :=
  let pos := signedOf 32 position
  let h := s.axis a
  let t := s.now
  let s := s.onAxis a (fun h => { h with frame := some (t, pos) })
  let s := match h.edgeAt with
    | none => s
    | some te =>
      let p := match h.frame with
        | some (t1, p1) => interpolate t1 p1 t pos te
        | none => pos
      if h.state = 2 then s.onAxis a (fun h => { h with edgeAt := none, edgePos := some p })
      else if h.state = 4 then s.onAxis a (fun h => { h with edgeAt := none, latchedPos := p })
      else s
  if h.moving && bitOf status 3 then s.homingStop a 9 else s.backOff a

/-- HOMING_DRIVE_FRAME (R357). -/
def execHomingDriveFrame (a : Fin 8) (status : U16) (position : U32) (t : Nat) (s : State) : Result :=
  runLive (fun s => if s.axisNode a = 0 then s.clock t else (s.clock t).driveFrame a status.toNat position.toNat) s

/-- HOMING_DRIVE_TIMEOUT (R359). -/
def execHomingDriveTimeout (a : Fin 8) (t : Nat) (s : State) : Result :=
  runLive (fun s => let s := s.clock t
    let h := s.axis a
    let since := match h.frame with
      | some (u, _) => u
      | none => h.since
    if h.moving ∧ since + 20000000 ≤ t then s.homingStop a 8 else s) s

/-- A tier that binds the identifier of a moving axis aborts it with state 7 (R359). -/
def State.homingTier (s : State) : State :=
  (List.range 8).foldl (fun s a => if (s.axis a).moving && s.axisTaken a then s.homingStop a 7 else s) s

/-! ## Input record (R356, Table ANGLE-4) -/

/-- One bit per limit input. -/
def State.limitBits (s : State) (f : Limit → Bool) : Nat :=
  ((List.range 16).map (fun i => if f (s.limit i) then 2 ^ i else 0)).sum

/-- Value of 0x2900 + w:05 (Table ANGLE-2). -/
def Sync.code : Sync → Nat
  | .search => 0
  | .provisional => 1
  | .locked => 2
  | .lost => 3

def State.inputRecord (s : State) (b : Nat) : List Byte :=
  toLE 8 b ++ toLE 2 (s.limitBits Limit.level) ++ toLE 2 (s.limitBits Limit.tripped) ++ toLE 2 (s.limitBits Limit.chatter)
  ++ toLE 2 0
  ++ (List.range 2).flatMap (fun w => toLE 2 (s.wheelPosition w) ++ [BitVec.ofNat 8 (s.wheel w).sync.code, 0]
      ++ toLE 4 (s.wheel w).tRef)

end Sys2Proof.Machine
end

