-- ==== Sys2Proof/Machine/Safe.lean ====
section
/-!
DEFINITION. The device-wide safe state (12 R287; 14 R330; 11 R272; 15 R348).
-/
namespace Sys2Proof.Machine

/-- Every actuation sink goes to its safe state: mandible channels, TPDOs, camera triggers. A device already there stays. -/
def State.safeEntry (s : State) : State :=
  if s.plan.safe then s
  else
    let s := s.mandiblesSafe.tpdoSafe.camerasInactive
    { s with plan := { s.plan with safe := true } }

/-- Commits may act again; each sink leaves its safe state at its next clean commit (R29, R287, R331, R378). -/
def State.safeLeave (s : State) : State :=
  { s with plan := { s.plan with safe := false }, field := { s.field with tpdoMuted := false } }

/-- Gates open, HALT_OUT low, triggers inactive (step 1 of R367). -/
def State.openSinks (s : State) : State :=
  let s := s.mandiblesOpen.camerasInactive
  { s with plan := { s.plan with safe := true }, angle := { s.angle with haltForced := true } }

/-- Step 1 of R367: no further TPDO and no safe content. -/
def State.failSinks (s : State) : State :=
  let s := s.abortBound.openSinks
  { s with field := { s.field with tpdoMuted := true } }

/-- The sinks at a thermal trip (R388): as step 1 of R367 but for the TPDOs, for which the trip is a safe-state entry with its safe contents
(R287; DEDUCED, log 188). -/
def State.tripSinks (s : State) : State := (if s.plan.safe then s else s.tpdoSafe).openSinks

end Sys2Proof.Machine
end

