-- ==== Sys2Proof/Machine/Chrysalis.lean ====
section
/-!
DEFINITION. The chrysalis domain (18): supplies and store, interface lock, calendar and alarm, register window, backup bytes, wake
sources and the wake sequence (16 R361, R381).
-/
namespace Sys2Proof.Machine

def State.onIsland (s : State) (f : Island → Island) : State := { s with island := f s.island }

/-- A command of the island: without a supply nothing happens (R399). -/
def runIsland (f : State → State) (s : State) : Result := run (fun s => if s.island.supplied then f s else s) s

/-! ## Backup bytes (R413) -/

/-- Bytes written into 0x2B20 from offset `o`, through the interface or the record port. -/
def State.writeBackup (s : State) (o : Nat) (bs : List Byte) : State :=
  let v := s.obj 0x2B20 0
  let n := bs.length
  s.setObj 0x2B20 0 (v % 256 ^ o + leNat bs * 256 ^ o + v / 256 ^ (o + n) * 256 ^ (o + n))

/-- The shutdown record (Table POWER-4). -/
def State.shutdownRecord (s : State) (cause : Nat) : State :=
  s.writeBackup 0x30 ([BitVec.ofNat 8 cause, BitVec.ofNat 8 s.plan.effective, 0, 0] ++ toLE 4 s.power.vplat.toNat
    ++ toLE 8 s.bell.count.toNat)

/-! ## Calendar (R403 to R407) -/

/-- Fields of a packed value (Table CHRY-4). -/
def unpackCalendar (v : Nat) : Calendar :=
  { year := bitsOf v 48 9, month := bitsOf v 40 4, weekday := bitsOf v 37 3, day := bitsOf v 32 5, hours := bitsOf v 27 5,
    minutes := bitsOf v 21 6, seconds := bitsOf v 15 6, sub := bitsOf v 0 15 }

def Calendar.pack (c : Calendar) : Nat :=
  c.year * 2 ^ 48 + c.month * 2 ^ 40 + c.weekday * 2 ^ 37 + c.day * 2 ^ 32 + c.hours * 2 ^ 27 + c.minutes * 2 ^ 21
  + c.seconds * 2 ^ 15 + c.sub

/-- Leap year by the Gregorian rule (R405); `year` is the year minus 2000. -/
def leapYear (year : Nat) : Bool :=
  let y := 2000 + year
  y % 4 = 0 && (y % 100 ≠ 0 || y % 400 = 0)

/-- Length of the stored month (R405). -/
def monthLength (year month : Nat) : Nat :=
  if month = 2 then (if leapYear year then 29 else 28)
  else if month = 4 ∨ month = 6 ∨ month = 9 ∨ month = 11 then 30 else 31

/-- Mask of the invalid fields (R404). -/
def Calendar.invalid (c : Calendar) : Nat :=
  (if 59 < c.seconds then 1 else 0) + (if 59 < c.minutes then 2 else 0) + (if 23 < c.hours then 4 else 0)
  + (if c.day = 0 ∨ monthLength c.year c.month < c.day then 8 else 0) + (if c.month = 0 ∨ 12 < c.month then 16 else 0)

def carryYear (c : Calendar) : Calendar := { c with year := if c.year = 399 then 0 else c.year + 1 }

def carryMonth (c : Calendar) : Calendar :=
  if c.month < 12 then { c with month := c.month + 1 } else carryYear { c with month := 1 }

def carryDay (c : Calendar) : Calendar :=
  if c.day < monthLength c.year c.month then { c with day := c.day + 1 } else carryMonth { c with day := 1 }

def carryWeekday (c : Calendar) : Calendar := { c with weekday := (c.weekday + 1) % 7 }

def carryHours (c : Calendar) : Calendar :=
  if c.hours < 23 then { c with hours := c.hours + 1 } else carryDay (carryWeekday { c with hours := 0 })

def carryMinutes (c : Calendar) : Calendar :=
  if c.minutes < 59 then { c with minutes := c.minutes + 1 } else carryHours { c with minutes := 0 }

def carrySeconds (c : Calendar) : Calendar :=
  if c.seconds < 59 then { c with seconds := c.seconds + 1 } else carryMinutes { c with seconds := 0 }

/-- A sub-second carry (Table CHRY-5). -/
def carrySub (c : Calendar) : Calendar := carrySeconds { c with sub := 0 }

/-- The calendar at the present instant: the sub-second field counts 1/32,768 s from the last write or carry (R404). -/
def State.calendarNow (s : State) : Calendar :=
  let c := s.island.calendar
  { c with sub := min 32767 (c.sub + (s.now - s.island.subAt) * 32768 / 1000000000) }

/-- Days from 2000-01-01 to the first of January of year 2000 + `y`, by the Gregorian rule. -/
def daysToYear (y : Nat) : Nat := 365 * y + (y + 3) / 4 - (y + 99) / 100 + (y + 399) / 400

/-- Days of a year before month `m`, arithmetically from the lengths of the months stored before it. -/
def daysToMonth (y m : Nat) : Nat := ((List.range (m - 1)).map (fun k => monthLength y (k + 1))).sum

/-- Days since 2000-01-01 of the stored date, arithmetically (R293). -/
def Calendar.days (c : Calendar) : Int :=
  (daysToYear c.year : Int) + (daysToMonth c.year c.month : Int) + (c.day : Int) - 1

/-- Seconds of the day. -/
def Calendar.daySeconds (c : Calendar) : Nat := c.hours * 3600 + c.minutes * 60 + c.seconds

/-- Calendar seconds since 2000-01-01 (Table POWER-3). -/
def Calendar.totalSeconds (c : Calendar) : Nat := (c.days * 86400 + (c.daySeconds : Int)).toNat

/-- TIME_OF_DAY (R293): milliseconds after midnight in [27:0], then days since 1984-01-01 modulo 65,536. -/
def Calendar.timeOfDay (c : Calendar) : List Byte :=
  toLE 4 ((c.daySeconds * 1000 + c.sub * 1000 / 32768) % 2 ^ 28) ++ toLE 2 (((c.days + 5844) % 65536).toNat)

/-! ## Wake (R414 to R417, R361, R381) -/

/-- A series of attempts begins: source recorded, first attempt, VREG_EN0 asserted. -/
def State.startWake (s : State) (code : Nat) : State :=
  s.onIsland (fun i => { i with state := .waking, lastWake := code, wakeAt := some s.now, attempts := 1, waiting := false, rails := 1,
                                refEnabled := false, heldWake := none, railRetry := false })

/-- The code recorded when `code` fires while `c` is recorded already (R416): the lowest of one oscillator period of 30.5 µs (counted as
30,517 ns), else the first. -/
def State.recordWake (s : State) (c code : Nat) : Nat :=
  match s.island.wakeAt with
  | some t => if s.now ≤ t + 30517 then min c code else c
  | none => c

/-- A source fires (R416, R417): its pending bit, and what its state asks for. Source bits follow 0x2B00:04. -/
def State.wakeFire (s : State) (bit code : Nat) : State :=
  let s := s.onIsland (fun i => { i with pendingWakes := i.pendingWakes ||| BitVec.ofNat 7 (2 ^ bit) })
  match s.island.state with
  | .chrysalis => s.startWake code
  | .wakeFailed => s.startWake code
  | .poweringDown => (match s.island.heldWake with
      | some c => s.onIsland (fun i => { i with heldWake := some (s.recordWake c code) })
      | none => s.onIsland (fun i => { i with heldWake := some code, wakeAt := some s.now }))
  | .waking => s.onIsland (fun i => { i with lastWake := s.recordWake i.lastWake code })
  | .mainOn => s.raise 0xA004 0x1D3 (0x10000 + code)

/-- An enabled source (R415). -/
def State.wakeEnabled (s : State) (bit : Nat) : Bool := bitOf (s.obj 0x2B00 4) bit

/-- WAKE_SOURCE_FIRE (R416): WAKE_CAN and the WAKE_GPIO inputs; a wake of the transceiver after PNR is timed from PNR (R299). -/
def execWakeSourceFire (input : WakeInput) (t : Nat) (s : State) : Result :=
  runIsland (fun s => let s := s.clock t
    match input with
    | .gpio n => if s.wakeEnabled (3 + n.val) then s.wakeFire (3 + n.val) (4 + n.val) else s
    | .wakeCan =>
      if s.wakeEnabled 2 then
        let stamp := (if bitOf s.field.sleepMask.toNat 0 then 0 else 1, min ((t - s.field.pnrAt) / 1000) 0xFFFFFFFF)
        let s := if s.field.sleep = .pastPnr ∧ s.field.wakeAfterPnr.isNone then
            { s with field := { s.field with wakeAfterPnr := some stamp } }
          else s
        s.wakeFire 2 3
      else s) s

/-- The main domain goes down (R414): the island removes the rails, the drivers are off (Table PINS-7). -/
def State.powerDown (s : State) : State :=
  let s := s.mandiblesOpen.camerasInactive
  let s := s.onIsland (fun i => { i with state := .poweringDown, refEnabled := false, heldWake := none,
                                         faultN := i.faultN && s.boot.phase ≠ .recovery })
  { s with
    boot := { s.boot with phase := .off, released := false },
    radio := { s.radio with refusalsDown := s.radio.refusals } }

/-- POWER_DOWN_STEP (R361): the highest rail still enabled is removed, at power-down and after a failed attempt. -/
def execPowerDownStep (s : State) : Result :=
  runIsland (fun s =>
    if s.island.state = .poweringDown ∨ (s.island.state = .waking ∧ s.island.waiting) then
      s.onIsland (fun i => { i with rails := i.rails - 1 })
    else s) s

/-- POWER_DOWN_COMPLETE (R414, R416): CHRYSALIS, or WAKING for a source that was held. -/
def execPowerDownComplete (s : State) : Result :=
  runIsland (fun s =>
    if s.island.state = .poweringDown ∧ s.island.rails = 0 then
      let s := { s with radio := { s.radio with chrysalisBeacon := s.radio.chrysalisBeacon || s.island.heldWake.isNone } }
      match s.island.heldWake with
      | some c => (s.startWake c).onIsland (fun i => { i with wakeAt := s.island.wakeAt })
      | none => s.onIsland (fun i => { i with state := .chrysalis })
    else s) s

/-- RAIL_SEQUENCE_STEP (R361, R381): the next rail, then the reference. -/
def execRailSequenceStep (s : State) : Result :=
  runIsland (fun s =>
    if s.island.state = .waking ∧ ¬ s.island.waiting then
      (if s.island.rails < 6 then s.onIsland (fun i => { i with rails := i.rails + 1 })
       else s.onIsland (fun i => { i with refEnabled := true }))
    else s) s

/-- An attempt fails (R381); its rails are removed step by step. -/
def State.failAttempt (s : State) (code rail : Nat) : State :=
  s.onIsland (fun i => { i with waiting := true, refEnabled := false, failKind := code, failRail := rail })

/-- WAKE_PG_TIMEOUT (R381). -/
def execWakePgTimeout (s : State) : Result :=
  runIsland (fun s =>
    if s.island.state = .waking ∧ ¬ s.island.waiting ∧ ¬ s.island.refEnabled then
      s.failAttempt 0x8002 (s.island.rails - 1)
    else s) s

/-- WAKE_REFERENCE_TIMEOUT (R381). -/
def execWakeReferenceTimeout (s : State) : Result :=
  runIsland (fun s =>
    if s.island.state = .waking ∧ ¬ s.island.waiting ∧ s.island.refEnabled then s.failAttempt 0x8003 0xFF else s) s

/-- The third attempt has failed (R381, Table POWER-3). -/
def State.wakeFailed (s : State) : State :=
  let i := s.island
  let s := s.writeBackup 0x28 (toLE 2 i.failKind ++ [BitVec.ofNat 8 i.failRail, BitVec.ofNat 8 i.attempts]
    ++ toLE 4 s.calendarNow.totalSeconds)
  let s := s.onIsland (fun i => { i with state := .wakeFailed, waiting := false, rails := 0, failCode := i.failKind,
                                         faultN := true })
  { s with radio := { s.radio with faultBeacon := s.obj 0x2C00 7 = 1 } }

/-- WAKE_ATTEMPT_RETRY (R381). -/
def execWakeAttemptRetry (s : State) : Result :=
  runIsland (fun s =>
    if s.island.state = .waking ∧ s.island.waiting then
      (if s.island.attempts < 3 then
        s.onIsland (fun i => { i with attempts := i.attempts + 1, waiting := false, rails := 1, refEnabled := false })
       else s.wakeFailed)
    else s) s

/-- RAIL_FAILURE_RETRY (R367, source 0xFE). -/
def execRailFailureRetry (s : State) : Result :=
  runIsland (fun s =>
    if s.island.railRetry ∧ s.island.state = .chrysalis then
      s.startWake 0xFE
    else s) s

/-- Tiles off, those of `out` out of service (Table TILE-6). -/
def resetTiles (out : Nat → Bool) : Vector TileState 256 :=
  Vector.ofFn (fun k : Fin 256 => if out k.val then { mode := .outOfService } else {})

/-- Tiles that the repair map takes out of service, and those that are out already: only a cold reset returns one (R76; log 168). -/
def State.staysOut (s : State) (k : Nat) : Bool :=
  s.board.repair.getLsbD k || (vget s.tiles k {}).mode = .outOfService

/-- Keys of the objects that the island holds (R311): those of Table OD-10. -/
def islandKey (x : Nat × Nat) : Bool := odKey 0x2B00 0 ≤ x.1 && x.1 < odKey 0x2D00 0

/-- Every object the island does not hold takes its default, the log starts empty, the main domain's state is new (R311, R313,
Table BOOT-6). What other rules keep until a cold reset stays: tiles out of service (R76), the straps as read (R236), the bus-off counts
(R279); log 168. -/
def State.mainReset (s : State) : State :=
  { pending := s.pending, out := s.out, events := s.events, now := s.now, fresh := s.fresh, board := s.board,
    od := { written := s.od.written.filter islandKey, inForce := s.od.inForce.filter islandKey },
    tiles := resetTiles s.staysOut,
    boot := { straps := s.boot.straps },
    field := { wakeAfterPnr := s.field.wakeAfterPnr, can := s.field.can.map (fun c => { busOffs := c.busOffs }) },
    island := s.island, radio := s.radio, log := { sinceReset := s.log.sinceReset } }

/-- REFERENCE_VALID (R414, R433): MAIN_ON; the main domain comes out of reset 1 ms later at the boot ROM. -/
def execReferenceValid (s : State) : Result :=
  runIsland (fun s =>
    if s.island.state = .waking ∧ ¬ s.island.waiting ∧ s.island.refEnabled ∧ s.island.rails = 6 then
      let s := (s.onIsland (fun i => { i with state := .mainOn, faultN := false })).mainReset
      { s with boot := { s.boot with released := true, phase := .rom } }
    else s) s

/-- COLD_RESET (R414, R8, Table BOOT-6): everything takes its default; fuses and board stay, the repair map is applied, and the
protector keeps its latches (R397). With VDD_AUX present the island enters WAKING with source 0, else it stays in CHRYSALIS
(log 48). -/
def State.coldReset (s : State) (vddAux : Bool) : State :=
  { State.reset with
    pending := s.pending, out := s.out, now := s.now, fresh := s.fresh, board := s.board,
    tiles := resetTiles s.board.repair.getLsbD,
    island := { State.reset.island with
      state := if vddAux then .waking else .chrysalis, attempts := if vddAux then 1 else 0,
      rails := if vddAux then 1 else 0, subAt := s.now, cutOff := s.island.cutOff, ocOpen := s.island.ocOpen,
      cutoffLatch := s.island.cutoffLatch, overcurrent := s.island.overcurrent } }

/-! ## Supplies and store (R396 to R400) -/

/-- The store switch is closed (R397). -/
def Island.storeClosed (i : Island) : Bool := !i.cutOff && !i.ocOpen

/-- Without VDD_AUX and with the store switch open the island loses its supply, and the main domain with it (R399). -/
def State.supplyCheck (s : State) : State :=
  if s.island.onAux || s.island.storeClosed then s
  else { s.onIsland (fun i => { i with supplied := false }) with boot := { s.boot with phase := .off, released := false } }

/-- SUPPLY_SWITCH (R396); a voltage beyond Table PINS-9 is outside every rule (R453). -/
def execSupplySwitch (vddAuxMv vstoreMv : Nat) (s : State) : Result :=
  if 3800 < vddAuxMv ∨ 4500 < vstoreMv then .fault .absoluteMaximum
  else runIsland (fun s =>
    let aux := if s.island.onAux then ! (vddAuxMv + 50 < vstoreMv ∨ vddAuxMv < 2800 : Bool)
      else decide (vstoreMv + 50 < vddAuxMv ∧ 2900 < vddAuxMv)
    (s.onIsland (fun i => { i with onAux := aux, storeMv := vstoreMv })).supplyCheck) s

/-- STORE_CUTOFF (R397, R398). -/
def execStoreCutoff (s : State) : Result :=
  runIsland (fun s => (s.onIsland (fun i => { i with cutOff := true, cutoffLatch := true, teg := false })).supplyCheck) s

/-- STORE_RELEASE (R397): the switch closes; the low warning clears at the same voltage. -/
def execStoreRelease (s : State) : Result :=
  run (fun s => s.onIsland (fun i => { i with cutOff := false, lowWarning := false })) s

/-- STORE_LOW_WARNING (R399): logged at once while the main domain is up, otherwise at the next boot. -/
def execStoreLowWarning (s : State) : Result :=
  runIsland (fun s =>
    let s := s.onIsland (fun i => { i with lowWarning := true, lowWarningLog := i.lowWarningLog || !s.live })
    s.raise 0xA003 0x1D1 1) s

/-- STORE_OVERCURRENT (R397). -/
def execStoreOvercurrent (s : State) : Result :=
  runIsland (fun s => (s.onIsland (fun i => { i with ocOpen := true, overcurrent := true })).supplyCheck) s

/-- STORE_SWITCH_RECLOSE (R397). -/
def execStoreSwitchReclose (s : State) : Result := run (fun s => s.onIsland (fun i => { i with ocOpen := false })) s

/-- PV_MPPT_SAMPLE (R400); beyond Table PINS-9 no rule holds (R453). -/
def execPvMpptSample (vocMv harvestedUw : Nat) (s : State) : Result :=
  if 5500 < vocMv then .fault .absoluteMaximum
  else runIsland (fun s => s.onIsland (fun i => { i with
    pvMv := vocMv, pvOk := decide (350 ≤ vocMv ∧ vocMv ≤ 5000), pvPoint := if vocMv < 350 then 0 else vocMv * 76 / 100,
    harvested := harvestedUw })) s

/-- TEG_BOOSTER_THRESHOLD (R400); beyond Table PINS-9 no rule holds (R453). -/
def execTegBoosterThreshold (mv : Nat) (s : State) : Result :=
  if 1000 < mv then .fault .absoluteMaximum
  else runIsland (fun s => s.onIsland (fun i => { i with
    tegMv := mv,
    teg := i.storeClosed && (decide (20 ≤ mv) || (i.teg && decide (15 ≤ mv))) })) s

/-- VCHG_PRESENCE_CHANGE (R398). -/
def execVchgPresenceChange (present : Bool) (s : State) : Result :=
  runIsland (fun s => s.onIsland (fun i => { i with vchg := present })) s

/-- CHARGE_TARGET_REACHED (R397). -/
def execChargeTargetReached (s : State) : Result := runIsland (fun s => s.onIsland (fun i => { i with atTarget := true })) s

/-- CHARGE_RESUME (R397). -/
def execChargeResume (s : State) : Result := runIsland (fun s => s.onIsland (fun i => { i with atTarget := false })) s

/-- CHARGE_TEMPERATURE_WINDOW (R397, Table CHRY-2). -/
def execChargeTemperatureWindow (ntcTenths : Option Int) (s : State) : Result :=
  runIsland (fun s => s.onIsland (fun i => match ntcTenths with
    | none => { i with ntcBad := true }
    | some t => { i with ntcBad := false, storeTemp := t, tempOut := decide (t < 0 ∨ 450 < t) })) s

/-- Charging is allowed: below the target and inside the temperature window (R397, R400). -/
def Island.mayCharge (i : Island) : Bool := !i.atTarget && !i.tempOut && !i.ntcBad

/-- VCHG charges: present with VDD_AUX, and enabled (R398). -/
def State.chargesVchg (s : State) : Bool :=
  s.island.vchg && s.island.onAux && s.obj 0x2B30 8 = 1 && s.island.mayCharge

/-- The harvesters pause while VCHG charges and stop after a cutoff (R398, R400). -/
def State.chargesPv (s : State) : Bool := s.island.pvOk && !s.island.cutOff && !s.chargesVchg && s.island.mayCharge
def State.chargesTeg (s : State) : Bool :=
  s.island.teg && s.island.storeClosed && !s.chargesVchg && s.island.mayCharge

/-- The store status word (Table CHRY-2). -/
def State.storeStatus (s : State) : Nat :=
  let i := s.island
  (if s.chargesVchg then 1 else 0) + (if s.chargesPv then 2 else 0) + (if s.chargesTeg then 4 else 0)
  + (if i.atTarget then 8 else 0) + (if i.tempOut then 16 else 0) + (if i.lowWarning then 32 else 0)
  + (if i.cutoffLatch then 64 else 0) + (if i.overcurrent then 128 else 0) + (if i.ntcBad then 256 else 0)

/-- A read command answered: its value, or Unsupported Request to a function and the abort code to a session (R258, R314). -/
def State.answerRead (s : State) (p : Principal) (idx sub : Nat) (value : State → Nat) (after : State → State) : State :=
  let s := s.spendLatch p
  match s.checkRead p idx sub with
  | .error e => (match p with
      | .usdo _ => s.emit (.odReply p (BitVec.ofNat 32 e))
      | _ => s.emit (.unsupported p))
  | .ok _ => (after s).emit (.odData p (value s))

/-- STORE_STATUS_READ (Table CHRY-2): the read clears [7]. -/
def execStoreStatusRead (p : Principal) (s : State) : Result :=
  runLive (fun s => s.answerRead p 0x2B30 7 State.storeStatus
    (fun s => s.onIsland (fun i => { i with overcurrent := false }))) s

/-! ## Interface lock and status (R402, Table CHRY-8) -/

/-- CHR_INTERFACE_LOCKED (R402): below 3.05 V while the main domain is up. -/
def execChrInterfaceLocked (vddAuxMv : Nat) (s : State) : Result :=
  runIsland (fun s =>
    if vddAuxMv < 3050 ∧ s.island.state = .mainOn ∧ ¬ s.island.locked then
      (s.onIsland (fun i => { i with locked := true })).raise 0xA002 0x1D2 0
    else s) s

def IslandState.code : IslandState → Nat
  | .mainOn => 0
  | .poweringDown => 1
  | .chrysalis => 2
  | .waking => 3
  | .wakeFailed => 4

/-- The chrysalis status word (Table CHRY-8). -/
def State.chrysalisStatus (s : State) : Nat :=
  let i := s.island
  i.state.code * 2 ^ 28 + i.attempts * 2 ^ 16 + (if i.crystalFault then 2 ^ 15 else 0) + (if i.faultN then 2 ^ 14 else 0)
  + (if i.locked then 2 ^ 13 else 0) + (if i.alarmFired then 2 ^ 12 else 0) + (if i.invalidDate then 2 ^ 11 else 0)
  + (if i.lowWarning then 2 ^ 10 else 0) + i.pendingWakes.toNat

/-- CHRYSALIS_STATUS_READ (R402, Table CHRY-8). -/
def execChrysalisStatusRead (p : Principal) (auxGood10ms : Bool) (s : State) : Result :=
  runLive (fun s => s.answerRead p 0x2B00 1 State.chrysalisStatus
    (fun s => s.onIsland (fun i => { i with alarmFired := false, invalidDate := false,
                                            locked := i.locked && !auxGood10ms }))) s

/-- A write of the calendar (R404): stored as written, flagged where invalid. -/
def State.writeCalendar (value : Nat) (s : State) : Except Nat State :=
  if 399 < bitsOf value 48 9 ∨ bitsOf value 57 7 ≠ 0 ∨ bitsOf value 44 4 ≠ 0 then .error abortRange
  else
    let c := unpackCalendar value
    let s := s.onIsland (fun i => { i with calendar := c, subAt := s.now })
    if c.invalid = 0 then .ok s
    else .ok ((s.onIsland (fun i => { i with invalidDate := true })).raise 0xA001 0x1D0 c.invalid)

/-- CALENDAR_WRITE (R404). -/
def execCalendarWrite (p : Principal) (value : U64) (s : State) : Result :=
  runLive (State.ownWrite p 0x2B10 0 8 value.toNat (State.writeCalendar value.toNat)) s

/-- The compared fields equal the alarm (R412). -/
def alarmMatch (c : Calendar) (v : Nat) : Bool :=
  let a := unpackCalendar v
  (bitOf v 57 || c.seconds = a.seconds) && (bitOf v 58 || c.minutes = a.minutes) && (bitOf v 59 || c.hours = a.hours)
  && (bitOf v 60 || c.weekday = a.weekday) && (bitOf v 61 || c.day = a.day) && (bitOf v 62 || c.month = a.month)
  && (bitOf v 63 || c.year = a.year)

/-- The alarm fires (R412): status bit [12], and wake source 1 where it is enabled. -/
def State.fireAlarm (s : State) : State :=
  let s := s.onIsland (fun i => { i with alarmFired := true })
  if s.wakeEnabled 0 then s.wakeFire 0 1 else s

/-- CALENDAR_CARRY (R405, R412). DESIGN CHOICE (log 193): the alarm fires at each carry after which every compared field is equal. -/
def execCalendarCarry (s : State) : Result :=
  runIsland (fun s =>
    let c := s.island.calendar
    let s := s.onIsland (fun i => { i with
      calendar := carrySub c, subAt := i.subAt + cdiv ((32768 - c.sub) * 1000000000) 32768 })
    let s := { s with bell := { s.bell with timeSeconds := s.bell.timeSeconds + 1 } }
    if s.obj 0x2B11 3 = 1 ∧ alarmMatch (carrySub c) (s.obj 0x2B11 1) then s.fireAlarm else s) s

/-- CRYSTAL_FAULT (R407). -/
def execCrystalFault (s : State) : Result :=
  runIsland (fun s => s.onIsland (fun i => { i with crystalFault := true, crystalFaultLog := true })) s

/-- CRYSTAL_RECOVERED (R407). -/
def execCrystalRecovered (s : State) : Result := runIsland (fun s => s.onIsland (fun i => { i with crystalFault := false })) s

/-! ## Register window (R409 to R411) -/

/-- Byte of the register window at address `a` (Table CHRY-7): of the shadow where one is latched, else of the calendar `live`. -/
def State.windowByte (s : State) (live : Calendar) (a : Nat) : Nat :=
  let c := s.island.shadow.getD live
  if a = 0 then c.sub % 256 else if a = 1 then c.sub / 256 else if a = 2 then c.seconds else if a = 3 then c.minutes
  else if a = 4 then c.hours else if a = 5 then c.weekday else if a = 6 then c.day else if a = 7 then c.month
  else if a = 8 then c.year % 256 else if a = 9 then c.year / 256 % 2 + (if s.island.expired then 128 else 0)
  else if 0x10 ≤ a ∧ a ≤ 0x13 then octet s.chrysalisStatus (a - 0x10)
  else if 0x14 ≤ a ∧ a ≤ 0x15 then octet s.island.storeMv (a - 0x14)
  else if 0x20 ≤ a ∧ a ≤ 0x5F then octet (s.obj 0x2B20 0) (a - 0x20)
  else 0

/-- One byte of a window read (R409, R410): no status bit clears; the read of 0x09 releases the shadow. -/
def State.windowStep (live : Calendar) (s : State) (a : Nat) : State :=
  let s' := s.emit (.windowByte (s.windowByte live a))
  if a = 9 then s'.onIsland (fun i => { i with shadow := none, expired := false }) else s'

/-- `n` bytes read from address `first` on; the address increments by itself (R409). -/
def State.windowBytes (live : Calendar) (first n : Nat) (s : State) : State :=
  (List.range' first n).foldl (State.windowStep live) s

/-- WINDOW_FREEZE_LATCH (R410, R411): a read of address 0x00 and of the bytes after it. In FREEZE mode it latches every field; in TWICE
mode the window has no shadow. -/
def execWindowFreezeLatch (read : WindowRead) (s : State) : Result :=
  runIsland (fun s =>
    let live := { s.island.calendar with sub := read.subsec.toNat }
    (if s.obj 0x2B12 0 = 0 then s.onIsland (fun i => { i with shadow := some live, expired := false }) else s).windowBytes live 0
      (read.more.toNat + 1)) s

/-- WINDOW_FREEZE_RELEASE (R410): a read of address 0x09. -/
def execWindowFreezeRelease (s : State) : Result := runIsland (fun s => s.windowBytes s.calendarNow 9 1) s

/-- WINDOW_SHADOW_EXPIRY (R410). -/
def execWindowShadowExpiry (s : State) : Result :=
  runIsland (fun s => if s.island.shadow.isSome then s.onIsland (fun i => { i with shadow := none, expired := true }) else s) s

end Sys2Proof.Machine
end

