-- ==== Sys2Proof/Machine/Demand.lean ====
section
/-!
DEFINITION. Present tiers and governor demands (02 R58 to R62, Table PLAN-10): what each governor of this device asks for, and what a
demand resolves to.
-/
namespace Sys2Proof.Machine

/-- STOP, as 0x2210:03 and TIER_SWITCH show it (R58). -/
def tierStop : Nat := 15

/-- Entry of tier `k`, when it is present. -/
def Plan.tier? (p : Plan) (k : Nat) : Option Tier := (p.tiers[k]?).getD none

/-- Present tiers, richest first. -/
def Plan.present (p : Plan) : List Nat := (List.range 8).filter (fun k => (p.tier? k).isSome)

/-- The present tier that a tier number resolves to; with no poorer one, STOP (R58). -/
def Plan.resolve (p : Plan) (v : Nat) : Nat := (p.present.find? (fun k => decide (v ≤ k))).getD tierStop

/-- The richest present tier for which `f` holds. -/
def Plan.richest (p : Plan) (f : Tier → Bool) : Option Nat :=
  p.present.find? (fun k => match p.tier? k with
    | some t => f t
    | none => false)

/-- The next present tier richer than `e` (R64). -/
def Plan.richer? (p : Plan) (e : Nat) : Option Nat := (p.present.filter (fun k => decide (k < e))).getLast?

/-- The next present tier poorer than `e`, or 7 (R392). -/
def Plan.poorer (p : Plan) (e : Nat) : Nat := (p.present.find? (fun k => decide (e < k))).getD 7

/-- The member ID this device answers to: 0 unless it is a member (R38, R237). -/
def State.ownId (s : State) : Nat := if s.role = .member then s.drove.memberId else 0

def State.tile (s : State) (k : Nat) : TileState := vget s.tiles k {}

def State.onTile (s : State) (k : Nat) (f : TileState → TileState) : State := { s with tiles := vmod s.tiles k f }

def State.port (s : State) (p : Nat) : Port := vget s.drove.ports p {}

def State.onPort (s : State) (p : Nat) (f : Port → Port) : State :=
  { s with drove := { s.drove with ports := vmod s.drove.ports p f } }

/-- A tile that no tier may use: quarantined, under readmission, or out of service (R60, R82). -/
def TileMode.unusable : TileMode → Bool
  | .quarantined => true
  | .testing => true
  | .outOfService => true
  | _ => false

/-- Member `m` is marked lost, or was absent at formation (R51, R60). Only the bellwether knows. -/
def State.memberOut (s : State) (p : Plan) (m : Nat) : Bool :=
  s.role = .bellwether && bitOf p.header.setMask m && m ≠ 0
  && (s.drove.lost.getLsbD m || !s.drove.present.getLsbD m)

/-- The masks of a tier exclude every lost or unusable resource (R60). -/
def State.excludesLost (s : State) (p : Plan) (t : Tier) : Bool :=
  (List.range 256).all (fun k => !((s.tile k).mode.unusable && bitOf t.entry.tileMask k))
  && (List.range 8).all (fun k => (s.port k).mode = .eligible || !bitOf t.entry.droveMask k)
  && (List.range 128).all (fun m => !(s.memberOut p m && bitOf t.entry.memberMask m))

/-- Fault governor (R60). -/
def State.faultDemand (s : State) : Nat :=
  match s.plan.plan with
  | none => 0
  | some p => (p.richest (s.excludesLost p)).getD 7

/-- Power governor (R61). -/
def State.powerDemand (s : State) : Nat :=
  match s.plan.plan with
  | none => 0
  | some p => (p.richest (fun t => decide (t.entry.peakMw ≤ s.obj 0x2210 6))).getD 7

/-- Supply governor (R374, R366). -/
def State.supplyDemand (s : State) : Nat :=
  if s.plan.raiseDemand then 7
  else if s.power.stage = 0 then 0
  else if s.power.stage ≤ 4 then s.obj 0x2404 s.power.stage
  else 7

/-- No-flow demand while its condition stands (R394). -/
def State.noFlowDemand (s : State) : Nat :=
  if s.thermal.noFlow then
    match s.plan.plan with
    | none => 7
    | some p => (p.richest (fun t => t.entry.noFlow)).getD 7
  else 0

/-- Thermal governor (R392). -/
def State.thermalDemand (s : State) : Nat := max s.thermal.forecast (max s.thermal.measured s.noFlowDemand)

/-- The five demands of this device in the order of their causes, causes 1 to 5 of R54. -/
def State.demands (s : State) : List Nat :=
  [s.supplyDemand, s.powerDemand, s.thermalDemand, s.faultDemand, s.plan.overrunDemand]

/-- Value of 0x2210:04 (Table PLAN-10). -/
def packDemands (ds : List Nat) : Nat := ds.foldr (fun d acc => d % 16 + 16 * acc) 0

/-- Nibbles of a demand word, as many as there are governors. -/
def unpackDemands (w : Nat) : List Nat := (List.range 5).map (fun k => bitsOf w (4 * k) 4)

/-- Per-nibble maximum (R241). -/
def maxDemands (a b : List Nat) : List Nat := List.zipWith max a b

/-- The demands of this device joined with the words it holds from the domain (R59, R241). -/
def State.joinedDemands (s : State) : List Nat :=
  s.plan.received.foldl (fun ds r => maxDemands ds (unpackDemands r.2.2.1.toNat)) s.demands

/-- The demands posted before this bell are the ones that count at it (R55; a budget or a shed map written before the bell has taken
effect, log 151). -/
def State.countDemands (s : State) : State := { s with plan := { s.plan with counted := s.joinedDemands } }

/-- The raw target and its cause: the maximum of REQ_TIER and every demand that counts, and the lowest cause among those that resolve to
the target (R55, R58, R54; DEDUCED, log 145). -/
def State.rawTarget (s : State) (p : Plan) : Nat × Nat :=
  let all := s.obj 0x2210 1 :: s.plan.counted
  let m := all.foldl max 0
  (m, (all.findIdx (fun d => p.resolve d = p.resolve m)))

end Sys2Proof.Machine
end

