-- ==== Sys2Proof/Machine/Links.lean ====
section
/-!
DEFINITION. Drove ports as the rest of the device sees them (10): the demand word a member sends, link reports, a port going down,
peer reset, lost members.
-/
namespace Sys2Proof.Machine

/-- Value of 0x2700 + p:01 (Table DROVE-8). -/
def PortMode.code : PortMode → Nat
  | .disabled => 0
  | .down => 1
  | .training => 2
  | .probation => 3
  | .eligible => 4

/-- A 5-valued port state as link reports carry it. -/
def PortMode.fin (m : PortMode) : Fin 5 := Fin.ofNat 5 m.code

/-- Member at the far end of a port, as its peer word names it (0x2700 + p:02, [15:8]). -/
def Port.peerMember (x : Port) : Nat := x.peer.toNat / 256

/-! ## Control blocks (R226) -/

/-- Port, and priority of Table DROVE-3, of an output that is a control block. -/
def Output.block : Output → Option (PortNo × Nat)
  | .marker p _ => some (p, 1)
  | .demand p _ => some (p, 2)
  | .linkReport p _ => some (p, 3)
  | .retryRequest p _ => some (p, 4)
  | .probe p _ => some (p, 5)
  | _ => none

/-- `o` leaves before `q`: both wait for the control positions of one port, and `o` has the higher priority. -/
def Output.ahead (o q : Output) : Bool :=
  match o.block, q.block with
  | some (p, a), some (r, b) => p = r && decide (a < b)
  | _, _ => false

/-- A demand block that waits on the port of `o`, which a newer one replaces (R241). -/
def Output.replaced (o q : Output) : Bool :=
  match o, q with
  | .demand p _, .demand r _ => p = r
  | _, _ => false

/-- The outputs with one more block, ahead of those of lower priority on its port. -/
def placeBlock (o : Output) : List Output → List Output
  | [] => [o]
  | q :: qs => if o.ahead q then o :: q :: qs else q :: placeBlock o qs

/-- A control block becomes ready. The blocks that one command makes ready leave each port in the order of their priority, and the
newest demand block stands for those that still wait (R226, R241; the instants of the control positions are timing, log 152). -/
def State.emitBlock (s : State) (o : Output) : State :=
  { s with out := placeBlock o (s.out.filter (fun q => !o.replaced q)) }

/-! ## Demand words (R241) -/

/-- The port on which a member talks towards the bellwether (R241, R229). -/
def State.uplink (s : State) : Option PortNo :=
  match s.bell.markerPort with
  | some p => some p
  | none => s.bell.primary

/-- The member's word goes out. -/
def State.sendDemand (s : State) : State :=
  if s.role = .member then
    let w := BitVec.ofNat 32 (packDemands s.joinedDemands)
    let s := { s with plan := { s.plan with sentWord := w } }
    match s.uplink with
    | some p => if (s.port p).mode = .eligible then s.emitBlock (.demand p w) else s
    | none => s
  else s

/-- A demand posted now still counts at the next bell: on a member that runs, up to bell+(P − 2 µs) (R55). A later one goes out with the
block of that bell. -/
def State.inTime (s : State) : Bool := !s.running || decide (s.sinceBell ≤ (s.periodNs : Int) - 2000)

/-- At once, whenever its word changes (R241), from the verification of the plan on (R51, R52). -/
def State.refreshDemand (s : State) : State :=
  if s.role = .member ∧ s.plan.plan.isSome ∧ s.inTime ∧ BitVec.ofNat 32 (packDemands s.joinedDemands) ≠ s.plan.sentWord
  then s.sendDemand else s

/-! ## Link reports and lost members (R244 to R247) -/

/-- The report of a port's new state, with the cause it changed for (R244). -/
def State.reportOf (s : State) (p : PortNo) (cause : Nat) : LinkReport :=
  { member := Fin.ofNat 128 s.ownId, port := p, state := (s.port p).mode.fin, peer := BitVec.ofNat 8 (s.port p).peerMember,
    cause := BitVec.ofNat 8 cause,
    planIdLow := match (s.port p).peerPlan with
      | some x => x.2.setWidth 32
      | none => 0 }

/-- The port on which a report goes on towards the bellwether: the uplink, else the primary port, else the first other one, among those
that carry link reports (Table DROVE-8); never back on the port it came from (log 146). -/
def State.reportUp (s : State) (source : Option PortNo) : Option PortNo :=
  (s.uplink.toList ++ s.bell.primary.toList ++ List.finRange 8).find? (fun q =>
    decide (some q ≠ source) && ((s.port q).mode = .eligible || (s.port q).mode = .probation))

/-- A report goes on towards the bellwether, where a port carries it. -/
def State.passReport (s : State) (source : Option PortNo) (r : LinkReport) : State :=
  match s.reportUp source with
  | some u => s.emitBlock (.linkReport u r)
  | none => s

/-- A report of peer reset: the neighbour's own end of this link is down for cause 2 (R244, R245; log 153). -/
def State.tellsPeerReset (s : State) (p : PortNo) (r : LinkReport) : Bool :=
  r.cause = 2 && r.state.val = 1 && decide (r.port.val = (s.port p).peer.toNat % 256)
  && (decide (r.member.val = (s.port p).peerMember) || decide (128 ≤ (s.port p).peerMember))

/-- Every link of member `m` recorded at formation is down (R247). -/
def State.cutOff (s : State) (m : Nat) : Bool :=
  let mine := s.drove.links.filter (fun l => l.1.1 = m || l.2.1 = m)
  !mine.isEmpty && mine.all (fun l => s.drove.linkDown.contains l.1 || s.drove.linkDown.contains l.2)

/-- Member `m` is marked lost when it is cut off (R247). -/
def State.checkLost (s : State) (m : Nat) : State :=
  if m ≠ 0 ∧ s.cutOff m ∧ ¬ s.drove.lost.getLsbD m then
    ({ s with drove := { s.drove with lost := s.drove.lost ||| BitVec.ofNat 128 (2 ^ m) } }).raise 0x4004 m 1
  else s

/-- Shortest paths from the bellwether, breadth first: each member reached with the link ends on its path, from the bellwether on (R243). -/
def spread (links : List ((Nat × Nat) × (Nat × Nat))) : (fuel : Nat) → List (Nat × List (Nat × Nat)) → List (Nat × List (Nat × Nat))
  | 0, reach => reach
  | fuel + 1, reach =>
    let more := links.foldl (fun acc l =>
      let go (acc : List (Nat × List (Nat × Nat))) (a b : Nat × Nat) : List (Nat × List (Nat × Nat)) :=
        match reach.find? (fun r => r.1 = a.1) with
        | some r => if acc.any (fun q => q.1 = b.1) then acc else acc ++ [(b.1, r.2 ++ [a, b])]
        | none => acc
      go (go acc l.1 l.2) l.2 l.1) reach
    spread links fuel more

/-- The link ends, nearest first, on the path from the bellwether to member `m` over the links recorded at formation and not down (R243);
of the paths of one length, the one with the lowest first port. -/
def State.pathTo (s : State) (m : Nat) : Option (List (Nat × Nat)) :=
  let up := s.drove.links.filter (fun l => !s.drove.linkDown.contains l.1 && !s.drove.linkDown.contains l.2)
  let mine (p : Nat) : Option (Nat × List (Nat × Nat)) := up.findSome? (fun l =>
    if l.1 = (0, p) then some (l.2.1, [l.1, l.2]) else if l.2 = (0, p) then some (l.1.1, [l.2, l.1]) else none)
  let far := up.filter (fun l => l.1.1 ≠ 0 && l.2.1 ≠ 0)
  ((spread far 8 ((List.range 8).filterMap mine)).find? (fun r => r.1 = m)).map (fun r => r.2)

/-- First port on the path to member `m`. -/
def State.routePort (s : State) (m : Nat) : Option Nat := (s.pathTo m).bind (fun e => (e.head?).map (fun x => x.2))

/-- Ports taken on the path to member `m`, the bellwether's first: the near end of each link. -/
def State.route (s : State) (m : Nat) : List PortNo :=
  let ends := (s.pathTo m).getD []
  (List.range (ends.length / 2)).map (fun k => Fin.ofNat 8 (ends.getD (2 * k) (0, 0)).2)

/-- Gateway requests pending across a link end finish with status 4 (R246). -/
def State.gatewayLost (s : State) (m p : Nat) : State :=
  { s with host := { s.host with copies := s.host.copies.map (fun c =>
      if c.gateway.status = 1 ∧ ((s.pathTo c.gateway.target).getD []).contains (m, p) then
        { c with gateway := { c.gateway with status := 4 } }
      else c) } }

/-- The bellwether learns the state of a link end: requests pending across one that is down end (R246), and a member with no link left is
lost (R247). -/
def State.noteLink (s : State) (m p : Nat) (down : Bool) : State :=
  if s.role ≠ .bellwether then s
  else
    let s := if down then s.gatewayLost m p else s
    let rest := s.drove.linkDown.filter (fun e => e ≠ (m, p))
    let s := { s with drove := { s.drove with linkDown := if down then rest ++ [(m, p)] else rest } }
    (List.range 128).foldl State.checkLost s

/-- Towards the bellwether, which notes its own ports itself (R244). -/
def State.reportPort (s : State) (p : PortNo) (cause : Nat) : State :=
  let s := s.noteLink s.ownId p.val ((s.port p).mode = .down)
  if s.role = .member then s.passReport none (s.reportOf p cause) else s

/-! ## Ports going down -/

/-- A port goes DOWN with a cause (R244, R246); a port that is DOWN or DISABLED stays as it is. -/
def State.portDown (s : State) (p : PortNo) (detail : Nat) : State :=
  if (s.port p).mode = .down ∨ (s.port p).mode = .disabled then s
  else
    let s := s.onPort p (fun x => { x with mode := .down, phase := 1, wantTrain := false, requests := [], asking := [],
                                           relays := [], sentCells := [] })
    (((s.emit (.silent p)).raise 0x4002 (0x100 + p.val) detail).reportPort p detail).refreshDemand

/-- Link reports of peer reset on every eligible port, then the links are dropped (R245). -/
def State.peerReset (s : State) : State :=
  let s := (List.finRange 8).foldl (fun s p =>
    if (s.port p).mode = .eligible then s.emitBlock (.linkReport p { s.reportOf p 2 with state := 1 }) else s) s
  { s with drove := { s.drove with ports := s.drove.ports.map (fun x =>
      if x.mode = .disabled then x else { x with mode := .down, phase := 1, wantTrain := false, signal := false }) } }

end Sys2Proof.Machine
end

