-- ==== Sys2Proof/Machine/TileModes.lean ====
section
/-!
DEFINITION. Tile states (03 Tables TILE-5 to TILE-7): regions (08 R174), tile resets, and what requests, causes and readmissions do to a tile when they
take effect.
-/
namespace Sys2Proof.Machine

/-! ## Rotation roles (R44) -/

/-- Tile in role `r` of a rotation group at bell `b` (R44). -/
def RotGroup.role (g : RotGroup) (b r : Nat) : Option Nat := g.tiles[(b / g.period + r) % g.tiles.length]?

/-- The tile is one of the group's active tiles at bell `b` (R44). -/
def RotGroup.runs (g : RotGroup) (b k : Nat) : Bool := (List.range g.active).any (fun r => g.role b r = some k)

/-! ## Regions (R174) -/

def Region.valid (r : Region) : Bool := bitOf r.attrs 0
def Region.faultMode (r : Region) : Bool := bitOf r.attrs 1
def Region.reloadable (r : Region) : Bool := bitOf r.attrs 2
def Region.protected (r : Region) : Bool := bitOf r.attrs 3
def Region.holds (r : Region) (a : Nat) : Bool := r.valid && decide (r.base ≤ a ∧ a < r.base + r.length)

/-- Index and entry of the region that holds a tile address. -/
def TileState.regionAt (t : TileState) (a : Nat) : Option (Nat × Region) :=
  match t.regions.findIdx? (fun r => r.holds a) with
  | some i => some (i, t.regions.getD i {})
  | none => none

/-! ## Reset (R83, R84) -/

/-- The core of a tile executes nothing: its sequencer, matcher and override slots are as after power-up. -/
def TileState.idle (x : TileState) : TileState := { x with seq := {}, slots := [] }

/-- Tile at which a read request of entry `e` is answered, in the tier in force at bell count `b` (R44, R85). -/
def Tier.endpointTile (t : Tier) (b code : Nat) : Option Nat :=
  if code < 256 then some code
  else if 0x8000 ≤ code then
    ((t.groups.find? (fun g => g.ident = (code - 0x8000) / 256)).bind (fun g => g.role b ((code - 0x8000) % 256)))
  else none

/-- A tile whose SRAM takes ingress writes. -/
def State.takesWrites (s : State) (k : Nat) : Bool :=
  ((s.tile k).mode = .active || (s.tile k).mode = .gatedRetain) && !(s.tile k).forReset

/-- The ingress of partition `p` may write the word (R68). -/
def TileState.mayWriteWord (x : TileState) (p w : Nat) : Bool :=
  match x.regionAt (8 * w) with
  | some (_, g) => g.owner = p && !g.protected
  | none => false

/-- The peer-reset completion of a read: each destination word whose flit has not arrived becomes poison at the requester (R84, R68). -/
def State.peerResetReply (s : State) (r : Reply) : State :=
  if s.takesWrites r.requester then
    s.onTile r.requester (fun x =>
      { x with sram := (r.rest.filter (x.mayWriteWord r.owner)).foldl (fun m w => m.poison emptyByte w) x.sram })
  else s

/-- A tile reset: core, matcher, override slots and pending traffic are gone, the epoch moves on. Every read that the tile holds
completes with poison at its requester, and the completions are logged (R84; log 53). -/
def State.resetTile (s : State) (k : Nat) : State :=
  let held := s.mesh.replies.filter (fun r => r.responder = some k)
  let s := held.foldl State.peerResetReply s
  let s := { s with mesh := { s.mesh with replies := s.mesh.replies.filter (fun r => r.responder ≠ some k) } }
  let s := s.onTile k (fun x => { x with seq := {}, slots := [], matcher := [], epoch := x.epoch + 1 })
  if held.isEmpty then s else s.raise 0x2003 k held.length

/-! ## Transitions at a bell (R75, Table TILE-6) -/

/-- Quarantine takes effect (R78). Cause 3 resets the tile. -/
def State.quarantine (s : State) (k detail : Nat) : State :=
  let s := if detail = 3 then s.resetTile k else s
  (s.onTile k (fun x => { x.idle with mode := .quarantined, requests := [], rebuild := .none, forReset := false,
                                      ueBells := [] })).raise 0x2001 k detail

/-- Readmission starts: reset, TESTING (R80 step 1). Each start counts as one self-test attempt, also when the readmission is abandoned
later: the spec does not say whether that one counts (DESIGN CHOICE, log 162). -/
def State.startReadmission (s : State) (k : Nat) : State :=
  (s.resetTile k).onTile k (fun x => { x with mode := .testing, requests := [], rebuild := .selfTest,
                                              attempts := x.attempts + 1 })

/-- Out of service: core and SRAM off. -/
def State.takeOut (s : State) (k : Nat) : State :=
  s.onTile k (fun x => { x.idle with mode := .outOfService, requests := [], rebuild := .none, forReset := false, sram := {},
                                     matcher := [] })

/-- Some present tier uses the tile. -/
def Plan.usesTile (p : Plan) (k : Nat) : Bool :=
  p.present.any (fun j => match p.tier? j with
    | some t => bitOf t.entry.tileMask k
    | none => false)

/-- Readmission completes (R80 step 5). While a plan runs the tile waits for a recovery (R82). -/
def State.readmitted (s : State) (k : Nat) : State :=
  let n := (s.tile k).attempts
  let to_ : TileMode := match s.plan.plan with
    | some p => if p.usesTile k then .gatedRetain else .gatedOff
    | none => .gatedOff
  let since : Option Int := if s.running then some s.bell.count.toNat else none
  (s.onTile k (fun x => { x with mode := to_, rebuild := .none, attempts := 0, failCount := 0, benched := since })).raise 0x2002 k n

/-- A request takes effect where the tile's state still allows it: 1 quarantine, 2 readmit, 3 out of service (R79). -/
def State.serveOne (s : State) (k : Nat) (r : Nat × Nat) : State :=
  match r.1 with
  | 1 => (match (s.tile k).mode with
      | .active | .gatedRetain | .gatedOff | .testing => s.quarantine k r.2
      | .quarantined | .outOfService => s)
  | 2 => if (s.tile k).mode = .quarantined then s.startReadmission k else s
  | _ => if (s.tile k).mode = .outOfService then s else s.takeOut k

/-- The requests of a tile take effect in the order in which they arose (R75, R79; the order is a DESIGN CHOICE, log 163). -/
def State.serveRequests (s : State) (k : Nat) : State :=
  let rs := (s.tile k).requests
  rs.foldl (fun (s : State) (r : Nat × Nat) => s.serveOne k r) (s.onTile k (fun x => { x with requests := [] }))

/-- Three uncorrectable errors within 10,000 bells (Table TILE-7 detail 2). -/
def TileState.thirdError (x : TileState) : Bool :=
  match x.ueBells with
  | [c, _, a] => decide (c < a + 10000)
  | _ => false

/-- The quarantine causes that a bell itself finds: a core that did not stop, the third error (Table TILE-7). -/
def State.findCauses (s : State) (stuck : List TileNo) (k : TileNo) : State :=
  let x := s.tile k
  let may := x.mode = .active ∨ x.mode = .gatedRetain ∨ x.mode = .gatedOff
  if stuck.contains k ∧ x.mode = .active then s.quarantine k 3
  else if may ∧ x.thirdError then s.quarantine k 2
  else s

/-- A tile whose readmission is complete leaves TESTING, unless a request of the tick abandons it (R79, R80 step 5). -/
def State.alignTile (s : State) (k : Nat) : State :=
  if (s.tile k).mode = .testing ∧ (s.tile k).rebuild = .aligned ∧ (s.tile k).requests.isEmpty then s.readmitted k else s

/-- The tile changes of a bell, tile by tile: a completed readmission, then the requests in their order, then the causes that the
bell finds. The spec gives no order among them (DESIGN CHOICE, log 163). -/
def State.tileStates (s : State) (stuck : List TileNo) : State :=
  (List.finRange 256).foldl (fun (s : State) (k : TileNo) => ((s.alignTile k.val).serveRequests k.val).findCauses stuck k) s

end Sys2Proof.Machine
end

