-- ==== Sys2Proof/Machine/Stop.lean ====
section
/-!
DEFINITION. The end of a plan's run (02 R47, R48; 03 Table TILE-6), shared by the stop command, the thermal trip and the loss of power
paths.
-/
namespace Sys2Proof.Machine

/-- A tile at plan stop (Table TILE-6): off, its contents lost, unless it is quarantined, under readmission or out of service. -/
def TileState.stop (x : TileState) : TileState :=
  match x.mode with
  | .active | .gatedRetain | .gatedOff =>
    { x with mode := .gatedOff, sram := {}, seq := {}, slots := [], matcher := [], rebuild := .none, forReset := false,
             benched := none }
  | .quarantined | .testing | .outOfService => x.idle

/-- Every partition stops, 0x2200:01 reads 0, the bell state is STOPPED and the plan's own state is gone (R47). Writes that waited
for a bell take effect, since none follows (R302, R79). LP5X channels leave self-refresh and serve what they held (R190, R191; log 61). -/
def State.stopPlan (s : State) : State :=
  let s := (s.tileStates []).latchObjects.serveHeld
  { s with
    bell := { s.bell with state := .stopped, restart := none, announced := none, markerSeen := false, missed := 0,
                          heldMarkers := [] },
    plan := { s.plan with status := 0, plan := none, running := false, awaitBell0 := false, effective := 0, domainTier := 0,
                          pending := none, stopAt := none, fastPath := false, raiseFailed := none, raiseDemand := false, overrunDemand := 0,
                          cleanTicks := 0, belowSince := none, received := [], counted := [] },
    tiles := s.tiles.map TileState.stop,
    mesh := { s.mesh with transfers := [], replies := [], emitted := [], carried := [], carriedTier := none },
    parts := s.parts.map (fun x => { x with overrun := false, failed := false, prevBad := false, resetRequest := false,
                                            resetting := false, rebuilt := false, skipTick := false, prevSkip := false }),
    mem := { s.mem with reload := [], memEvents := [], selfRefresh := [] },
    drove := { s.drove with cells := [], delivered := [], outgoing := [], readmit := [], returning := [], resend := [] },
    power := { s.power with raise := none } }

end Sys2Proof.Machine
end

