-- ==== Sys2Proof/Machine/Power.lean ====
section
/-!
DEFINITION. Power and shedding (16): platform supply, shed stages and their fast paths, rail failure, the VDD_CORE readback, PMBus
polls.
-/
namespace Sys2Proof.Machine

/-! ## Stages (R368 to R374, R378 to R380) -/

/-- V_plat from the mean of ten codes, mV (R368). -/
def State.vplatOf (s : State) (codes : List Nat) : Int :=
  readout 0x2400 2 ((codes.sum : Rat) / 10 * 2500 * (s.obj 0x2405 1 : Rat) / 409600) + s.objI 16 0x2405 2

/-- Fall and rise threshold of a stage, mV (0x2401, 0x2402). -/
def State.fall (s : State) (k : Nat) : Int := s.obj 0x2401 k
def State.rise (s : State) (k : Nat) : Int := s.obj 0x2402 k

/-- The deepest stage whose fall threshold lies above V_plat (R371, R380). -/
def State.stageFor (s : State) (v : Int) : Nat := ((List.range 7).filter (fun k => k ≠ 0 && decide (v < s.fall k))).getLast?.getD 0

/-- The change of stage is shown and logged (R373). Stage 6 is logged at the next boot. -/
def State.setStage (s : State) (new source : Nat) : State :=
  let old := s.power.stage
  let s := { s with power := { s.power with stage := new, changedAt := s.now, aboveSince := none },
                    plan := { s.plan with raiseDemand := false } }
  if new = 6 then s
  else s.raise 0x8001 source (unsignedOf 16 (s.power.vplat / 10) * 2 ^ 16 + old * 256 + new)

/-- Entry into stage 5: sinks safe, fast path to tier 7, shutdown record (R378). A switch pending in the domain stays the domain's, and is
not followed (R57). -/
def State.enterFive (s : State) : State :=
  let s := s.safeEntry.shutdownRecord 5
  let kept := if s.role = .standalone then none else s.plan.pending
  if s.running then { s with plan := { s.plan with fastPath := true, pending := kept } } else s

/-- Entry into stage 6: the actions of stage 5 when it was not entered, the record, peer reset, power-down (R379). -/
def State.enterSix (s : State) (before : Nat) : State :=
  let s := if before < 5 then s.enterFive else s
  (s.shutdownRecord 6).peerReset.powerDown

/-- The stage rises to `k` (R371). -/
def State.riseTo (s : State) (k source : Nat) : State :=
  let old := s.power.stage
  if k ≤ old then s
  else
    let s := s.setStage k source
    if k = 6 then s.enterSix old
    else if k = 5 then s.enterFive.refreshDemand
    else s.refreshDemand

/-- V_plat is judged against the fall thresholds (R371, R370, R380). -/
def State.judgeStage (s : State) : State :=
  if s.power.evaluated then s.riseTo (s.stageFor s.power.vplat) 0x1B0 else s

/-- VPLAT_SAMPLE (R368, R371, R372, R380). -/
def execVplatSample (code : BitVec 12) (t : Nat) (s : State) : Result :=
  runLive (fun s =>
    let s := s.clock t
    let codes := (code.toNat :: s.power.codes).take 10
    let s := { s with power := { s.power with codes := codes } }
    if codes.length < 10 then s
    else
      let s := { s with power := { s.power with vplat := s.vplatOf codes, evaluated := true } }
      let s := s.judgeStage
      let above := s.power.stage ≠ 0 ∧ s.rise s.power.stage < s.power.vplat
      { s with power := { s.power with
        aboveSince := if above then (if s.power.aboveSince.isSome then s.power.aboveSince else some t) else none } }) s

/-- The dwell of R372 has passed since an instant. -/
def State.dwelt (s : State) (since : Nat) : Bool := decide (since + s.obj 0x2403 0 * 1000000 ≤ s.now)

/-- SHED_STAGE_FALL (R372, R378): one stage at a time, never from stage 6. -/
def execShedStageFall (t : Nat) (s : State) : Result :=
  runLive (fun s =>
    let s := s.clock t
    let k := s.power.stage
    match s.power.aboveSince with
    | none => s
    | some a =>
      if 1 ≤ k ∧ k ≤ 5 ∧ s.dwelt a ∧ s.dwelt s.power.changedAt then
        let s := s.setStage (k - 1) 0x1B0
        let s := { s with power := { s.power with
          aboveSince := if k - 1 ≠ 0 ∧ s.rise (k - 1) < s.power.vplat then some t else none } }
        (if k = 5 ∧ s.bell.state ≠ .orphaned ∧ s.plan.effective ≠ tierStop then s.safeLeave else s).refreshDemand
      else s) s

/-- COMPARATOR_A_TRIP (R371, R378). -/
def execComparatorATrip (t : Nat) (s : State) : Result := runLive (fun s => (s.clock t).riseTo 5 0x1B1) s

/-- COMPARATOR_B_TRIP (R371, R379). -/
def execComparatorBTrip (t : Nat) (s : State) : Result := runLive (fun s => (s.clock t).riseTo 6 0x1B2) s

/-! ## Rails (R363 to R367) -/

/-- A rail fails while the main domain is up (R367). The chrysalis domain starts again a second after power-down. -/
def State.railFails (s : State) (rail detail : Nat) : State :=
  let s := (s.failSinks).raise 0x8004 (0x1C0 + rail) detail
  let s := (s.shutdownRecord (0xF0 + rail)).peerReset.powerDown
  s.onIsland (fun i => { i with railRetry := true })

/-- RAIL_PG_LOST (R367). -/
def execRailPgLost (rail : Fin 6) (s : State) : Result :=
  run (fun s => if s.island.state = .mainOn then s.railFails rail 1 else s) s

/-- The rails whose regulator answers on PMBus (R364): VDD_CORE's must, the others when present. -/
def State.onPmbus (s : State) (r : Fin 6) : Bool := r.val = 1 || s.board.pmbus.contains r

/-- PMBUS_POLL (R364, R367): every hundredth bell, in the maintenance slot; `faults` are the rails whose STATUS_WORD reports an
output fault. -/
def execPmbusPoll (faults : List (Fin 6)) (s : State) : Result :=
  runLive (fun s =>
    if s.running ∧ 100 ≤ s.power.pollBells then
      let s := { s with power := { s.power with pollBells := 0 } }
      let s := (List.finRange 6).foldl (fun s r => if s.onPmbus r then s.emit (.pmbusStatus r) else s) s
      match (List.finRange 6).find? (fun r => s.onPmbus r && faults.contains r) with
      | some r => s.railFails r 3
      | none => s
    else s) s

/-- VDD_CORE_READBACK (R366): 14 µs after a raise. -/
def execVddCoreReadback (mv : Nat) (s : State) : Result :=
  runLive (fun s =>
    match s.power.raise with
    | none => s
    | some target =>
      let s := (s.emit .avsRead)
      let s := { s with power := { s.power with raise := none } }
      if target ≤ mv + 15 then s
      else
        let s := (s.raise 0x8004 0x1C1 2).safeEntry
        let seven := match s.plan.plan.bind (fun p => p.tier? 7) with
          | some t => decide (t.entry.vddMv ≤ mv)
          | none => false
        ({ s with plan := { s.plan with raiseFailed := some (if seven then 7 else tierStop), raiseDemand := true } }).refreshDemand) s

/-! ## The main domain goes down by command (R245) -/

/-- SLEEP_PNR (R299, R245, Table FIELD-7): the controllers stop, the neighbours learn of it, the main domain goes down. -/
def execSleepPnr (t : Nat) (s : State) : Result :=
  runLive (fun s => let s := s.clock t
    if s.field.sleep = .arming ∧ s.field.pnrAt ≤ t then s.pastPnr.peerReset.powerDown else s) s

/-- COLD_RESET (R414, R8, Table BOOT-6), after the reports of peer reset where the main domain runs (R245). -/
def execColdReset (vddAux : Bool) (s : State) : Result :=
  run (fun s => (if s.live then s.peerReset else s).coldReset vddAux) s

end Sys2Proof.Machine
end

