-- ==== Sys2Proof/Machine/Float.lean ====
section
/-!
DEFINITION. Number formats and exact arithmetic (06): the encodings of Table NUM-1, rounding and overflow (R133, R134, R139), the
stochastic generator (R140), binary32 arithmetic (R136, R138) and the transcendental operations with their bounds (Table NUM-3).
-/
namespace Sys2Proof.Machine

/-! ## Values -/

/-- What a float code means: a dyadic (-1)^neg · m · 2^e, an infinity, or NaN. -/
inductive FVal where
  | nan
  | inf (neg : Bool)
  | fin (neg : Bool) (m : Nat) (e : Int)
deriving DecidableEq, Repr

/-- A format of Table NUM-1: mantissa bits, exponent bits, bias, the code of the largest finite value, that of infinity (none for E4M3),
and the canonical NaN. -/
structure FFormat where
  man : Nat
  exp : Nat
  bias : Int
  maxFin : Nat
  infinity : Option Nat
  nan : Nat
deriving DecidableEq, Repr

def fp32 : FFormat := ⟨23, 8, 127, 0x7F7FFFFF, some 0x7F800000, 0x7FC00000⟩
def bf16 : FFormat := ⟨7, 8, 127, 0x7F7F, some 0x7F80, 0x7FC0⟩
def fp16 : FFormat := ⟨10, 5, 15, 0x7BFF, some 0x7C00, 0x7E00⟩
def e4m3 : FFormat := ⟨3, 4, 7, 0x7E, none, 0x7F⟩
def e5m2 : FFormat := ⟨2, 5, 15, 0x7B, some 0x7C, 0x7E⟩

/-- The sign bit's weight. -/
def FFormat.signBit (f : FFormat) : Nat := 2 ^ (f.man + f.exp)

/-- Exponent of the smallest subnormal. -/
def FFormat.least (f : FFormat) : Int := 1 - f.bias - f.man

/-- A code's value (R129, R131). -/
def FFormat.decode (f : FFormat) (code : Nat) : FVal :=
  let neg := code / f.signBit % 2 == 1
  let mag := code % f.signBit
  if f.infinity = some mag then .inf neg
  else if f.maxFin < mag then .nan
  else
    let e := mag / 2 ^ f.man
    let m := mag % 2 ^ f.man
    if e = 0 then .fin neg m f.least else .fin neg (2 ^ f.man + m) (f.least + (e : Int) - 1)

/-- How a store rounds: nearest even, or stochastic with its 16-bit number (R133, R139). -/
inductive Rounding where
  | nearest
  | stochastic (u : Nat)
deriving DecidableEq, Repr

/-- `m · 2^-shift` rounded to a whole number. -/
def roundShift (r : Rounding) (m shift : Nat) : Nat :=
  let q := m / 2 ^ shift
  let rem := m % 2 ^ shift
  match r with
  | .nearest =>
    if 2 * rem > 2 ^ shift ∨ (2 * rem = 2 ^ shift ∧ q % 2 = 1) then q + 1 else q
  | .stochastic u => if 2 ^ 16 ≤ rem * 2 ^ 16 / 2 ^ shift + u then q + 1 else q

/-- The magnitude code of `m · 2^e`, which may lie beyond the largest finite one. -/
def FFormat.magnitude (f : FFormat) (r : Rounding) (m : Nat) (e : Int) : Nat :=
  if m = 0 then 0
  else
    let top : Int := e + (Nat.log2 m : Int)
    let q : Int := max (top - f.man) f.least
    let n := if q ≤ e then m * 2 ^ (e - q).toNat else roundShift r m (q - e).toNat
    ((q - f.least).toNat) * 2 ^ f.man + n

/-- The code stored for a value (R132 to R134, R139). -/
def FFormat.encode (f : FFormat) (r : Rounding) (saturate : Bool) (x : FVal) : Nat :=
  let beyond (neg : Bool) : Nat :=
    let s := if neg then f.signBit else 0
    if saturate then s + f.maxFin
    else match f.infinity with
      | some c => s + c
      | none => f.nan
  match x with
  | .nan => f.nan
  | .inf neg => beyond neg
  | .fin neg m e =>
    let c := f.magnitude r m e
    if f.maxFin < c then beyond neg else (if neg then f.signBit else 0) + c

/-! ## Exact arithmetic (IEEE 754) -/

def FVal.neg : FVal → FVal
  | .nan => .nan
  | .inf s => .inf (!s)
  | .fin s m e => .fin (!s) m e

def FVal.abs : FVal → FVal
  | .nan => .nan
  | .inf _ => .inf false
  | .fin _ m e => .fin false m e

def FVal.isZero : FVal → Bool
  | .fin _ 0 _ => true
  | _ => false

def FVal.isNeg : FVal → Bool
  | .nan => false
  | .inf s => s
  | .fin s _ _ => s

/-- The exact sum. A zero sum is +0 unless both terms are −0. -/
def FVal.add : FVal → FVal → FVal
  | .nan, _ => .nan
  | _, .nan => .nan
  | .inf s, .inf t => if s = t then .inf s else .nan
  | .inf s, _ => .inf s
  | _, .inf t => .inf t
  | .fin s m e, .fin t n g =>
    let lo := min e g
    let a : Int := (m * 2 ^ (e - lo).toNat : Nat)
    let b : Int := (n * 2 ^ (g - lo).toNat : Nat)
    let sum := (if s then -a else a) + (if t then -b else b)
    if sum = 0 then .fin (m = 0 && n = 0 && s && t) 0 lo else .fin (decide (sum < 0)) sum.natAbs lo

/-- The exact product. -/
def FVal.mul : FVal → FVal → FVal
  | .nan, _ => .nan
  | _, .nan => .nan
  | .inf s, y => if y.isZero then .nan else .inf (s != y.isNeg)
  | x, .inf t => if x.isZero then .nan else .inf (x.isNeg != t)
  | .fin s m e, .fin t n g => .fin (s != t) (m * n) (e + g)

/-- The value of an integer. -/
def FVal.ofInt (i : Int) : FVal := .fin (decide (i < 0)) i.natAbs 0

/-- Sign of x − y for values that are not NaN; NaN compares with nothing. -/
def FVal.lt (x y : FVal) : Bool :=
  match x, y with
  | .nan, _ => false
  | _, .nan => false
  | .inf s, .inf t => s && !t
  | .inf s, _ => s
  | _, .inf t => !t
  | _, _ => match x.add y.neg with
    | .fin s m _ => s && m ≠ 0
    | _ => false

/-- A finite value as a rational. -/
def FVal.rat : FVal → Rat
  | .fin s m e =>
    let x : Rat := if 0 ≤ e then ((m * 2 ^ e.toNat : Nat) : Rat) else (m : Rat) / ((2 ^ (-e).toNat : Nat) : Rat)
    if s then -x else x
  | _ => 0

/-! ## Integers (R130, R132, R133, R135) -/

/-- A number kept in a signed range of `w` bits. -/
def clampS (w : Nat) (i : Int) : Int := max (-(2 : Int) ^ (w - 1)) (min i ((2 : Int) ^ (w - 1) - 1))

/-- A float converted to a signed integer of `w` bits: nearest even, saturated, NaN to 0. -/
def FVal.toInt (w : Nat) : FVal → Int
  | .nan => 0
  | .inf s => if s then -(2 : Int) ^ (w - 1) else (2 : Int) ^ (w - 1) - 1
  | .fin s m e =>
    let n : Nat := if 0 ≤ e then m * 2 ^ e.toNat else roundShift .nearest m (-e).toNat
    clampS w (if s then -(n : Int) else (n : Int))

/-! ## binary32 (R138) -/

def ofF (c : U32) : FVal := fp32.decode c.toNat

/-- An exact result rounded once to binary32. -/
def toF (x : FVal) : U32 := BitVec.ofNat 32 (fp32.encode .nearest false x)

def addF (a b : U32) : U32 := toF ((ofF a).add (ofF b))
def subF (a b : U32) : U32 := toF ((ofF a).add (ofF b).neg)
def mulF (a b : U32) : U32 := toF ((ofF a).mul (ofF b))
def fmaF (a b c : U32) : U32 := toF (((ofF a).mul (ofF b)).add (ofF c))

/-- A rational rounded to binary32, nearest even: its quotient is taken to 64 more bits than the format has, with a sticky bit. -/
def ratF (neg : Bool) (x : Rat) : U32 :=
  let p := x.num.natAbs
  let q := x.den
  if p = 0 then toF (.fin neg 0 0)
  else
    let k : Nat := 300
    let n := p * 2 ^ k / q
    let sticky : Nat := if p * 2 ^ k % q = 0 then 0 else 1
    toF (.fin neg (2 * n + sticky) (-(k : Int) - 1))

/-- The quotient a / b (IEEE 754). -/
def divF (a b : U32) : U32 :=
  match ofF a, ofF b with
  | .nan, _ => toF .nan
  | _, .nan => toF .nan
  | .inf _, .inf _ => toF .nan
  | .inf s, y => toF (.inf (s != y.isNeg))
  | x, .inf t => toF (.fin (x.isNeg != t) 0 0)
  | x, y =>
    if y.isZero then (if x.isZero then toF .nan else toF (.inf (x.isNeg != y.isNeg)))
    else ratF (x.isNeg != y.isNeg) (x.abs.rat / y.abs.rat)

/-- The larger of two values; NaN, and zeros of both signs, are left open (log 71). -/
def maxF (op : Nat) (a b : U32) : U32 :=
  if ofF a = .nan ∨ ofF b = .nan ∨ ((ofF a).isZero ∧ (ofF b).isZero ∧ a ≠ b) then Config.vectorOpen op [a, b]
  else if (ofF a).lt (ofF b) then b else a

/-- The smaller of two values, as `maxF`. -/
def minF (op : Nat) (a b : U32) : U32 :=
  if ofF a = .nan ∨ ofF b = .nan ∨ ((ofF a).isZero ∧ (ofF b).isZero ∧ a ≠ b) then Config.vectorOpen op [a, b]
  else if (ofF b).lt (ofF a) then b else a

/-! ## INT32 (R135) -/

def ofS (c : U32) : Int := c.toInt
def toS (i : Int) : U32 := BitVec.ofInt 32 (clampS 32 i)

/-! ## Sums of a row -/

/-- All terms added two by two, in an order the manual leaves open (log 70). -/
def sumTree (add : U32 → U32 → U32) : (fuel : Nat) → List U32 → U32
  | 0, xs => xs.headD 0
  | _, [] => 0
  | _, [x] => x
  | fuel + 1, xs =>
    let n := xs.length
    let pick := Config.sumPick n
    let i := pick.1 % n
    let rest := xs.eraseIdx i
    let j := pick.2 % (n - 1)
    sumTree add fuel (rest.eraseIdx j ++ [add (xs.getD i 0) (rest.getD j 0)])

/-- The FP32 sum of a row. -/
def sumF (xs : List U32) : U32 := sumTree addF xs.length xs

/-- The saturating INT32 sum of a row. -/
def sumS (xs : List U32) : U32 := sumTree (fun a b => toS (ofS a + ofS b)) xs.length xs

/-! ## Transcendental operations (R138, Table NUM-3) -/

def pow2 (i : Int) : Rat := if 0 ≤ i then ((2 ^ i.toNat : Nat) : Rat) else 1 / ((2 ^ (-i).toNat : Nat) : Rat)

/-- ln 2 to 120 bits. -/
def ln2 : Rat := (921350637599661305226344307672478454 : Rat) / ((2 ^ 120 : Nat) : Rat)

/-- e^x for a number within ±200, to better than 2^-60 of itself. -/
def expRef (x : Rat) : Rat :=
  let k : Int := (x / ln2 + 1 / 2).floor
  let r := x - (k : Rat) * ln2
  (List.range 30).foldl (fun (acc : Rat) (i : Nat) => 1 + r * acc / ((30 - i : Nat) : Rat)) 1 * pow2 k

/-- ln x for x > 0, given as m · 2^e, to better than 2^-60 of itself. -/
def lnRef (m : Nat) (e : Int) : Rat :=
  let top := Nat.log2 m
  let y : Rat := (m : Rat) / ((2 ^ top : Nat) : Rat)
  let (y, k) : Rat × Int := if 3 / 2 < y then (y / 2, e + (top : Int) + 1) else (y, e + (top : Int))
  let z := (y - 1) / (y + 1)
  let series := (List.range 40).foldl (fun (acc : Rat) (i : Nat) => 1 / ((2 * (39 - i) + 1 : Nat) : Rat) + z * z * acc) 0
  (k : Rat) * ln2 + 2 * z * series

/-- ⌊√n⌋ for n below 2^800. -/
def isqrt (n : Nat) : Nat :=
  (List.range 400).foldl (fun acc i => if (acc + 2 ^ (399 - i)) ^ 2 ≤ n then acc + 2 ^ (399 - i) else acc) 0

/-- 1 / √x for x > 0. -/
def rsqrtRef (x : Rat) : Rat := (isqrt (2 ^ 600 * x.den / x.num.natAbs) : Rat) / ((2 ^ 300 : Nat) : Rat)

/-- Spacing of binary32 values at a magnitude. -/
def ulpAt (x : Rat) : Rat :=
  let p := x.num.natAbs
  if p = 0 then pow2 (-149)
  else
    let k : Int := (Nat.log2 p : Int) - (Nat.log2 x.den : Int)
    let a : Rat := (p : Rat) / (x.den : Rat)
    let k := if a < pow2 k then k - 1 else k
    pow2 (max (k - 23) (-149))

def ratAbs (x : Rat) : Rat := if x < 0 then -x else x

/-- A result the device may give for a reference value: within `ulps`, or within 2^-24 of a value below 2^-20 where Table NUM-3 says
so. -/
def inBound (ulps : Nat) (small : Bool) (ref : Rat) (r : U32) : Bool :=
  match ofF r with
  | .fin s m e =>
    let d := ratAbs ((FVal.fin s m e).rat - ref)
    decide (d ≤ (ulps : Rat) * ulpAt ref) || (small && decide (ratAbs ref < pow2 (-20) ∧ d ≤ pow2 (-24)))
  | _ => false

/-- The device's result near a reference value: its own fixed choice within the bound (log 12). -/
def nearRef (op : Nat) (x : U32) (ulps : Nat) (small : Bool) (ref : Rat) : U32 :=
  let r := Config.transcendental (BitVec.ofNat 8 op) x
  if inBound ulps small ref r then r else ratF (decide (ref < 0)) ref

/-- e^x (VEXP). -/
def expF (x : U32) : U32 :=
  match ofF x with
  | .nan => toF .nan
  | .inf true => 0
  | .inf false => toF (.inf false)
  | .fin s m e =>
    let v := (FVal.fin s m e).rat
    let ref := if v < -200 then 0 else if 200 < v then pow2 200 else expRef v
    if ratF false ref = toF (.inf false) then toF (.inf false) else nearRef 0x2A x 2 false ref

/-- ln x (VLOG). -/
def logF (x : U32) : U32 :=
  match ofF x with
  | .nan => toF .nan
  | .inf true => toF .nan
  | .inf false => toF (.inf false)
  | .fin s m e => if m = 0 then toF (.inf true) else if s then toF .nan else nearRef 0x2B x 2 false (lnRef m e)

/-- 1 / x (VRECIP). -/
def recipF (x : U32) : U32 :=
  match ofF x with
  | .nan => toF .nan
  | .inf s => toF (.fin s 0 0)
  | .fin s m e =>
    if m = 0 then toF (.inf s)
    else
      let ref := 1 / (FVal.fin s m e).rat
      if ratF false (ratAbs ref) = toF (.inf false) then toF (.inf s) else nearRef 0x2C x 1 false ref

/-- 1 / √x (VRSQRT). -/
def rsqrtF (x : U32) : U32 :=
  match ofF x with
  | .nan => toF .nan
  | .inf true => toF .nan
  | .inf false => 0
  | .fin s m e =>
    if m = 0 then toF (.inf s) else if s then toF .nan else nearRef 0x2D x 2 false (rsqrtRef (FVal.fin s m e).rat)

/-- 1 / (1 + e^-x) (VSIGM). -/
def sigmF (x : U32) : U32 :=
  match ofF x with
  | .nan => toF .nan
  | .inf true => 0
  | .inf false => toF (.fin false 1 0)
  | .fin s m e =>
    let v := (FVal.fin s m e).rat
    nearRef 0x2E x 2 true (if v < -200 then 0 else if 200 < v then 1 else 1 / (1 + expRef (-v)))

/-- tanh x (VTANH); a zero keeps its sign (R131). -/
def tanhF (x : U32) : U32 :=
  match ofF x with
  | .nan => toF .nan
  | .inf s => toF (.fin s 1 0)
  | .fin s m e =>
    let v := (FVal.fin s m e).rat
    let t (w : Rat) : Rat := let q := expRef (-2 * w); (1 - q) / (1 + q)
    if m = 0 then toF (.fin s 0 0) else nearRef 0x2F x 2 true (if v < -90 then -1 else if 90 < v then 1 else t v)

/-! ## Stochastic rounding (R140) -/

/-- The mixing function. -/
def mix (x : U64) : U64 :=
  let z := x + 0x9E3779B97F4A7C15#64
  let z := (z ^^^ (z >>> 30)) * 0xBF58476D1CE4E5B9#64
  let z := (z ^^^ (z >>> 27)) * 0x94D049BB133111EB#64
  z ^^^ (z >>> 31)

/-- The 16-bit random number of a destination element. -/
def randomOf (planId bell : U64) (executor issue element : Nat) : Nat :=
  let key := mix (planId ^^^ bell)
  let word := BitVec.ofNat 64 (executor * 2 ^ 48 + issue % 2 ^ 24 * 2 ^ 24 + element % 2 ^ 24)
  (mix (key ^^^ word) >>> 48).toNat

/-! ## Element types (Table LAYOUT-4) -/

/-- The float format of an element type. -/
def floatType : Nat → Option FFormat
  | 0x01 => some e4m3
  | 0x02 => some e5m2
  | 0x10 => some bf16
  | 0x11 => some fp16
  | 0x20 => some fp32
  | _ => none

/-- A 32-bit operand of a unit: an INT32 or an FP32 code (R102). -/
inductive Num where
  | int (i : U32)
  | flt (c : U32)
deriving DecidableEq, Repr

/-- An element widened to 32 bits (R102, R130, R131). -/
def widen (ety code : Nat) : Num :=
  match floatType ety with
  | some f => .flt (toF (f.decode code))
  | none => if ety = 0x00 then .int (BitVec.ofInt 32 (signedOf 8 code)) else .int (BitVec.ofNat 32 code)

/-- Exact value of an operand. -/
def Num.exact : Num → FVal
  | .int i => .ofInt i.toInt
  | .flt c => ofF c

/-- A 32-bit result stored into an element type (R132 to R135, R139). -/
def narrow (ety : Nat) (r : Rounding) (saturate : Bool) (x : Num) : Nat :=
  match floatType ety with
  | some f => f.encode r saturate x.exact
  | none =>
    let w := if ety = 0x00 ∨ ety = 0x03 then 8 else if ety = 0x12 then 16 else 32
    let i : Int := match x with
      | .int i => clampS w i.toInt
      | .flt c => (ofF c).toInt w
    unsignedOf w i

end Sys2Proof.Machine
end

