-- ==== Sys2Proof/Machine/Thermal.lean ====
section
/-!
DEFINITION. Thermal and cooling (17): sensors, flow and heat, the hardware trip, the governor's model and its demands.
-/
namespace Sys2Proof.Machine

/-! ## Sensors (R383, R384) -/

/-- The source number of a sensor (17, Ground). -/
def sensorSource (k : Nat) : Nat := if k < 256 then k else 0x1A0 + (k - 256)

def State.reading (s : State) (k : Nat) : Int := vget s.thermal.reading k 0

def State.sensorFaulty (s : State) (k : Nat) : Bool := s.thermal.faulty.contains k

/-- The sensors that 0x2500:01 looks at: all but the faulty peripheral ones (R383, R384; log 57). -/
def State.counted (s : State) : List Nat := (List.range 264).filter (fun k => k < 256 || !s.sensorFaulty k)

/-- The first of the sensors that reads hottest. -/
def State.hottestOf (s : State) (ks : List Nat) : Nat :=
  ks.foldl (fun b k => if s.reading b < s.reading k then k else b) (ks.headD 0)

/-- Sensor and value behind 0x2500:01; the tile behind 0x2500:04. -/
def State.hottest (s : State) : Nat := s.hottestOf s.counted
def State.hottestTile (s : State) : Nat := s.hottestOf (List.range 256)

/-- Orthogonal neighbours of a tile. -/
def tileNeighbours (k : Nat) : List Nat :=
  (if k % 16 = 0 then [] else [k - 1]) ++ (if k % 16 = 15 then [] else [k + 1])
  ++ (if k < 16 then [] else [k - 16]) ++ (if 240 ≤ k then [] else [k + 16])

/-- The reading differs by more than 25 °C from the mean of the available neighbours (R384). -/
def State.deviates (s : State) (k : Nat) (v : Int) : Bool :=
  let ns := (tileNeighbours k).filter (fun n => !s.sensorFaulty n)
  let sum : Int := (ns.map s.reading).sum
  !ns.isEmpty && decide (250 * (ns.length : Int) < (v * ns.length - sum).natAbs)

/-- A quarantine asked for by the device: at the next bell, or at once while no plan runs (R75). -/
def State.askQuarantine (s : State) (k detail : Nat) : State :=
  match (s.tile k).mode with
  | .active | .gatedRetain | .gatedOff =>
    let s := s.onTile k (fun x => { x with requests := x.requests ++ [(1, detail)] })
    if s.running then s else s.serveRequests k
  | _ => s

/-- A sensor becomes faulty (R384). -/
def State.sensorFails (s : State) (k : Nat) : State :=
  if s.sensorFaulty k then s
  else
    let s := { s with thermal := { s.thermal with faulty := s.thermal.faulty ++ [k] } }
    if k < 256 then s.askQuarantine k 5
    else
      let d := s.thermalDemand
      s.raise 0x9001 (sensorSource k) (5 * 2 ^ 24 + d * 256 + d)

/-- One sample of a sensor. -/
def State.thermalSample (s : State) (k : Nat) (reading : Option Int) : State :=
  match reading with
  | none => s.sensorFails k
  | some v =>
    let n := if k < 256 ∧ s.deviates k v then (assocGet k s.thermal.deviates).getD 0 + 1 else 0
    let s := { s with thermal := { s.thermal with
      reading := vmod s.thermal.reading k (fun _ => v),
      deviates := if n = 0 then assocDel k s.thermal.deviates else assocPut k n s.thermal.deviates } }
    if 16 ≤ n then s.sensorFails k else s

/-- THERMAL_SAMPLE (R383, R384). -/
def execThermalSample (sensor : Fin 264) (reading : Option Int) (s : State) : Result :=
  runLive (fun s => s.thermalSample sensor reading) s

/-! ## Trip (R388) -/

/-- THERMAL_TRIP (R388): it acts without DMF; only the log needs it. -/
def execThermalTrip (sensor : Fin 264) (reading : Int) (s : State) : Result :=
  run (fun s =>
    if s.boot.released ∧ 1150 ≤ reading ∧ ¬ s.sensorFaulty sensor then
      let s := { s with thermal := { s.thermal with reading := vmod s.thermal.reading sensor (fun _ => reading), tripped := true } }
      let s := s.tripSinks
      let s := (if s.running then s.stopPlan else s).peerReset
      let s := { s.emit (.avsWrite 600) with power := { s.power with vddMv := 600 } }
      s.raise 0x9003 (sensorSource sensor) (unsignedOf 16 reading)
    else s) s

/-- TRIP_COOLDOWN_END (R388). -/
def execTripCooldownEnd (s : State) : Result :=
  runLive (fun s =>
    if s.thermal.tripped ∧ s.reading s.hottest < 950 then { s with thermal := { s.thermal with tripped := false } } else s) s

/-! ## The nibble's changes (R393) -/

/-- The three demands in the order of their causes. -/
def State.thermalParts (s : State) : List Nat := [s.thermal.forecast, s.thermal.measured, s.noFlowDemand]

/-- Cause of a change from `old` parts: the largest of the parts that changed, 0 where it cleared (R393). -/
def State.stepCause (s : State) (old : List Nat) : Nat :=
  let parts := s.thermalParts
  let changed := (List.range 3).filter (fun k => parts[k]? ≠ old[k]?)
  let best := changed.foldl (fun b k => if parts.getD b 0 < parts.getD k 0 then k else b) (changed.headD 0)
  if parts.getD best 0 = 0 then 0
  else if best = 0 then 1
  else if best = 2 then 4
  else if 10 * (s.obj 0x2500 6 : Int) ≤ s.reading s.hottest then 3
  else 2

/-- A change of the nibble is logged (R393) and sent towards the bellwether. `src` is the sensor for each cause (log 58). -/
def State.thermalStep (s : State) (old : List Nat) (oldDemand : Nat) (src : Nat → Nat) : State :=
  let d := s.thermalDemand
  if d = oldDemand then s
  else
    let c := s.stepCause old
    (s.raise 0x9001 (src c) (c * 2 ^ 24 + oldDemand * 256 + d)).refreshDemand

/-! ## Flow and heat (R385 to R387, R394) -/

/-- FLOW0_EDGE (R386): pulses older than a second are forgotten. -/
def execFlow0Edge (t : Nat) (s : State) : Result :=
  runLive (fun s =>
    let s := s.clock t
    { s with thermal := { s.thermal with pulses := t :: s.thermal.pulses.filter (fun u => decide (t < u + 1000000000)) } }) s

/-- A valid NTC reading, in 0.01 °C (R385). -/
def ntcValid : Option Int → Option Int
  | some v => if -2000 ≤ v ∧ v ≤ 12000 then some v else none
  | none => none

/-- Flow in mL/min (R386). -/
def State.flowOf (s : State) (pulses : Nat) : Nat :=
  (readout 0x2510 3 ((pulses : Rat) * 60000 / (s.obj 0x2510 4 : Rat))).toNat

/-- Heat removal in W, rounded to nearest (R387). -/
def State.heatOf (s : State) (flow : Nat) : Option Int → Option Int → Nat
  | some tin, some tout =>
    let q : Rat := (s.obj 0x2510 7 : Rat) * (flow : Rat) / 60000000 * (s.obj 0x2510 6 : Rat) * ((tout - tin : Int) : Rat) / 100
    (q + 1 / 2).floor.toNat
  | _, _ => 0

/-- The flow has stayed low for 2 s (R394). -/
def State.flowLow (s : State) : Bool :=
  match s.thermal.lowSince with
  | some l => decide (l + 2000000000 ≤ s.now)
  | none => false

/-- The flow has stayed at or above the minimum for 2 s (R394). -/
def State.flowOk (s : State) : Bool :=
  match s.thermal.okSince with
  | some l => decide (l + 2000000000 ≤ s.now)
  | none => false

/-- COOLANT_FLOW_LOW is logged and the no-flow demand posted (R394). -/
def State.noFlowPost (s : State) (source cause : Nat) : State :=
  let old := s.thermalParts
  let d := s.thermalDemand
  let s := s.raise 0x9002 source (cause * 2 ^ 24 + s.thermal.flow % 2 ^ 16)
  let s := { s with thermal := { s.thermal with noFlow := true } }
  s.thermalStep old d (fun _ => source)

/-- The no-flow demand clears (R394). -/
def State.noFlowClear (s : State) : State :=
  if s.thermal.noFlow ∧ s.thermal.inlet.isSome ∧ (s.flowOk ∨ s.obj 0x2510 5 = 0) then
    let old := s.thermalParts
    let d := s.thermalDemand
    let s := { s with thermal := { s.thermal with noFlow := false } }
    s.thermalStep old d (fun _ => 0x1AA)
  else s

/-- The 100 ms update of flow, heat and NTCs (R385 to R387). -/
def State.flowUpdate (s : State) (inlet outlet : Option Int) (t : Nat) : State :=
  let s := s.clock t
  let inFailed := s.thermal.inlet.isSome && (ntcValid inlet).isNone
  let outFailed := s.thermal.outlet.isSome && (ntcValid outlet).isNone
  let pulses := s.thermal.pulses.filter (fun u => decide (t < u + 1000000000))
  let flow := s.flowOf pulses.length
  let low := decide (flow < s.obj 0x2510 5)
  let keep (x : Option Nat) : Option Nat := if x.isSome then x else some t
  let s := { s with thermal := { s.thermal with
    pulses := pulses, flow := flow, inlet := ntcValid inlet, outlet := ntcValid outlet,
    heat := s.heatOf flow (ntcValid inlet) (ntcValid outlet),
    lowSince := if low then keep s.thermal.lowSince else none,
    okSince := if low then none else keep s.thermal.okSince } }
  let s := if inFailed then s.noFlowPost 0x1A8 2 else s
  let s := if outFailed then s.raise 0x9002 0x1A9 (3 * 2 ^ 24 + s.thermal.flow % 2 ^ 16) else s
  s.noFlowClear

/-- FLOW_UPDATE (R385, R386, R387). -/
def execFlowUpdate (inletCenti outletCenti : Option Int) (t : Nat) (s : State) : Result :=
  runLive (fun s => s.flowUpdate inletCenti outletCenti t) s

/-- COOLANT_FLOW_LOW (R394): once for each loss of flow. -/
def execCoolantFlowLow (s : State) : Result :=
  runLive (fun s => if s.flowLow ∧ ¬ s.thermal.noFlow then s.noFlowPost 0x1AA 1 else s) s

/-! ## The governor (R389 to R392) -/

/-- Block of a tile (Table PLAN-7). -/
def blockOf (k : Nat) : Nat := 4 * (k / 16 / 4) + k % 16 / 4

/-- The tile is active at bell `b` under the tier's tile mask and rotation groups (R44, R76). -/
def Tier.uses (t : Tier) (b k : Nat) : Bool :=
  bitOf t.entry.tileMask k && t.groups.all (fun g => !g.tiles.contains k || g.runs b k)

/-- The thermal coefficients of a bell: m·c in W/K and the decay over one period (R389). -/
def State.mc (s : State) : Rat :=
  (s.obj 0x2510 7 : Rat) * (max s.thermal.flow 100 : Nat) / 60000000 * (s.obj 0x2510 6 : Rat)
def State.decay (s : State) : Rat := Config.expRat (-(s.periodNs : Rat) / 20000000)

/-- Steady state of a tile for a record, °C, without its correction (R389). `n` is the number of active tiles of its block. -/
def steady (mc tin : Rat) (r : PowerRecord) (k n : Nat) (active : Bool) : Rat :=
  let pBlk : Rat := (r.blocks.getD (blockOf k) 0 : Nat) / 100
  let pDev : Rat := ((r.blocks.sum + r.uncore : Nat) : Rat) / 100
  let pTile : Rat := if active ∧ n ≠ 0 then pBlk / (n : Rat) else 0
  tin + pDev * (8 / 100 + 1 / (2 * mc)) + 20 / 100 * pBlk + 2 * pTile

/-- One bell of the model over the temperatures `ts` of all tiles (R389): the tier in force at bell `b`, its record, the inlet. -/
def State.modelBell (s : State) (tin : Rat) (tier : Tier) (rec : Nat) (b : Nat) (ts : List Rat) : List Rat :=
  let r := tier.profile.getD (rec % tier.profile.length) {}
  let use := (List.range 256).map (tier.uses b)
  let count (blk : Nat) : Nat := ((List.range 256).filter (fun k => blockOf k = blk && use.getD k false)).length
  let counts := (List.range 16).map count
  (List.range 256).map (fun k =>
    let ss := steady s.mc tin r k (counts.getD (blockOf k) 0) (use.getD k false) + (assocGet k s.thermal.correction).getD 0
    ss + (ts.getD k 0 - ss) * s.decay)

/-- The largest of the temperatures of the tiles a tier uses at bell `b`, with the tile. -/
def hottestUsed (tier : Tier) (b : Nat) (ts : List Rat) (best : Option (Rat × Nat)) : Option (Rat × Nat) :=
  (List.range 256).foldl (fun best k =>
    if tier.uses b k then
      match best with
      | some (v, _) => if v < ts.getD k 0 then some (ts.getD k 0, k) else best
      | none => some (ts.getD k 0, k)
    else best) best

/-- The bells of a forecast from bell `b` on: `go h` is tier and record of bell `b`. -/
def State.forecastRun (s : State) (tin : Rat) (go : Nat → Tier × Nat) : (n h b : Nat) → List Rat → Option (Rat × Nat) →
    Option (Rat × Nat)
  | 0, _, _, _, best => best
  | n + 1, h, b, ts, best =>
    let (tier, rec) := go h
    let ts := s.modelBell tin tier rec (b + h) ts
    s.forecastRun tin go n (h + 1) b ts (hottestUsed tier (b + h) ts best)

/-- Tier and record that bell `b` + 1 follows: the pending tier where a switch is pending for it, else the tier in force (R391). -/
def State.nextTier (s : State) (p : Plan) : Option (Nat × Int) :=
  let b : Int := s.bell.count.toNat
  let k : Nat × Int := match s.plan.pending with
    | some w => if (w.bell : Int) = b + 1 then (w.tier, b + 1) else (s.plan.effective, s.plan.tierSince)
    | none => (s.plan.effective, s.plan.tierSince)
  if (p.tier? k.1).isSome then some k else none

/-- Forecast peak of tier `j` over the horizon (R391). -/
def State.peakOf (s : State) (p : Plan) (tin : Rat) (ts : List Rat) (j : Nat) : Option (Rat × Nat) :=
  let b := s.bell.count.toNat
  match s.nextTier p, p.tier? j with
  | some (k, since), some tj =>
    let tk := (p.tier? k).getD {}
    let go (h : Nat) : Tier × Nat :=
      if h = 1 ∨ j = k then (tk, ((b : Int) + h - since).toNat) else (tj, h - 2)
    s.forecastRun tin go (s.obj 0x2500 3) 1 b ts none
  | _, _ => none

/-- The inlet in °C; while it is faulty the manual names no value (log 60). -/
def State.inletC (s : State) : Rat × State :=
  match s.thermal.inlet with
  | some v => ((v : Rat) / 100, s)
  | none => let (x, s) := s.takeFree; ((x.toInt : Rat) / 100, s)

/-- The measured demand at a bell (R392). -/
def State.measuredNext (s : State) : Nat × Nat :=
  let h := s.reading s.hottest
  let step : Int := 10 * (s.obj 0x2500 2 : Int)
  let m := s.thermal.measured
  let poorer (e : Nat) : Nat := match s.plan.plan with
    | some p => p.poorer e
    | none => 7
  if 10 * (s.obj 0x2500 6 : Int) ≤ h then (7, 0)
  else if m = 0 then (if step ≤ h then (poorer s.plan.effective, 0) else (0, 0))
  else if h < step - 30 then (0, 0)
  else if step ≤ h then
    (if s.thermal.hotBells + 1 = s.obj 0x2500 3 then (poorer m, 0) else (m, s.thermal.hotBells + 1))
  else (m, s.thermal.hotBells)

/-- The forecast demand, with the peak of every present tier at hand (R392). -/
def forecastDemand (p : Plan) (step : Rat) (now : Nat) (peak : Nat → Option (Rat × Nat)) : Nat :=
  (p.present.find? (fun j => match peak j with
    | some (v, _) => decide (v < if j < now then step - 3 else step)
    | none => true)).getD 7

/-- The governor's evaluation at a bell (R390 to R392). -/
def State.thermalBell (s : State) : State :=
  match s.plan.plan with
  | none => s
  | some p =>
    let old := s.thermalParts
    let d := s.thermalDemand
    let measured (k : Nat) : Rat := (s.reading k : Rat) / 10
    let clamp (x : Rat) : Rat := if x < -20 then -20 else if 20 < x then 20 else x
    let corr := (List.range 256).map (fun k => (k, match assocGet k s.thermal.predicted with
      | some q => clamp ((assocGet k s.thermal.correction).getD 0 + (measured k - q) / 16)
      | none => 0))
    let s := { s with thermal := { s.thermal with correction := corr } }
    let (tin, s) := s.inletC
    let ts := (List.range 256).map measured
    let pred := match s.nextTier p with
      | some (k, since) => s.modelBell tin ((p.tier? k).getD {}) ((s.bell.count.toNat : Int) + 1 - since).toNat
          (s.bell.count.toNat + 1) ts
      | none => []
    let peak := s.peakOf p tin ts
    let (m, hot) := s.measuredNext
    let shown := match peak s.plan.effective with
      | some (v, _) => readout 0x2500 5 (v * 10)
      | none => s.thermal.peak
    let s := { s with thermal := { s.thermal with
      predicted := (List.range pred.length).map (fun k => (k, pred.getD k 0)),
      forecast := forecastDemand p (s.obj 0x2500 2 : Nat) s.thermal.forecast peak, measured := m, hotBells := hot,
      peak := shown } }
    let hotTile := match peak s.plan.effective with
      | some (_, k) => k
      | none => s.hottestTile
    s.thermalStep old d (fun c => if c = 1 then hotTile else if c = 4 then 0x1AA else sensorSource s.hottest)

end Sys2Proof.Machine
end

