-- ==== Sys2Proof/Machine/Mem.lean ====
section
/-!
DEFINITION. Memory and integrity (08): resident images and the golden store, the reload queue, the gleaner, self-refresh,
refresh events and the counters.
-/
namespace Sys2Proof.Machine

/-! ## Resident images (R77, R179 to R181) -/

/-- Footprint of a descriptor in bytes (R115). -/
def elemBytes (ety : Nat) : Nat := if ety < 0x10 then 1 else if ety < 0x20 then 2 else 4
def Desc.unitBytes (d : Desc) : Nat := if d.unit = 0 then 1 else if d.unit = 1 then 16 else if d.unit = 2 then 256 else 4096
def Desc.esize (d : Desc) : Nat := elemBytes d.ety
def Desc.dim (d : Desc) (k : Nat) : Nat := d.dims.getD k 1
/-- S_k for k from 1 to 4 (R115). -/
def Desc.stride (d : Desc) (k : Nat) : Nat := d.strides.getD (k - 1) 0 * d.unitBytes
/-- L and R of R115. -/
def Desc.runBytes (d : Desc) : Nat := d.dim 0 * d.esize
def Desc.padBytes (d : Desc) : Nat := cdiv d.runBytes 16 * 16
def Desc.footprint (d : Desc) : Nat :=
  ((List.range 4).map (fun k => (d.dim (k + 1) - 1) * d.stride (k + 1))).sum + d.padBytes

/-- Every tile that some present tier's rotation group `g` lists. -/
def Plan.groupTiles (p : Plan) (g : Nat) : List Nat :=
  p.present.flatMap (fun k => match p.tier? k with
    | some t => (t.groups.filter (fun x => x.ident = g)).flatMap (fun x => x.tiles)
    | none => [])

/-- A placement is written into tile `k` (Table MEM-2). -/
def Plan.placedIn (p : Plan) (k : Nat) (x : Placement) : Bool :=
  (p.descs.getD x.desc {}).space = 0
  && (x.target = k || (decide (0x8000 ≤ x.target) && (p.groupTiles ((x.target - 0x8000) / 256)).contains k))

/-- The placements of a tile's resident image. -/
def Plan.image (p : Plan) (k : Nat) : List Placement := p.placements.filter (p.placedIn k)

/-- Bytes of a tile's resident image. -/
def Plan.imageBytes (p : Plan) (k : Nat) : Nat := ((p.image k).map (fun x => x.length)).sum

/-- Bytes copied between memories; a word of the source that delivers poison makes every word it touches poison (R182). -/
def copyInto (src : Memory) (from_ : Nat) (dst : Memory) (to_ len : Nat) : Memory :=
  let bs := src.readPoisoned emptyByte from_ len
  let dst := Memory.patch emptyByte (len + 1) dst to_ bs.1
  if bs.2 then
    (List.range len).foldl (fun m k =>
      if (src.readWord emptyByte ((from_ + k) / 8)).poison then m.poison emptyByte ((to_ + k) / 8) else m) dst
  else dst

/-- Resident image of tile `k` written over a cleared SRAM (R77, R181). -/
def State.writeImage (s : State) (p : Plan) (k : Nat) : State :=
  (p.image k).foldl (fun s x =>
    let from_ := s.mem.goldenBase + x.offset
    let s := s.noteBytes 0x100 from_ x.length
    let src := s.memory 0x100
    s.onMemory k (fun m => copyInto src from_ m (p.descs.getD x.desc {}).base x.length))
    (s.setMemory k {})

/-- Every placement written into its target at plan load (R179); every other tile byte is zero (R181). -/
def State.writePlacements (s : State) (p : Plan) : State :=
  let s := (List.range 256).foldl (fun s k => s.writeImage p k) s
  p.placements.foldl (fun s x =>
    let d := p.descs.getD x.desc {}
    let from_ := s.mem.goldenBase + x.offset
    let s := if d.space = 0 then s else s.noteBytes 0x100 from_ x.length
    let src := s.memory 0x100
    if d.space = 2 then
      s.onMemory 0x100 (fun m => copyInto src from_ m ((p.parts.getD x.target {}).winBase + d.base) x.length)
    else if d.space = 3 then s.onMemory 0x110 (fun m => copyInto src from_ m d.base x.length)
    else s) s

/-! ## Who is still at work (R19, R96, R198) -/

/-- Owner of a tile in the tier in force (R203). -/
def State.tileOwner (s : State) (k : Nat) : Option Nat :=
  match s.tier? with
  | some t => let o := t.ownership.getD k 0xFF; if o = 0xFF then none else some o
  | none => none

/-- The tile counts as having reached its end-of-tick marker: it has, or nothing runs on it (R78, R376). -/
def State.atMarker (s : State) (k : Nat) : Bool :=
  let x := s.tile k
  x.mode ≠ .active || x.forReset || x.seq.eot

/-- Tiles of partition `p` that have not reached their marker. -/
def State.missing (s : State) (p : Nat) : List Nat :=
  if (vget s.parts p {}).skipTick then []
  else (List.range 256).filter (fun k => s.tileOwner k = some p && !s.atMarker k)

/-- The partition is still short of its marker (R19). -/
def State.partBusy (s : State) (p : Nat) : Bool := !(s.missing p).isEmpty

/-- The tile belongs to a partition still short of its marker (R19, R198). -/
def State.stillBusy (s : State) (k : Nat) : Bool := (s.tileOwner k).any s.partBusy

/-! ## The reload queue (R195 to R197) -/

/-- A 4 KiB block of a RELOADABLE region joins the queue, if there is room and it is not queued. The second part says whether it is
queued now. -/
def State.queueReload (s : State) (k a : Nat) : State × Bool :=
  let blk : ReloadBlock := ⟨k, a / 4096 * 4096⟩
  match (s.tile k).regionAt a with
  | some (_, r) =>
    if !r.reloadable then (s, false)
    else if s.mem.reload.contains blk then (s, true)
    else if s.mem.reload.length < 64 then ({ s with mem := { s.mem with reload := s.mem.reload ++ [blk] } }, true)
    else (s, false)
  | none => (s, false)

/-- One block rewritten from the golden store (R180, R196, R197). -/
def State.reloadBlock (s : State) (b : ReloadBlock) : State :=
  match (s.tile b.tile).regionAt b.addr with
  | none => s
  | some (i, r) =>
    let from_ := s.mem.goldenBase + r.golden + (b.addr - r.base)
    let s := s.noteBytes 0x100 from_ 4096
    let src := s.memory 0x100
    let bad := (src.readPoisoned emptyByte from_ 4096).2
    let s := s.onMemory b.tile (fun m => copyInto src from_ (m.writeWords emptyByte (b.addr / 8) (List.replicate 512 ⟨0, false⟩))
      b.addr 4096)
    s.raise 0x3005 b.tile (r.owner * 2 ^ 27 + i * 2 ^ 23 + (if bad then 2 ^ 22 else 0) + b.addr / 8 % 2 ^ 17)

/-- Blocks served in order within a budget; a block of a busy partition waits (R198). The answer is the bytes left. -/
def State.serveReloads (s : State) : (bs : List ReloadBlock) → (budget : Nat) → State × Nat
  | [], budget => (s, budget)
  | b :: bs, budget =>
    if budget < 4096 then (s, budget)
    else if s.stillBusy b.tile then s.serveReloads bs budget
    else
      let s := { s with mem := { s.mem with reload := s.mem.reload.erase b } }
      (s.reloadBlock b).serveReloads bs (budget - 4096)

/-- Readmission and reset loads take what is left of the budget, in tile order (R81, R440). -/
def State.serveLoads (s : State) (p : Plan) : (ks : List Nat) → (budget : Nat) → State
  | [], _ => s
  | k :: ks, budget =>
    match (s.tile k).rebuild with
    | .load n =>
      let m := min n budget
      let s := s.onTile k (fun x => { x with rebuild := .load (n - m) })
      let s := if n - m = 0 ∧ (s.tile k).forReset then (s.writeImage p k).onTile k (fun x => { x with rebuild := .aligned }) else s
      s.serveLoads p ks (budget - m)
    | _ => s.serveLoads p ks budget

/-- Tiles of a partition reset are scrubbed in the slot; their loads start in the next one (R440, R81). -/
def State.scrubReset (s : State) (p : Plan) : State :=
  (List.range 256).foldl (fun s k =>
    if (s.tile k).forReset && (s.tile k).rebuild = .scrub then
      (s.setMemory k {}).onTile k (fun x => { x with rebuild := .load (p.imageBytes k) })
    else s) s

/-! ## The gleaner (R173, R193 to R195) -/

/-- The partition whose window holds an LP5X address (R204). -/
def State.windowOwner (s : State) (a : Nat) : Option Nat :=
  firstPart (fun p => s.present p && decide ((s.partEntry p).winBase ≤ a ∧ a < (s.partEntry p).winBase + (s.partEntry p).winSize)) 32

/-- An LP5X address lies in the golden store (R179). -/
def State.inGolden (s : State) (a : Nat) : Bool :=
  match s.plan.plan with
  | some p => decide (s.mem.goldenBase ≤ a ∧ a < s.mem.goldenBase + p.goldenLength)
  | none => false

/-- Owner of a word, for the finding's detail and the memory-event tally. -/
def State.wordOwner (s : State) (code word : Nat) : Option Nat :=
  if code < 256 then ((s.tile code).regionAt (8 * word)).map (fun r => r.2.owner)
  else if code = 0x110 then s.mailboxOwner (8 * word / 131072)
  else if s.inGolden (8 * word) then none
  else s.windowOwner (8 * word)

/-- Detail of GLEANER_UNCORRECTABLE (Table MEM-5). -/
def State.findingDetail (s : State) (code word : Nat) (queued : Bool) : Nat :=
  let own := (s.wordOwner code word).getD 0 * 2 ^ 27
  if code < 256 then
    own + ((s.tile code).regionAt (8 * word)).elim 0 (fun r => r.1) * 2 ^ 23 + (if queued then 2 ^ 22 else 0) + word % 2 ^ 17
  else if code = 0x110 then own + word % 2 ^ 20
  else own + (if s.inGolden (8 * word) then 2 ^ 26 else 0) + 8 * word / 4096 % 2 ^ 24

/-- The gleaner meets a word that is not a clean codeword (R194, R195). -/
def State.gleanWord (s : State) (code word : Nat) : State :=
  match (s.memory code).mark word with
  | some .correctable => (s.onMemory code (fun m => m.setMark word none)).countCorrected code word
  | some .poison => if code < 256 then (s.queueReload code (8 * word)).1 else s
  | some .uncorrectable =>
    let s := s.onMemory code (fun m => m.poison emptyByte word)
    if s.mem.rewrite.contains (code, word) then s
    else
      let s := s.countUncorrectable code
      let (s, queued) := if code < 256 then s.queueReload code (8 * word) else (s, false)
      let s := s.raise 0x3004 (s.memSource code word) (s.findingDetail code word queued)
      match s.wordOwner code word with
      | some p => { s with mem := { s.mem with memEvents := s.mem.memEvents ++ [p] } }
      | none => s
  | none => s

/-- Words with a mark in a memory, ascending. -/
def State.marked (s : State) (code : Nat) (f : Nat → Bool) : List Nat := ((s.memory code).marks.map (fun m => m.1)).filter f

/-- Word `w` is among the `n` words from `ptr` on, in a memory of `total` words patrolled round and round (R17, R193). -/
def patrolled (ptr n total w : Nat) : Bool := decide ((w + total - ptr) % total < n)

/-- A maintenance action skips the word: its partition is short of its marker (R19). Of tile SRAM the tile's owner counts, of a mailbox
and of an LP5X window theirs. -/
def State.wordBusy (s : State) (code word : Nat) : Bool :=
  if code < 256 then s.stillBusy code else (s.wordOwner code word).any s.partBusy

/-- Words queued by a read are rewritten as poison in the next slot (R173). -/
def State.rewriteQueued (s : State) : State :=
  let go := s.mem.rewrite.filter (fun x => !s.wordBusy x.1 x.2)
  let stay := s.mem.rewrite.filter (fun x => s.wordBusy x.1 x.2)
  let s := go.foldl (fun s x => s.onMemory x.1 (fun m => if m.mark x.2 = some .uncorrectable then m.poison emptyByte x.2 else m)) s
  { s with mem := { s.mem with rewrite := stay } }

/-- The gleaner takes the words of one memory that it reaches, but those it skips (R19; the pointer passes over them, log 165). -/
def State.gleanWords (s : State) (code : Nat) (here : Nat → Bool) : State :=
  (s.marked code (fun w => here w && !s.wordBusy code w)).foldl (fun s w => s.gleanWord code w) s

/-- The patrol of one tile, `n` units of 16 bytes. -/
def State.patrolTile (s : State) (n k : Nat) : State :=
  let x := s.tile k
  if (x.mode = .active ∨ x.mode = .gatedRetain) ∧ ¬ s.stillBusy k then
    let s := s.gleanWords k (patrolled (2 * x.patrol) (2 * n) 98304)
    let s := s.onTile k (fun y => { y with patrol := (x.patrol + n) % 49152 })
    { s with mem := { s.mem with sramPasses := s.mem.sramPasses + BitVec.ofNat 32 ((x.patrol + n) / 49152) } }
  else s

/-- The patrol of the mailbox SRAM, 4,096 units. -/
def State.patrolMailbox (s : State) : State :=
  let ptr := s.mem.mailboxPatrol
  let s := s.gleanWords 0x110 (patrolled (2 * ptr) 8192 1048576)
  { s with mem := { s.mem with mailboxPatrol := (ptr + 4096) % 524288,
                               sramPasses := s.mem.sramPasses + BitVec.ofNat 32 ((ptr + 4096) / 524288) } }

/-- The patrol of one LP5X channel (R190: not in self-refresh). Which word a channel's byte is lies in Config (log 15). -/
def State.patrolChannel (s : State) (c : Nat) : State :=
  if s.mem.selfRefresh.contains c then s
  else
    let total := s.usable / 4
    let ptr := (assocGet c s.mem.lp5xPatrol).getD 0
    let n := s.obj 0x2610 3
    let here (w : Nat) : Bool := (Config.lp5xChannel s.usable (8 * w)).val = c
      && patrolled (ptr / 8) (n / 8) (total / 8) (Config.lp5xOffset s.usable (8 * w) / 8)
    let s := s.gleanWords 0x100 here
    { s with mem := { s.mem with lp5xPatrol := assocPut c ((ptr + n) % max total 1) s.mem.lp5xPatrol,
                                 lp5xPasses := s.mem.lp5xPasses + BitVec.ofNat 32 ((ptr + n) / max total 1) } }

/-- Units of one tile that the patrol reaches in a slot, at one unit per tile cycle (R193; log 147). -/
def State.patrolUnits (s : State) : Nat :=
  match s.tier? with
  | some t => min (s.obj 0x2610 2) (s.slotNs * clockMHz t.entry.clock / 1000)
  | none => s.obj 0x2610 2

/-- The gleaner's action in a slot (Table BELL-4 order 3). -/
def State.glean (s : State) : State :=
  let s := s.rewriteQueued
  if s.obj 0x2610 1 = 1 then
    let s := (List.range 256).foldl (fun s k => s.patrolTile s.patrolUnits k) s
    (List.range 4).foldl State.patrolChannel s.patrolMailbox
  else s

/-! ## Channels (R188 to R191) -/

/-- The tier's slot tables name an access to the channel (R190). -/
def Tier.namesChannel (t : Tier) (c : Nat) : Bool :=
  let mine (e : Nat) : Bool := e = 0x100 + 2 * c || e = 0x101 + 2 * c
  t.slots.any (fun e => mine e.source || mine e.dest)

/-- Self-refresh at the bell where a tier takes effect, and again at every bell for a channel woken for held requests (R190,
R191). -/
def State.selfRefresh (s : State) : State :=
  match s.tier? with
  | some t => { s with mem := { s.mem with selfRefresh := (List.range 4).filter (fun c => !t.namesChannel c) } }
  | none => s

/-- Channels leave self-refresh in a slot for held requests, which are served, and for the tier being prepared (R190, R191). -/
def State.wakeChannels (s : State) (next : Option Tier) : State :=
  let s := match next with
    | some t => { s with mem := { s.mem with selfRefresh := s.mem.selfRefresh.filter (fun c => !t.namesChannel c) } }
    | none => s
  if s.mem.held.isEmpty then s
  else
    let awake := s.mem.held.map (fun h => (Config.lp5xChannel s.usable h.offset).val)
    { s with mem := { s.mem with selfRefresh := s.mem.selfRefresh.filter (fun c => !awake.contains c) } }.serveHeld

/-- Additional refreshes of hot channels (R188). -/
def State.extraRefreshes (s : State) : State :=
  (List.finRange 4).foldl (fun s c => if s.mem.hot.contains c.val then s.emit (.extraRefresh c) else s) s

/-- FORCED_REFRESH (R189): the displaced accesses arrive as poison (PLANNED_FLIT_ARRIVAL). -/
def execForcedRefresh (c : Fin 4) (poisoned : Nat) (s : State) : Result :=
  runLive (fun s =>
    { s with mem := { s.mem with forcedRefresh := satAdd 32 s.mem.forcedRefresh 1 } }.raise 0x3007 (0x100 + c.val) poisoned) s

/-- DRAM_REFRESH_RATE_CHANGE (R188). -/
def execDramRefreshRateChange (c : Fin 4) (higher : Bool) (s : State) : Result :=
  runLive (fun s =>
    let rest := s.mem.hot.filter (· ≠ c.val)
    { s with mem := { s.mem with hot := if higher then rest ++ [c.val] else rest } }) s

/-- The counters of 0x2600 and 0x2620:09 cleared (R199). -/
def State.clearCounters (s : State) : State :=
  { s with mem := { s.mem with sramCorrected := 0, sramUncorrectable := 0, poisonConsumed := 0, lp5xCorrected := 0,
                               lp5xUncorrectable := 0, forcedRefresh := 0 },
           tiles := s.tiles.map (fun t => { t with ueCount := 0 }) }

/-- COUNTER_CLEAR (R199). -/
def execCounterClear (p : Principal) (s : State) : Result :=
  runLive (State.ownWrite p 0x2600 7 1 1 (fun s => .ok s.clearCounters)) s

end Sys2Proof.Machine
end

