-- ==== Sys2Proof/Machine/Tiles.lean ====
section
/-!
DEFINITION. Tiles at work (03 Tables TILE-5 to TILE-7): gating under the tier in force, tile commands, readmission, and partition
reset (09 R211, 20 R440).
-/
namespace Sys2Proof.Machine

/-! ## Gating at a bell (R76, R82) -/

/-- A readmitted tile waits for a switch to a richer tier, which only a recovery makes (R64), announced at its readmission bell or
later: two bells before it falls due (R82; that a switch to a richer tier is a recovery is DEDUCED, log 164). -/
def TileState.stillBenched (x : TileState) (b : Nat) (recovered wanted : Bool) : Bool :=
  match x.benched with
  | some since => !(recovered && wanted && decide (since + 2 ≤ (b : Int)))
  | none => false

/-- ACTIVE and GATED_RETAIN under the tier in force (Table TILE-6, R76): at a switch by its masks, else by its rotation groups. A
readmitted tile waits for a recovery (R82). With no tier in force, as under STOP, no tile is active. `before` is the tier before this
bell, none at bell 0, where no tile waits. -/
def State.gateTiles (s : State) (before : Option Nat) : State :=
  let b := s.bell.count.toNat
  let tier := s.tier?
  let switched := before ≠ some s.plan.effective
  let recovered := before.any (fun k => decide (s.plan.effective < k))
  let want (k : Nat) : Bool := match tier with
    | some t => s.takesPart t && t.uses b k
    | none => false
  let moved (k : Nat) : Bool := switched || match tier with
    | some t => t.groups.any (fun g => g.tiles.contains k)
    | none => false
  { s with tiles := Vector.ofFn (fun k : Fin 256 =>
      let x := s.tiles[k]
      let waits := before.isSome && x.stillBenched b recovered (want k.val)
      let x := if waits then x else { x with benched := none }
      match x.mode with
      | .active => if moved k.val && !want k.val then { x with mode := .gatedRetain, seq := {} } else x
      | .gatedRetain => if moved k.val && want k.val && !waits then { x with mode := .active } else x
      | _ => x) }

/-- Every sequencer discards what it has not finished and starts from its first record (R23, R97). -/
def State.startSequencers (s : State) : State := { s with tiles := s.tiles.map (fun x => { x with seq := {} }) }

/-! ## Tile commands (R79) -/

/-- The command is accepted in the tile's state. -/
def commandOk (cmd : Nat) : TileMode → Bool
  | .active | .gatedRetain | .gatedOff => cmd = 1 || cmd = 3
  | .testing => cmd = 1 || cmd = 3
  | .quarantined => cmd = 2 || cmd = 3
  | .outOfService => false

/-- An accepted tile command waits for the bell, or acts at once while no plan runs (R79). -/
def State.tileCommand (p : Principal) (cmd : Nat) (s : State) : Except Nat State :=
  let k := (s.copyOf p).tileSelect.val
  if !commandOk cmd (s.tile k).mode then .error abortRule
  else
    let s := s.onTile k (fun x => { x with requests := x.requests ++ [(cmd, 4)] })
    .ok (if s.running then s else s.serveRequests k)

/-- TILE_CMD_QUARANTINE (R79). -/
def execTileCmdQuarantine (p : Principal) (s : State) : Result :=
  runLive (State.ownWrite p 0x2620 3 1 1 (State.tileCommand p 1)) s

/-- TILE_CMD_READMIT (R79). -/
def execTileCmdReadmit (p : Principal) (s : State) : Result :=
  runLive (State.ownWrite p 0x2620 3 1 2 (State.tileCommand p 2)) s

/-- TILE_CMD_OUT_OF_SERVICE (R79). -/
def execTileCmdOutOfService (p : Principal) (s : State) : Result :=
  runLive (State.ownWrite p 0x2620 3 1 3 (State.tileCommand p 3)) s

/-! ## Readmission (R80, R81) -/

/-- A step of readmission ends: while no plan runs, step 5 needs no bell (R81). -/
def State.aligned (s : State) (k : Nat) : State :=
  let s := s.onTile k (fun x => { x with rebuild := .aligned })
  if s.running then s else s.alignTile k

/-- A failed self-test: to QUARANTINED, the third in a row to OUT_OF_SERVICE, at the next bell or at once (Tables TILE-6,
TILE-7). -/
def State.selfTestFailed (s : State) (k : Nat) : State :=
  let n := (s.tile k).failCount + 1
  let req := if n < 3 then (1, 1) else (3, 1)
  let s := s.onTile k (fun x => { x with failCount := n, rebuild := .none, requests := x.requests ++ [req] })
  if s.running then s else s.serveRequests k

/-- READMISSION_SELF_TEST_DONE (R80 step 2). -/
def execReadmissionSelfTestDone (tile : TileNo) (pass : Bool) (s : State) : Result :=
  runLive (fun s =>
    if (s.tile tile).mode = .testing ∧ (s.tile tile).rebuild = .selfTest then
      (if pass then s.onTile tile (fun x => { x with failCount := 0, rebuild := .scrub }) else s.selfTestFailed tile)
    else s) s

/-- READMISSION_SCRUB_DONE (R80 step 3): every word zero with valid check bits; the load is skipped when no present tier uses the
tile. -/
def execReadmissionScrubDone (tile : TileNo) (s : State) : Result :=
  runLive (fun s =>
    if (s.tile tile).mode = .testing ∧ (s.tile tile).rebuild = .scrub then
      let s := s.setMemory tile {}
      match s.plan.plan with
      | some p =>
        if p.usesTile tile then s.onTile tile (fun x => { x with rebuild := .load (p.imageBytes tile) }) else s.aligned tile
      | none => s.aligned tile
    else s) s

/-- READMISSION_LOAD_DONE (R80 step 4, R81): the slots have served the whole image, or no plan runs; with none loaded there is nothing
to load. -/
def execReadmissionLoadDone (tile : TileNo) (s : State) : Result :=
  runLive (fun s =>
    match (s.tile tile).mode, (s.tile tile).rebuild, s.plan.plan with
    | .testing, .load n, some p => if n = 0 ∨ ¬ s.running then (s.writeImage p tile).aligned tile else s
    | .testing, .load _, none => s.aligned tile
    | _, _, _ => s) s

/-! ## Partition reset (R211, R440) -/

/-- The binding's sink keeps its value marked stale (Table BELL-5). -/
def State.sinkStale (s : State) (b : Binding) : State :=
  if b.kind = 1 then s.mandibleWithheld b.index
  else if b.kind = 3 then s.onMailbox b.index (fun x => { x with stale := true })
  else if b.kind = 4 then s.onCamera b.index (fun c => { c with stale := true })
  else s

/-- Tiles that the ownership map of the tier in force gives to `p`. -/
def State.tilesOf (s : State) (p : Nat) : List Nat := (List.range 256).filter (fun k => s.tileOwner k = some p)

/-- The back buffers of a partition's mailboxes are emptied; their published generations stay (R440). -/
def State.emptyBackBuffers (s : State) (p : Nat) : State :=
  (List.range 64).foldl (fun s m =>
    if s.mailboxOwner m = some p then s.onMailbox m (fun x => { x with back := .empty, backLength := 0, backPoisoned := false })
    else s) s

/-- A partition reset at its bell (R440). -/
def State.resetPartition (s : State) (p : Nat) : State :=
  let ks := s.tilesOf p
  let s := ks.foldl (fun s k =>
    if (s.tile k).mode.unusable then s
    else (s.resetTile k).onTile k (fun x => { x with forReset := true, rebuild := .scrub })) s
  let s := (s.clearPartTallies p).emptyBackBuffers p
  let s := match s.tier? with
    | some t => (t.bindings.filter (fun (x : Binding) => x.owner = p)).foldl State.sinkStale s
    | none => s
  s.onPart p (fun x => { x with resetRequest := false, resetting := true, rebuilt := ks.isEmpty, overruns := 0, overrun := false,
                                failed := false, prevBad := true })

/-- Partition resets at a bell: those whose last tile is rewritten end, those requested begin (R440). -/
def State.partitionResets (s : State) : State :=
  (List.range 32).foldl (fun s p =>
    let x := vget s.parts p {}
    if x.resetting && x.rebuilt then
      let s := (s.tilesOf p).foldl (fun s k => s.onTile k (fun y =>
        if y.forReset then { y with forReset := false, rebuild := .none } else y)) s
      s.onPart p (fun x => { x with resetting := false, rebuilt := false, resetRequest := false })
    else if x.resetRequest && !x.resetting && s.present p then s.resetPartition p
    else s) s

/-- A request for a partition reset: of no effect while one runs, and with no bell to come (R440; log 62). -/
def State.askReset (p : Nat) (s : State) : Except Nat State :=
  if p = 0 then .error abortState
  else .ok (if s.running ∧ s.present p then s.onPart p (fun x => { x with resetRequest := !x.resetting }) else s)

/-- PARTITION_RESET_REQUEST (R211). -/
def execPartitionResetRequest (p : Principal) (part : PartNo) (s : State) : Result :=
  runLive (State.ownWrite p (0x2300 + part.val) 8 1 1 (State.askReset part.val)) s

/-- PARTITION_REBUILT (R440): the last tile is rewritten; the partition runs from the next bell. -/
def execPartitionRebuilt (p : PartNo) (s : State) : Result :=
  runLive (fun s =>
    if (vget s.parts p {}).resetting ∧ (s.tilesOf p).all (fun k => !(s.tile k).forReset || (s.tile k).rebuild = .aligned) then
      s.onPart p (fun x => { x with rebuilt := true })
    else s) s

end Sys2Proof.Machine
end

