-- ==== Sys2Proof/Machine/Operands.lean ====
section
/-!
DEFINITION. Operand forms (04 R90, R102; 05): descriptors and their elements, override slots, what reading and writing a tile's SRAM
checks (R68, R173 to R177, R186), failing a tick (R69), and storing results (R91, R122, R170, R171).
-/
namespace Sys2Proof.Machine

/-! ## Elements of a descriptor (R115) -/

/-- Product of the dimensions below `k`. -/
def Desc.below (d : Desc) (k : Nat) : Nat := (List.range k).foldl (fun a i => a * d.dim i) 1

/-- Number of elements. -/
def Desc.count (d : Desc) : Nat := d.below 5

/-- Index `i_k` of linear element `e`. -/
def Desc.coord (d : Desc) (e k : Nat) : Nat := e / d.below k % d.dim k

/-- Innermost runs, and where run `j` starts relative to the base. -/
def Desc.rows (d : Desc) : Nat := d.count / d.dim 0
def Desc.offset (d : Desc) (e : Nat) : Nat :=
  d.coord e 0 * d.esize + ((List.range 4).map (fun k => d.coord e (k + 1) * d.stride (k + 1))).sum
def Desc.rowOffset (d : Desc) (j : Nat) : Nat := d.offset (j * d.dim 0)

/-- Tile address of the base, and endpoint code of a space 1 base (Table LAYOUT-3). -/
def Desc.tileBase (d : Desc) : Nat := d.base % 2 ^ 20
def Desc.endpoint (d : Desc) : Nat := d.base / 2 ^ 20 % 2 ^ 16

/-- Address of element `e`, from a base address. -/
def Desc.addr (d : Desc) (e : Nat) : Nat := d.tileBase + d.offset e

/-- Padded byte ranges of the runs, as tile addresses. -/
def Desc.runs (d : Desc) : List (Nat × Nat) := (List.range d.rows).map (fun j => (d.tileBase + d.rowOffset j, d.padBytes))

/-- SRAM banks that the runs touch (R66). -/
def Desc.banks (d : Desc) : List Nat :=
  (List.range 24).filter (fun b => d.runs.any (fun r => decide (r.1 < (b + 1) * 0x8000 ∧ b * 0x8000 < r.1 + r.2)))

/-- Every word that a read from a base address fetches, pad words among them (R122). -/
def Desc.fetchedAt (d : Desc) (base : Nat) : List Nat :=
  ((List.range d.rows).flatMap (fun j =>
    let a := base + d.rowOffset j
    (List.range ((a + d.padBytes + 7) / 8 - a / 8)).map (fun i => a / 8 + i))).eraseDups

def Desc.fetched (d : Desc) : List Nat := d.fetchedAt d.tileBase

/-- Words that carry elements; pad words are fetched and feed none (R122). -/
def Desc.words (d : Desc) : List Nat :=
  ((List.range d.rows).flatMap (fun j =>
    let a := d.tileBase + d.rowOffset j
    (List.range ((a + d.runBytes + 7) / 8 - a / 8)).map (fun i => a / 8 + i))).eraseDups

/-- A value and its poison flag. -/
abbrev Elem := Num × Bool

/-- The code of element `e` and its poison flag. -/
def TileState.code (x : TileState) (d : Desc) (e : Nat) : Nat × Bool :=
  let a := d.addr e
  let w := x.sram.readWord emptyByte (a / 8)
  if w.poison then (0, true) else (leNat (x.sram.read emptyByte a d.esize), false)

/-- Element `e`, widened to 32 bits. -/
def TileState.elem (x : TileState) (d : Desc) (e : Nat) : Elem :=
  let c := x.code d e
  (widen d.ety c.1, c.2)

/-- The descriptor's bytes, run by run, pad bytes as zero (R106, R122). A word that reads as poison is flagged, one that holds only pad
bytes too where `pads` says so: a transfer carries the flag of every word (R182), a commit leaves pad words out (R183). -/
def Memory.bytesOf (m : Memory) (base : Nat) (d : Desc) (pads : Bool) : List (Byte × Bool) :=
  (List.range d.rows).flatMap (fun j =>
    let a := base + d.rowOffset j
    (List.range d.padBytes).map (fun i =>
      if (m.readWord emptyByte ((a + i) / 8)).poison then (0, pads || decide (i < d.runBytes))
      else (if i < d.runBytes then m.byte emptyByte (a + i) else 0, false)))

/-- Bytes as words; a word with a poisoned byte is flagged. -/
def packWords : (fuel : Nat) → List (Byte × Bool) → List FWord
  | 0, _ => []
  | _, [] => []
  | fuel + 1, bs =>
    let w := bs.take 8
    let p := w.any (fun b => b.2)
    ⟨if p then 0 else BitVec.ofNat 64 (leNat (w.map (fun b => b.1))), p⟩ :: packWords fuel (bs.drop 8)

/-- A descriptor's content as words for a transfer; `pads` as in `Memory.bytesOf`. -/
def Memory.wordsOf (m : Memory) (base : Nat) (d : Desc) (pads : Bool) : List FWord :=
  let bs := m.bytesOf base d pads
  packWords bs.length bs

/-! ## Records and their operands (R89, R90, R97) -/

/-- What fixes a record's meaning beside the record: tile, executor code, counters of loop levels 1 to 3, issues made earlier in the
tick, the plan's ID and the bell count. -/
structure RecordCtx where
  tile : Nat
  executor : Nat
  counters : List Nat
  issues : Nat
  planId : U64
  bell : U64
deriving DecidableEq, Repr

/-- Counter of loop level `l`; level 0 adds nothing. -/
def RecordCtx.counter (c : RecordCtx) (l : Nat) : Nat := if l = 0 then 0 else c.counters.getD (l - 1) 0

/-- Advance code of operand `i`, A to D as 0 to 3 (Table OPS-3). -/
def OpRecord.advance (r : OpRecord) (i : Nat) : Nat := bitsOf r.flags (8 + 2 * i) 2

def OpRecord.field (r : OpRecord) (i : Nat) : Nat := [r.a, r.b, r.c, r.d].getD i 0xFFFF

def OpRecord.flag (r : OpRecord) (b : Nat) : Bool := bitOf r.flags b

/-- What a descriptor field names (R90): nothing, an override slot, or a descriptor of the plan with its advance. -/
def State.descAt (s : State) (k field add : Nat) : Option Desc :=
  if field = 0xFFFF then none
  else if 0xFFF0 ≤ field ∧ field ≤ 0xFFF7 then assocGet (field - 0xFFF0) (s.tile k).slots
  else s.plan.plan.bind (fun p => p.descs[field + add]?)

/-- Operand `i` of a record. -/
def State.operand (s : State) (c : RecordCtx) (r : OpRecord) (i : Nat) : Option Desc :=
  s.descAt c.tile (r.field i) (c.counter (r.advance i))

/-- Override slots that a record's fields name (R93). -/
def OpRecord.slotsNamed (r : OpRecord) : List Nat :=
  (([r.a, r.b, r.c, r.d] ++ (if r.opcode = 0x15 then [r.imm2 % 65536, r.imm2 / 65536]
      else if r.opcode = 0x40 ∨ r.opcode = 0x42 then [r.imm2 % 65536] else [])).filter
    (fun f => decide (0xFFF0 ≤ f ∧ f ≤ 0xFFF7))).map (fun f => f - 0xFFF0)

/-! ## Failing a tick (R69, R110) -/

/-- The partition performs no further operation in this tick and counts as overrun for it. -/
def State.failTick (s : State) (p : Nat) : State := s.onPart p (fun x => { x with failed := true })

/-- TENSOR_BOUNDS (Table OPS-6). -/
def State.tensorBounds (s : State) (tile p detail : Nat) : State := (s.failTick p).raise 0x2005 tile detail

/-! ## Reading and writing tile SRAM (R68, R173 to R177, R186) -/

/-- Every 16-byte unit of a byte range lies in a region of partition `p`; for a write, in one that is not protected. -/
def TileState.allows (x : TileState) (p : Nat) (write : Bool) (a n : Nat) : Bool :=
  (List.range ((a + n + 15) / 16 - a / 16)).all (fun i => match x.regionAt (16 * (a / 16 + i)) with
    | some (_, r) => r.owner = p && !(write && r.protected)
    | none => false)

/-- The check of R68 over a descriptor. -/
def TileState.allowsDesc (x : TileState) (p : Nat) (write : Bool) (d : Desc) : Bool :=
  d.runs.all (fun r => x.allows p write r.1 r.2)

/-- A word that reads as poison and lies in a FAULT region (R177). -/
def TileState.faultWord (x : TileState) (w : Nat) : Bool :=
  (x.sram.readWord emptyByte w).poison && (match x.regionAt (8 * w) with
    | some (_, r) => r.faultMode
    | none => false)

/-- The words of a list are read: errors are counted (R172, R173). -/
def State.noteEach (s : State) (k : Nat) (ws : List Nat) : State := ws.foldl (fun s w => s.noteRead k w) s

/-- The notes of a read (R172, R173, R186): corrections and uncorrectable words are counted, poison that reaches the operation too. -/
def State.noteOperands (s : State) (k : Nat) (ws : List Nat) : State :=
  ws.foldl (fun s w =>
    let m := (s.tile k).sram.mark w
    let s := s.noteRead k w
    if m = some .uncorrectable then (s.countPoison).logPoison k 1
    else if m = some .poison then s.countPoison
    else s) s

/-- A tile operation of partition `p` reads the operands `ds` of tile `k`. The second part says whether it got its data; if not the
partition has failed its tick (R68, R177). A transfer sends the words of a FAULT region with the poison flag instead. Errors in the words
fetched are counted, in those that hold only pad bytes too, but no poison of such a word is consumed, and it raises no fault
(R122, R172, R173; DEDUCED, log 173). -/
def State.useOperands (s : State) (k p : Nat) (ds : List Desc) (transfer : Bool) : State × Bool :=
  let x := s.tile k
  if !ds.all (x.allowsDesc p false) then (s.tensorBounds k p 1, false)
  else
    let all := (ds.flatMap Desc.fetched).eraseDups
    let ws := (ds.flatMap Desc.words).eraseDups
    if transfer then (s.noteEach k all, true)
    else match ws.find? x.faultWord with
      | some w => (((s.noteEach k all).failTick p).raise 0x3002 k w, false)
      | none => ((s.noteEach k (all.filter (fun w => !ws.contains w))).noteOperands k ws, true)

/-! ## Storing (R91, R94, R122, R170, R171) -/

/-- Bytes of an element write: address, byte, poison. -/
def ElemWrite.bytes (w : ElemWrite) : List (Nat × Byte × Bool) :=
  (List.range w.size).map (fun i => (w.addr + i, BitVec.ofNat 8 (w.value / 256 ^ i), w.poison))

/-- One word written with the bytes that fall into it: poison when one of them is; else recoded, whole or merged with what it held; a
word that holds poison and is written in part stays poison (R171; log 30). -/
def Memory.storeWord (m : Memory) (bs : List (Nat × Byte × Bool)) (w : Nat) : Memory :=
  let here := bs.filter (fun b => decide (b.1 / 8 = w))
  if here.any (fun b => b.2.2) then m.poison emptyByte w
  else if (m.readWord emptyByte w).poison && !((List.range 8).all (fun i => here.any (fun b => decide (b.1 = 8 * w + i)))) then m
  else (here.foldl (fun m b => m.setByte emptyByte b.1 b.2.1) m).setMark w none

/-- Element writes stored. -/
def Memory.store (m : Memory) (ws : List ElemWrite) : Memory :=
  let bs := ws.flatMap ElemWrite.bytes
  ((bs.map (fun b => b.1 / 8)).eraseDups).foldl (fun m w => m.storeWord bs w) m

/-- A tile writes elements as partition `p`; writes that fail R68 are not made, and fail the tick. -/
def State.storeTile (s : State) (k p : Nat) (ws : List ElemWrite) : State :=
  let x := s.tile k
  let ok := ws.filter (fun w => x.allows p true w.addr w.size)
  let s := s.onTile k (fun x => { x with sram := x.sram.store ok })
  if ok.length = ws.length then s else s.tensorBounds k p 1

/-- Rounding of destination element `e` (R91, R140). -/
def RecordCtx.rounding (c : RecordCtx) (r : OpRecord) (e : Nat) : Rounding :=
  if r.store % 4 = 1 then .stochastic (randomOf c.planId c.bell c.executor c.issues e) else .nearest

/-- Results as writes into destination `d`, with the pad bytes of its runs as zero (R122). -/
def RecordCtx.storeTo (c : RecordCtx) (r : OpRecord) (d : Desc) (xs : List Elem) : List ElemWrite :=
  (List.zipWith (fun (e : Nat) (x : Elem) =>
    (⟨d.addr e, d.esize, narrow d.ety (c.rounding r e) (bitOf r.store 2) x.1, x.2⟩ : ElemWrite)) (List.range d.count) xs)
  ++ (if d.padBytes = d.runBytes then []
      else (List.range d.rows).map (fun j => ⟨d.tileBase + d.rowOffset j + d.runBytes, d.padBytes - d.runBytes, 0, false⟩))

/-- Codes written as they are, for state operands and index results. -/
def storeCodes (d : Desc) (xs : List (Nat × Bool)) : List ElemWrite :=
  (List.zipWith (fun (e : Nat) (x : Nat × Bool) => (⟨d.addr e, d.esize, x.1, x.2⟩ : ElemWrite)) (List.range d.count) xs)
  ++ (if d.padBytes = d.runBytes then []
      else (List.range d.rows).map (fun j => ⟨d.tileBase + d.rowOffset j + d.runBytes, d.padBytes - d.runBytes, 0, false⟩))

/-- Every element of a destination written as poison (R101). -/
def storePoison (d : Desc) : List ElemWrite := storeCodes d (List.replicate d.count (0, true))

/-- Words of a transfer written into a descriptor of a memory, run by run from word `k` of the transfer on (R106). Pad bytes are written
as zero (R122), but in a flagged word, which is stored as the poison word whole (R171, R182). -/
def wordWrites (base : Nat) (d : Desc) (k : Nat) (ws : List FWord) : List ElemWrite :=
  (List.range (8 * ws.length)).filterMap (fun i =>
    let b := 8 * k + i
    let j := b / d.padBytes
    if j < d.rows then
      let w := ws.getD (i / 8) ⟨0, false⟩
      some ⟨base + d.rowOffset j + b % d.padBytes, 1, if b % d.padBytes < d.runBytes then w.data.toNat / 256 ^ (i % 8) % 256 else 0,
        w.poison⟩
    else none)

end Sys2Proof.Machine
end

