-- ==== Sys2Proof/Machine/Slots.lean ====
section
/-!
DEFINITION. The drove slot grid (10 R222, R223, R230) and the cells of a flow (R225, R231, R235).
-/
namespace Sys2Proof.Machine

/-- Blocks from the bell to the start of cell slot `j` (R222). -/
def slotBlocks (j : Nat) : Nat := 32 * j + 2 * (j / 8) + 2

/-- Whole blocks in a time; a block lasts 33/64 ns (Table DROVE-1). -/
def blocksIn (ns : Nat) : Nat := ns * 64 / 33

/-- Plan slots that end within so many blocks (R223). -/
def slotsWithin (x : Nat) : Nat :=
  if x < 34 then 0 else 8 * ((x - 34) / 258) + min 7 ((x - 34) % 258 / 32) + 1

/-- Plan slots of a tick (R223). -/
def State.planSlots (s : State) : Nat := slotsWithin (blocksIn (s.periodNs - s.slotNs))

/-- Cell slots of a tick: those that end by the next bell (R222). -/
def State.tickSlots (s : State) : Nat := slotsWithin (blocksIn s.periodNs)

/-- Blocks from the bell to the control position of frame `c` (R222). -/
def controlBlocks (c : Nat) : Nat := 258 * c

/-- Tile cycle at which slot `j` starts, at a tile clock in MHz. -/
def slotCycle (mhz j : Nat) : Nat := cdiv (slotBlocks j * 33 * mhz) 64000

/-- A plan slot is a retry slot under budget `b` (R230). -/
def isRetrySlot (b j : Nat) : Bool := decide (j * b / 1000 < (j + 1) * b / 1000)

/-- The `i`-th data slot at or after slot `j`. -/
def nthData (b : Nat) : (fuel i j : Nat) → Nat
  | 0, _, j => j
  | fuel + 1, i, j =>
    if isRetrySlot b j then nthData b fuel i (j + 1)
    else match i with
      | 0 => j
      | i + 1 => nthData b fuel i (j + 1)

/-- Slot of cell `i` of an entry whose first slot is `first` (R230). -/
def cellSlot (b first i : Nat) : Nat := nthData b (2 * i + 64) i first

/-- Cells of a flow of `n` bytes. -/
def cellCount (n : Nat) : Nat := cdiv n 240

/-- The cell number of an entry that owns a slot, if any (R230). -/
def cellAt (b first n j : Nat) : Option Nat :=
  if first = 0xFFFFFFFF ∨ isRetrySlot b j then none
  else
    let i := (j - j * b / 1000) - (first - first * b / 1000)
    if first ≤ j ∧ i < cellCount n then some i else none

/-- Parity of the bell count of the tick (R73). -/
def State.parity (s : State) : Bool := s.bell.count.toNat % 2 == 1

/-- Thirty words of poison, and thirty of zero. -/
def poisonCell : List FWord := List.replicate 30 ⟨0, true⟩

/-- Words of cell `i` of a flow; zeros beyond its data (R230). -/
def cellWords (ws : List FWord) (i : Nat) : List FWord :=
  let w := (ws.drop (30 * i)).take 30
  w ++ List.replicate (30 - w.length) ⟨0, false⟩

/-- Words of the first `n` bytes; the bytes of the last word beyond them are zero (R230). -/
def wordsUpTo (ws : List FWord) (n : Nat) : List FWord :=
  ws.take (n / 8)
  ++ (if n % 8 = 0 then []
      else ((ws.drop (n / 8)).take 1).map (fun w => ⟨w.data &&& BitVec.ofNat 64 (2 ^ (8 * (n % 8)) - 1), w.poison⟩))

/-- Entries of the tier's drove slot table, with their numbers. -/
def State.droveEntries (s : State) : List (Nat × DroveEntry) :=
  match s.tier? with
  | some t => (List.range t.drove.entries.length).zip t.drove.entries
  | none => []

/-- Retry budget in force. -/
def State.retryBudget (s : State) : Nat := (s.tier?.map (fun t => t.drove.budget)).getD 30

/-- A port that carries plan cells: eligible, and in the drove link mask of the tier in force (R227, Table DROVE-8). -/
def State.carries (s : State) (p : Nat) : Bool :=
  (s.port p).mode = .eligible && (match s.tier? with
    | some t => bitOf t.entry.droveMask p
    | none => false)

/-- A cell goes out in a slot of the tick, and is kept for retries (R222, R232). A port that is down sends nothing (R246). -/
def State.sendCell (s : State) (p : PortNo) (slot : Nat) (c : Cell) : State :=
  if s.carries p ∧ slot < s.tickSlots then
    (s.onPort p (fun x => { x with sentCells := assocPut slot c x.sentCells })).emit (.cell p slot c)
  else s

/-- The cells of a send entry, in their planned slots; poison when the record was late or never issued (R107, R235; log 73). -/
def State.sendFlow (s : State) (e : DroveEntry) (ws : List FWord) (late : Bool) : State :=
  let p : PortNo := Fin.ofNat 8 e.outPort
  (List.range (cellCount e.bytes)).foldl (fun s i =>
    s.sendCell p (cellSlot s.retryBudget e.outSlot i)
      { flow := BitVec.ofNat 16 e.flow, index := BitVec.ofNat 16 i, parity := s.parity, kind := 1,
        words := if late then poisonCell else cellWords (wordsUpTo ws e.bytes) i }) s

end Sys2Proof.Machine
end

