-- ==== Sys2Proof/Machine/Sequencer.lean ====
section
/-!
DEFINITION. The tile sequencer (04 R88 to R97): which record is next, when it may issue, what issuing and completing do.
-/
namespace Sys2Proof.Machine

/-! ## The list a tile runs (R85, R88) -/

/-- Executor code of a tile at bell count `b`: its number, or the role it holds (R140, Table OPS-1). -/
def Tier.executor (t : Tier) (b k : Nat) : Option Nat :=
  match t.groups.find? (fun g => g.tiles.contains k) with
  | some g => ((List.range g.active).find? (fun r => g.role b r = some k)).map (fun r => 0x8000 + 256 * g.ident + r)
  | none => some k

/-- The executor's operation list. -/
def Tier.list? (t : Tier) (ex : Nat) : Option OpList := t.lists.find? (fun l => l.executor = ex)

/-- Planned issue cycle of the next record (R97). -/
def Sequencer.planned (q : Sequencer) (r : OpRecord) : Nat :=
  match q.loops.getLast? with
  | some f => f.start + f.iter * f.interval + r.issue
  | none => r.issue

/-- The next record of a tile with what fixes its meaning. -/
def State.nextRecord (s : State) (k : Nat) : Option (RecordCtx × OpRecord) :=
  s.tier?.bind (fun t => (t.executor s.bell.count.toNat k).bind (fun ex => (t.list? ex).bind (fun l =>
    (l.records[(s.tile k).seq.pc]?).map (fun r =>
      ({ tile := k, executor := ex, counters := (s.tile k).seq.loops.map (fun f => f.iter), issues := (s.tile k).seq.issues,
         planId := BitVec.ofNat 64 ((s.plan.plan.map (fun p => p.header.planId)).getD 0), bell := s.bell.count }, r)))))

/-! ## What a record does -/

/-- Units (04, Ground). -/
def unitSQ : Nat := 0
def unitMU : Nat := 1
def unitVE : Nat := 2
def unitIM : Nat := 3
def unitMT : Nat := 4
def unitDMA : Nat := 5
def unitMI : Nat := 6

/-- What one record does: its units, occupancy and depth (Table OPS-4), the descriptors it reads and writes, the elements it stores at
completion, and for some operations a failure (Table OPS-6) whose destination is written as poison, what it does to the index matcher, the
override slot it writes, a completion cycle of its own, whether it is a transfer (R106, R177), and, where it fetches less than its
operands hold, what it fetches (R127, R144). -/
structure Work where
  units : List Nat
  occ : Nat
  depth : Nat
  reads : List Desc := []
  writes : List Desc := []
  elems : List ElemWrite := []
  bounds : Option Nat := none
  spoiled : List ElemWrite := []
  matcher : Option MatcherChange := none
  slot : Option (Nat × Desc) := none
  done : Option Nat := none
  transfer : Bool := false
  fetched : Option (List Desc) := none
deriving DecidableEq, Repr

def Work.readBanks (w : Work) : List Nat := (w.reads.flatMap Desc.banks).eraseDups
def Work.writeBanks (w : Work) : List Nat := (w.writes.flatMap Desc.banks).eraseDups

/-- Two lists share a member. -/
def meets (a b : List Nat) : Bool := a.any (fun x => b.contains x)

/-- An earlier record of the tile blocks this one (R93). -/
def InFlight.blocks (f : InFlight) (w : Work) (slots : List Nat) : Bool :=
  meets f.writes (w.readBanks ++ w.writeBanks) || meets f.reads w.writeBanks
  || (match f.slotWrite with
    | some x => slots.contains x.1 || (match w.slot with
        | some y => decide (x.1 = y.1)
        | none => false)
    | none => false)
  || (match w.slot with
    | some y => f.slotsRead.contains y.1
    | none => false)

/-- A partition runs in this tick: it is in the tier, and neither failed, nor idle, nor being reset (R69, R376, R440). -/
def State.partRuns (s : State) (p : Nat) : Bool :=
  let x := vget s.parts p {}
  s.inTier p && !x.failed && !x.skipTick && !x.resetting && s.bell.state ≠ .stopped

/-- The tile executes operations (Table TILE-5). -/
def State.tileRuns (s : State) (k : Nat) : Bool := (s.tile k).mode = .active && !(s.tile k).forReset && !(s.tile k).seq.eot

/-- The record waits for an earlier one to complete: by its banks or override slots (R93), or as the EOT record (R96). -/
def OpRecord.waitsFor (r : OpRecord) (w : Work) (f : InFlight) : Bool := r.flag 1 || f.blocks w r.slotsNamed

/-- The earliest cycle at which the record may issue, a wait aside, once what it waits for has completed: its planned cycle, a cycle
after the issue before it, when its units accept it, and the completions it waited for (R92, R93, R96). -/
def Sequencer.ready (q : Sequencer) (r : OpRecord) (w : Work) : Nat :=
  ([q.planned r] ++ (q.lastIssue.map (fun c => c + 1)).toList ++ w.units.map (fun u => (assocGet u q.busy).getD 0)
    ++ (q.past.filter (r.waitsFor w)).map InFlight.done).foldl max 0

/-- No record in flight holds the record back. -/
def Sequencer.clear (q : Sequencer) (r : OpRecord) (w : Work) : Bool := q.inFlight.all (fun f => !r.waitsFor w f)

/-- The cycle at which a record issues that is ready at cycle `n` (R92): that cycle, or with WAIT set twelve cycles after the reach. An
increment whose command names no cycle leaves the twelve cycles to the sender (log 171). -/
def State.issueCycle (s : State) (cycle n : Nat) (r : OpRecord) : Bool :=
  if r.flag 0 then
    let t := s.tally (r.wait % 4096)
    t.reached && (match t.at_ with
      | some c => decide (cycle = max n (c + 12).toNat)
      | none => decide (n ≤ cycle))
  else cycle = n

/-- A record of a tile issues at a cycle (R92): the first at which nothing holds it back. -/
def State.mayIssue (s : State) (k cycle : Nat) (r : OpRecord) (w : Work) : Bool :=
  (s.tile k).seq.clear r w && s.issueCycle cycle ((s.tile k).seq.ready r w) r

/-- Loop levels that a body's last record ends: the next iteration begins, or the level is left (R97). -/
def closeLoops : (fuel : Nat) → (pc : Nat) → List LoopFrame → Nat × List LoopFrame
  | 0, pc, fs => (pc, fs)
  | fuel + 1, pc, fs =>
    match fs.getLast? with
    | none => (pc, fs)
    | some f =>
      if pc < f.first + f.len then (pc, fs)
      else if f.iter + 1 < f.count then (f.first, fs.dropLast ++ [{ f with iter := f.iter + 1 }])
      else closeLoops fuel pc fs.dropLast

/-- The sequencer past a record that issues at `cycle`. `push` opens a loop level. -/
def Sequencer.advance (q : Sequencer) (cycle : Nat) (w : Work) (push : Option LoopFrame) : Sequencer :=
  let at_ := match push with
    | some f => (q.pc + 1, q.loops ++ [f])
    | none => closeLoops 3 (q.pc + 1) q.loops
  { q with
    pc := at_.1, loops := at_.2, lastIssue := some cycle, issues := q.issues + 1,
    busy := w.units.foldl (fun b u => assocPut u (cycle + w.occ) b) q.busy }

/-- The record as it is in flight (R94). -/
def Work.inFlight (w : Work) (cycle : Nat) (r : OpRecord) : InFlight :=
  { done := w.done.getD (cycle + w.occ + w.depth), reads := w.readBanks, writes := w.writeBanks,
    slotsRead := r.slotsNamed, eot := r.flag 1, elems := w.elems, slotWrite := w.slot, matcher := w.matcher }

/-- A loop level that a LOOP opens at `cycle` from position `pc` (R97). -/
def OpRecord.frame (r : OpRecord) (pc cycle : Nat) : LoopFrame :=
  { first := pc + 1, len := r.imm1, count := r.imm0, interval := r.imm2, start := cycle, iter := 0 }

/-- A record issues: the sequencer moves on, operands are read, and the results wait for the completion cycle (R94). A read that fails
its check, or a failure of Table OPS-6, fails the partition's tick; a failed MMA_SCOO leaves the matcher cleared all the same (R104). -/
def State.begin (s : State) (k cycle : Nat) (r : OpRecord) (w : Work) (push : Option LoopFrame) : State :=
  let s := s.onTile k (fun x => { x with seq := x.seq.advance cycle w push })
  let (s, ok) := s.useOperands k r.part (w.fetched.getD w.reads) w.transfer
  if !ok then s
  else
    match w.bounds with
    | some d =>
      let s := (s.storeTile k r.part w.spoiled).tensorBounds k r.part d
      if w.matcher = some .clear then s.onTile k (fun x => { x with matcher := [] }) else s
    | none =>
      s.onTile k (fun x => { x with seq := { x.seq with inFlight := x.seq.inFlight ++ [w.inFlight cycle r] } })

/-- The tile's next record is this operation and may issue: `go` says what it then does. -/
def State.issueWith (s : State) (k cycle opcode : Nat) (f : State → RecordCtx → OpRecord → Option Work)
    (go : RecordCtx → OpRecord → Work → State → State) : State :=
  match s.nextRecord k with
  | none => s
  | some (c, r) =>
    if r.opcode = opcode ∧ s.tileRuns k ∧ s.partRuns r.part then
      match f s c r with
      | none => s
      | some w => if s.mayIssue k cycle r w then go c r w s else s
    else s

/-- Issue of an operation without effects of its own beside its results. -/
def State.issue (s : State) (k cycle opcode : Nat) (f : State → RecordCtx → OpRecord → Option Work) : State :=
  s.issueWith k cycle opcode f (fun _ r w s => s.begin k cycle r w none)

/-- An operation command: DMF runs, and the record issues. -/
def issueCmd (opcode : Nat) (f : State → RecordCtx → OpRecord → Option Work) (tile : TileNo) (cycle : Nat) (s : State) : Result :=
  runLive (fun s => s.issue tile cycle opcode f) s

/-- A pair is placed (R104): a key already present takes the newer value. A pair whose key reads as poison names no key, and takes an
entry of its own (log 172). -/
def matcherPut (m : List MatchEntry) (e : MatchEntry) : List MatchEntry :=
  if !e.keyPoison && m.any (fun x => !x.keyPoison && x.key = e.key) then
    m.map (fun x => if !x.keyPoison && x.key = e.key then e else x)
  else m ++ [e]

/-- The matcher's content after a change. -/
def matcherAfter (m : List MatchEntry) : MatcherChange → List MatchEntry
  | .clear => []
  | .load pairs => pairs.foldl matcherPut m

/-- The matcher's content as the next record on its unit meets it: the changes of the records in flight come first (R92, R94). -/
def TileState.matcherNow (x : TileState) : List MatchEntry :=
  (x.seq.inFlight.filterMap (fun f => f.matcher)).foldl matcherAfter x.matcher

/-- A record completes (R94, R96): results are stored, the index matcher is changed, an override slot is written or refused (R124), the
EOT record marks the end of tick. A failed partition stores nothing more (R69). -/
def State.complete (s : State) (k p : Nat) (f : InFlight) : State :=
  let s := s.storeTile k p f.elems
  let s := match f.matcher with
    | some m => s.onTile k (fun x => { x with matcher := matcherAfter x.matcher m })
    | none => s
  let s := match f.slotWrite with
    | some (i, d) =>
      if d.tileBase % 16 = 0 then s.onTile k (fun x => { x with slots := assocPut i d x.slots })
      else (s.failTick p).raise 0x2004 k (0xFFF0 + i)
    | none => s
  s.onTile k (fun x => { x with seq := { x.seq with eot := x.seq.eot || f.eot } })

/-- RECORD_COMPLETION (R94): the earliest issued record due at this cycle. -/
def execRecordCompletion (tile : TileNo) (cycle : Nat) (s : State) : Result :=
  runLive (fun s =>
    match s.tileOwner tile, (s.tile tile).seq.inFlight.find? (fun f => f.done = cycle) with
    | some p, some f =>
      let s := s.onTile tile (fun x => { x with
        seq := { x.seq with inFlight := x.seq.inFlight.erase f, past := x.seq.past ++ [{ f with elems := [], matcher := none }] } })
      if s.tileRuns tile ∧ s.partRuns p then s.complete tile p f else s
    | _, _ => s) s

/-- NOP (R92). -/
def execNop (tile : TileNo) (cycle : Nat) (s : State) : Result :=
  issueCmd 0x00 (fun _ _ _ => some { units := [unitSQ], occ := 1, depth := 0 }) tile cycle s

/-- LOOP (R97): the level opens at the issue cycle. -/
def execLoop (tile : TileNo) (cycle : Nat) (s : State) : Result :=
  runLive (fun s => s.issueWith tile cycle 0x01 (fun _ _ _ => some { units := [unitSQ], occ := 1, depth := 0 })
    (fun _ r w s => s.begin tile cycle r w (some (r.frame (s.tile tile).seq.pc cycle)))) s

end Sys2Proof.Machine
end

