-- ==== Sys2Proof/Machine/Matrix.lean ====
section
/-!
DEFINITION. The matrix operations (04 R98 to R101; 05 R125 to R128; 06 R136, R137, R142 to R147).
-/
namespace Sys2Proof.Machine

/-! ## Accumulation (R136) -/

/-- A matrix operand: rows, columns, elements in row order, so that element (i, j) is number i × columns + j. -/
structure Mat where
  rows : Nat
  cols : Nat
  elems : List Elem
deriving DecidableEq, Repr

def zeroElem (m : Mat) : Elem := match m.elems with
  | (.int _, _) :: _ => (.int 0, false)
  | _ => (.flt 0, false)

def Mat.get (m : Mat) (i j : Nat) : Elem := m.elems.getD (i * m.cols + j) (zeroElem m)

/-- Row `i`, column `j`. -/
def Mat.row (m : Mat) (i : Nat) : List Elem := (List.range m.cols).map (fun j => m.get i j)
def Mat.col (m : Mat) (j : Nat) : List Elem := (List.range m.rows).map (fun i => m.get i j)

/-- A dense operand: dimension 0 runs along the columns, the others along the rows. -/
def TileState.mat (x : TileState) (d : Desc) : Mat :=
  { rows := d.rows, cols := d.dim 0, elems := (List.range d.count).map (x.elem d) }

def Mat.transpose (m : Mat) : Mat :=
  { rows := m.cols, cols := m.rows,
    elems := (List.range (m.cols * m.rows)).map (fun e => m.get (e % m.rows) (e / m.rows)) }

/-- Some element is poison. -/
def anyPoison (xs : List Elem) : Bool := xs.any (fun x => x.2)

/-- Products in groups of `n`. -/
def chunks {α : Type} (n : Nat) : (fuel : Nat) → List α → List (List α)
  | 0, _ => []
  | _, [] => []
  | fuel + 1, xs => xs.take n :: chunks n fuel (xs.drop n)

/-- One chunk added to the accumulator: summed exactly, added with one rounding or saturation (R136). -/
def addChunk (acc : Num) (ps : List (Num × Num)) : Num :=
  match acc with
  | .int a =>
    .int (toS (ofS a + (ps.map (fun p => match p with
      | (.int x, .int y) => ofS x * ofS y
      | _ => 0)).sum))
  | .flt a =>
    match ps.map (fun p => p.1.exact.mul p.2.exact) with
    | [] => acc
    | v :: vs => .flt (toF ((ofF a).add (vs.foldl FVal.add v)))

/-- Products taken in order, in chunks of `n` (R136, R147). -/
def accumulate (n : Nat) (start : Num) (ps : List (Num × Num)) : Num := (chunks n ps.length ps).foldl addChunk start

/-- Accumulator at the start: C under ACC_LOAD, else zero of the accumulator's type (R99, R136). -/
def startAcc (load : Bool) (c : Option Mat) (int : Bool) (i j : Nat) : Elem :=
  match load, c with
  | true, some m => m.get i j
  | _, _ => (if int then .int 0 else .flt 0, false)

/-- Integer operands give an INT32 accumulator (R99). -/
def Desc.isInt (d : Desc) : Bool := (floatType d.ety).isNone

/-- q of Table OPS-4. -/
def Desc.q (d : Desc) : Nat := if d.esize = 2 then 2 else 1

/-- O_mma of R98. -/
def occMma (q m k n : Nat) : Nat := q * k * cdiv m 32 * cdiv n 32

/-- Depth of MMA. -/
def depthMma (q : Nat) : Nat := if q = 1 then 40 else 44

/-! ## S24 and SBLK (R142, R144) -/

/-- The two kept positions of group `g` in column `j`. -/
def keptPair (x : TileState) (md : Desc) (g j : Nat) : Nat × Nat × Bool :=
  let c := x.code md (g / 4 * md.dim 0 + j)
  (bitsOf c.1 (4 * (g % 4)) 2, bitsOf c.1 (4 * (g % 4) + 2) 2, c.2)

/-- The products of group `g` in output (i, j): the two kept ones, and, where the metadata names two rising positions, the products with
the zeros of the two dropped ones, which make the result that of the dense operand bit for bit (R142, R143; DEDUCED, log 174). -/
def group24 (x : TileState) (a : Mat) (b : Mat) (md : Desc) (i j g : Nat) : List (Num × Num) :=
  let e := keptPair x md g j
  let zero := (zeroElem b).1
  let at_ (t : Nat) (v : Num) : Num × Num := ((a.get i (4 * g + t)).1, v)
  if e.1 < e.2.1 then
    (List.range 4).map (fun t => at_ t (if t = e.1 then (b.get (2 * g) j).1 else if t = e.2.1 then (b.get (2 * g + 1) j).1 else zero))
  else [at_ e.1 (b.get (2 * g) j).1, at_ e.2.1 (b.get (2 * g + 1) j).1]

/-- The accumulator of output (i, j) under S24, eight groups, or 32 positions of κ, to a chunk (R136, R142). -/
def accumulate24 (x : TileState) (a : Mat) (b : Mat) (md : Desc) (start : Num) (i j : Nat) : Num :=
  (chunks 8 (a.cols / 4) (List.range (a.cols / 4))).foldl (fun acc gs => addChunk acc (gs.flatMap (group24 x a b md i j))) start

/-- Block `β` is stored, and how many stored ones come before it (R144). -/
def blockBit (x : TileState) (md : Desc) (bt : Nat) : Bool := bitOf (x.code md (bt / 8)).1 (bt % 8)
def blocksBefore (x : TileState) (md : Desc) (bt : Nat) : Nat := ((List.range bt).filter (blockBit x md)).length

/-- The first `n` stored blocks of an SBLK value descriptor; those beyond the set bits are not read (R144). -/
def Desc.firstBlocks (d : Desc) (n : Nat) : Desc := { d with dims := [d.dim 0, d.dim 1, n, 1, 1] }

/-- The expanded B of an SBLK operand. -/
def expandSblk (x : TileState) (bd md : Desc) (k n : Nat) : Mat :=
  let zero : Elem := (if bd.isInt then .int 0 else .flt 0, false)
  { rows := k, cols := n,
    elems := (List.range (k * n)).map (fun e =>
      let bt := e / n / 16 * (n / 16) + e % n / 16
      if blockBit x md bt then x.elem bd ((blocksBefore x md bt * 16 + e / n % 16) * 16 + e % n % 16) else zero) }

/-! ## Sliding windows (R125 to R127) -/

/-- The fields of a window word (Table LAYOUT-5). -/
structure Window where
  kh : Nat
  kw : Nat
  sy : Nat
  sx : Nat
  dy : Nat
  dx : Nat
  pt : Nat
  pb : Nat
  pl : Nat
  pr : Nat
  edge : Bool
  reserved : Nat
deriving DecidableEq, Repr

def windowOfWord (w : Nat) : Window :=
  { kh := bitsOf w 0 3, kw := bitsOf w 3 3, sy := bitsOf w 6 2 + 1, sx := bitsOf w 8 2 + 1, dy := bitsOf w 10 2 + 1,
    dx := bitsOf w 12 2 + 1, pt := bitsOf w 14 3, pb := bitsOf w 17 3, pl := bitsOf w 20 3, pr := bitsOf w 23 3,
    edge := bitOf w 26, reserved := bitsOf w 27 5 }

/-- The rules of Table LAYOUT-5. -/
def Window.ok (w : Window) : Bool :=
  w.reserved = 0 && w.kh ≠ 0 && w.kw ≠ 0 && w.pr ≤ w.dx * (w.kw - 1) && w.pl ≤ w.dx * (w.kw - 1)
  && w.pb ≤ w.dy * (w.kh - 1) && w.pt ≤ w.dy * (w.kh - 1)

/-- H_out and W_out; 0 where the kernel does not fit (R126). -/
def outDim (size pads d k stride : Nat) : Nat :=
  if size + pads < d * (k - 1) + 1 then 0 else (size + pads - d * (k - 1) - 1) / stride + 1
def Window.hOut (w : Window) (a : Desc) : Nat := outDim (a.dim 2) (w.pt + w.pb) w.dy w.kh w.sy
def Window.wOut (w : Window) (a : Desc) : Nat := outDim (a.dim 1) (w.pl + w.pr) w.dx w.kw w.sx

/-- Input position of a tap along one axis; none in zero padding (R127). -/
def tapAt (edge : Bool) (o stride pad k d size : Nat) : Option Nat :=
  let i := o * stride + k * d
  if edge then some (min (i - pad) (size - 1))
  else if pad ≤ i ∧ i - pad < size then some (i - pad) else none

/-- The input position, as number i_x + W × i_y, that tap number `tap` of output position `p` reads; none in zero padding (R127). -/
def Window.tap (w : Window) (a : Desc) (p tap : Nat) : Option Nat :=
  let wo := w.wOut a
  match tapAt w.edge (p / wo) w.sy w.pt (tap / w.kw) w.dy (a.dim 2), tapAt w.edge (p % wo) w.sx w.pl (tap % w.kw) w.dx (a.dim 1) with
  | some iy, some ix => some (ix + a.dim 1 * iy)
  | _, _ => none

/-- The expanded matrix of CONVW. -/
def expandWindow (x : TileState) (a : Desc) (w : Window) : Mat :=
  let cin := a.dim 0
  let k := cin * w.kh * w.kw
  let zero : Elem := (if a.isInt then .int 0 else .flt 0, false)
  { rows := w.hOut a * w.wOut a, cols := k,
    elems := (List.range (w.hOut a * w.wOut a * k)).map (fun e =>
      match w.tap a (e / k) (e % k / cin) with
      | some i => x.elem a (e % cin + cin * i)
      | none => zero) }

/-- The runs that the taps of a window read, in the order of the expanded matrix, each as often as it is read (R127, R128). -/
def Window.tapRuns (w : Window) (a : Desc) : List Nat :=
  (List.range (w.hOut a * w.wOut a * (w.kh * w.kw))).filterMap (fun e => w.tap a (e / (w.kh * w.kw)) (e % (w.kh * w.kw)))

/-- Run `j` of a descriptor, as a descriptor of its own. -/
def Desc.run (d : Desc) (j : Nat) : Desc :=
  { d with base := d.base + d.rowOffset j, rank := 1, dims := [d.dim 0, 1, 1, 1, 1], strides := [0, 0, 0, 0] }

/-! ## Dense and structured products -/

/-- Operand A as a matrix, transposed under TRANS_A. -/
def matA (x : TileState) (r : OpRecord) (d : Desc) : Mat := if r.flag 3 then (x.mat d).transpose else x.mat d

/-- Accumulators of a product, in row order, with the poison of row i, column j and C (04, Poison in operations). `acc` accumulates
output (i, j) from its start. -/
def product (a b : Mat) (cols : Nat) (int load : Bool) (c : Option Mat) (acc : Num → Nat → Nat → Num) (extra : Bool) : List Elem :=
  (List.range (a.rows * cols)).map (fun e =>
    let i := e / cols
    let j := e % cols
    let start := startAcc load c int i j
    (acc start.1 i j, extra || start.2 || anyPoison (a.row i) || anyPoison (b.col j)))

/-- Dense pairs of output (i, j). -/
def densePairs (a b : Mat) (i j : Nat) : List (Num × Num) :=
  (List.range a.cols).map (fun t => ((a.get i t).1, (b.get t j).1))

/-- The accumulator of output (i, j) of a dense product, 32 positions of κ to a chunk (R136). -/
def accumulateDense (a b : Mat) (start : Num) (i j : Nat) : Num := accumulate 32 start (densePairs a b i j)

/-- Descriptor of an operand's metadata (R114). -/
def State.companion (s : State) (d : Desc) : Option Desc := s.plan.plan.bind (fun p => p.descs[d.companion]?)

/-- Accumulators of MMA, CONVW and MMA_GATE: dense, or S24 in B. -/
def State.productOf (s : State) (c : RecordCtx) (r : OpRecord) (a : Mat) (bd : Desc) (load : Bool) : List Elem × Nat × List Desc :=
  let x := s.tile c.tile
  let b := x.mat bd
  let cm := (s.operand c r 2).map x.mat
  let n := bd.dim 0
  if r.flag 4 then
    match s.companion bd with
    | some md =>
      let spoiled := (List.range md.count).any (fun e => (x.code md e).2)
      (product a b n bd.isInt load cm (accumulate24 x a b md) spoiled, occMma bd.q a.rows a.cols n / 2, [bd, md])
    | none => ([], 1, [bd])
  else (product a b n bd.isInt load cm (accumulateDense a b) false, occMma bd.q a.rows a.cols n, [bd])

/-- MMA. -/
def workMma (s : State) (c : RecordCtx) (r : OpRecord) : Option Work :=
  match s.operand c r 0, s.operand c r 1, s.operand c r 3 with
  | some ad, some bd, some dd =>
    let res := s.productOf c r (matA (s.tile c.tile) r ad) bd (r.flag 2)
    some { units := [unitMU], occ := res.2.1, depth := depthMma ad.q,
           reads := ad :: res.2.2 ++ (if r.flag 2 then (s.operand c r 2).toList else []), writes := [dd],
           elems := c.storeTo r dd res.1 }
  | _, _, _ => none

/-- MMA_SBLK (R144, R145). -/
def workSblk (s : State) (c : RecordCtx) (r : OpRecord) : Option Work :=
  match s.operand c r 0, s.operand c r 1, s.operand c r 3 with
  | some ad, some bd, some dd =>
    match s.companion bd with
    | none => none
    | some md =>
      let x := s.tile c.tile
      let a := matA x r ad
      let n := dd.dim 0
      let total := a.cols / 16 * (n / 16)
      let b := expandSblk x bd md a.cols n
      let spoiled := (List.range md.count).any (fun e => (x.code md e).2)
      let res := product a b n bd.isInt (r.flag 2) ((s.operand c r 2).map x.mat) (accumulateDense a b) spoiled
      let stored := min (blocksBefore x md total) r.imm2
      some { units := [unitMU], occ := cdiv (5 * occMma ad.q a.rows a.cols n * r.imm2) (4 * total), depth := depthMma ad.q,
             reads := [ad, bd, md] ++ (if r.flag 2 then (s.operand c r 2).toList else []), writes := [dd],
             elems := c.storeTo r dd res,
             fetched := some ([ad, md] ++ (if stored = 0 then [] else [bd.firstBlocks stored])
               ++ (if r.flag 2 then (s.operand c r 2).toList else [])),
             bounds := if r.imm2 < blocksBefore x md total then some 2 else none, spoiled := storePoison dd }
  | _, _, _ => none

/-- MMA_GATE's chain on one accumulator element (R100). -/
def gate (r : OpRecord) (bias mul addend : Elem) (y : Elem) : Elem :=
  let on (k : Nat) : Bool := bitOf r.imm1 k
  let num (e : Elem) : U32 := match e.1 with
    | .flt v => v
    | .int v => toF (.ofInt v.toInt)
  let v := num y
  let v := if on 0 then addF v (num bias) else v
  let v := if on 1 then sigmF v else v
  let v := if on 2 then tanhF v else v
  let v := if on 3 then expF v else v
  let v := if on 4 then mulF v (num mul) else v
  let v := if on 5 then fmaF (BitVec.ofNat 32 r.imm0) v (num addend) else v
  (.flt v, y.2 || (on 0 && bias.2) || (on 4 && mul.2) || (on 5 && addend.2))

/-- MMA_GATE (R100). -/
def workGate (s : State) (c : RecordCtx) (r : OpRecord) : Option Work :=
  match s.operand c r 0, s.operand c r 1, s.operand c r 3 with
  | some ad, some bd, some dd =>
    let x := s.tile c.tile
    let a := matA x r ad
    let res := s.productOf c r a bd false
    let zero : Elem := (.flt 0, false)
    let bias := (s.operand c r 2)
    let md := s.descAt c.tile (r.imm2 % 65536) 0
    let fd := s.descAt c.tile (r.imm2 / 65536) 0
    let pick (d : Option Desc) (e : Nat) : Elem := (d.map (fun d => x.elem d e)).getD zero
    let n := dd.dim 0
    let out := List.zipWith (fun (e : Nat) (y : Elem) => gate r (pick bias (e % n)) (pick md e) (pick fd e) y)
      (List.range (a.rows * n)) res.1
    some { units := [unitMU], occ := max res.2.1 (32 * cdiv a.rows 32 * cdiv n 32), depth := depthMma ad.q + 8,
           reads := ad :: res.2.2 ++ (if bitOf r.imm1 0 then bias.toList else []) ++ (if bitOf r.imm1 4 then md.toList else [])
             ++ (if bitOf r.imm1 5 then fd.toList else []),
           writes := [dd], elems := c.storeTo r dd out }
  | _, _, _ => none

/-- The expanded matrix under TRANS_A: which elements of the rank-3 map it takes then the manual does not state, so each is left open
(R89, R125; DESIGN CHOICE, log 176). -/
def expandTransposed (x : TileState) (a : Desc) (word : Nat) : Mat :=
  let w := windowOfWord word
  let codes := (List.range a.count).map (x.code a)
  { rows := w.hOut a * w.wOut a, cols := a.dim 0 * w.kh * w.kw,
    elems := (List.range (w.hOut a * w.wOut a * (a.dim 0 * w.kh * w.kw))).map (fun e =>
      (widen a.ety (Config.transposedMap word (codes.map (fun c => c.1)) e).toNat, codes.any (fun c => c.2))) }

/-- CONVW (R125 to R128). Of A only the runs that a tap reads are read. -/
def workConvw (s : State) (c : RecordCtx) (r : OpRecord) : Option Work :=
  match s.operand c r 0, s.operand c r 1, s.operand c r 3 with
  | some ad, some bd, some dd =>
    let x := s.tile c.tile
    let w := windowOfWord r.imm0
    let a := if r.flag 3 then expandTransposed x ad r.imm0 else expandWindow x ad w
    let res := s.productOf c r a bd (r.flag 2)
    some { units := [unitMU, unitDMA], occ := res.2.1, depth := depthMma ad.q + 12,
           reads := (if r.flag 3 then [ad] else (w.tapRuns ad).eraseDups.map ad.run) ++ res.2.2 ++ (if r.flag 2 then (s.operand c r 2).toList else []), writes := [dd],
           elems := c.storeTo r dd res.1 }
  | _, _, _ => none

/-! ## SCOO (R146, R147) -/

/-- One entry of a coordinate list: its coordinate code, its value. -/
abbrev CooEntry := Nat × Elem

/-- Entries before the terminator, and whether a coordinate read as poison. -/
def cooEntries (x : TileState) (ad md : Desc) : List CooEntry × Bool :=
  let codes := (List.range md.count).map (x.code md)
  let n := (codes.findIdx (fun c => !c.2 && c.1 = 0xFFFFFFFF))
  ((List.range n).map (fun e => ((codes.getD e (0, false)).1, x.elem ad e)), (codes.take n).any (fun c => c.2))

/-- Entries by ascending coordinate, equal ones in list order (R147). -/
def insertCoo (e : CooEntry) : List CooEntry → List CooEntry
  | [] => [e]
  | y :: ys => if y.1 ≤ e.1 then y :: insertCoo e ys else e :: y :: ys
def sortCoo (es : List CooEntry) : List CooEntry := es.foldl (fun acc e => insertCoo e acc) []

/-- A coordinate as (row i, column κ) of A; under TRANS_A the list holds A transposed, with i and κ in each other's place (R89, R146;
DEDUCED, log 176). -/
def cooAt (trans : Bool) (code : Nat) : Nat := if trans then code % 65536 * 65536 + code / 65536 else code

/-- MMA_SCOO (R146, R147): leaves the index matcher cleared. -/
def workScoo (s : State) (c : RecordCtx) (r : OpRecord) : Option Work :=
  match s.operand c r 0, s.operand c r 1, s.operand c r 3 with
  | some ad, some bd, some dd =>
    match s.companion ad with
    | none => none
    | some md =>
      let x := s.tile c.tile
      let b := x.mat bd
      let m := dd.rows
      let k := bd.rows
      let n := bd.dim 0
      let read := cooEntries x ad md
      let coo := (read.1.map (fun e => (cooAt (r.flag 3) e.1, e.2)), read.2)
      let es := sortCoo coo.1
      let bad := decide (r.imm2 < coo.1.length) || coo.1.any (fun e => decide (m ≤ e.1 / 65536 ∨ k ≤ e.1 % 65536))
      let cm := (s.operand c r 2).map x.mat
      let out := (List.range (m * n)).map (fun e =>
        let mine := es.filter (fun t => t.1 / 65536 = e / n)
        let start := startAcc (r.flag 2) cm bd.isInt (e / n) (e % n)
        (accumulate 32 start.1 (mine.map (fun t => (t.2.1, (b.get (t.1 % 65536) (e % n)).1))),
         coo.2 || start.2 || mine.any (fun t => t.2.2) || anyPoison (b.col (e % n))))
      some { units := [unitMU, unitIM, unitMT], occ := cdiv (25 * occMma bd.q m k n * r.imm2) (3 * m * k),
             depth := depthMma bd.q + 16, reads := [ad, md, bd] ++ (if r.flag 2 then (s.operand c r 2).toList else []),
             writes := [dd], elems := c.storeTo r dd out, bounds := if bad then some 2 else none, spoiled := storePoison dd,
             matcher := some .clear }
  | _, _, _ => none

/-- MMA (R136). -/
def execMma (tile : TileNo) (cycle : Nat) (s : State) : Result := issueCmd 0x10 workMma tile cycle s
/-- MMA_SBLK (R145). -/
def execMmaSblk (tile : TileNo) (cycle : Nat) (s : State) : Result := issueCmd 0x11 workSblk tile cycle s
/-- MMA_SCOO (R147). -/
def execMmaScoo (tile : TileNo) (cycle : Nat) (s : State) : Result := issueCmd 0x12 workScoo tile cycle s
/-- CONVW (R126). -/
def execConvw (tile : TileNo) (cycle : Nat) (s : State) : Result := issueCmd 0x14 workConvw tile cycle s
/-- MMA_GATE (R100). -/
def execMmaGate (tile : TileNo) (cycle : Nat) (s : State) : Result := issueCmd 0x15 workGate tile cycle s

end Sys2Proof.Machine
end

