-- ==== Sys2Proof/Machine/Vector.lean ====
section
/-!
DEFINITION. The vector engine, index matcher, merge tree and DMA operations (04 R98, R102 to R105; 06 R138, R148; 07 R151, R158, R164).
-/
namespace Sys2Proof.Machine

/-! ## Elementwise operations (R102) -/

/-- The B operand beside element `e` of A: full, a row, a column, or the scalar of imm0 in A's type. -/
def besideA (x : TileState) (r : OpRecord) (ad : Desc) (bd : Option Desc) (e : Nat) : Elem :=
  match bd with
  | some d =>
    let i := if d.rows = 1 then 0 else e / ad.dim 0
    let j := if d.dim 0 = 1 then 0 else e % ad.dim 0
    x.elem d (i * d.dim 0 + j)
  | none => (widen ad.ety r.imm0, false)

/-- The 32 bits of a number. -/
def numCode : Num → U32
  | .int v => v
  | .flt v => v

/-- A result of two or three operands of one class; a mix of integers and floats is left open (log 71). -/
def vector3 (op : Nat) (fi : Int → Int → Int → U32) (ff : U32 → U32 → U32 → U32) (a b c : Num) : Num :=
  match a, b, c with
  | .int x, .int y, .int z => .int (fi (ofS x) (ofS y) (ofS z))
  | .flt x, .flt y, .flt z => .flt (ff x y z)
  | _, _, _ => .flt (Config.vectorOpen op [numCode a, numCode b, numCode c])

/-- A number counts as nonzero in VSEL. -/
def Num.nonzero : Num → Bool
  | .int v => v ≠ 0
  | .flt v => !(ofF v).isZero

/-- A transcendental operation; on an integer its value is left open (log 71). -/
def unaryF (op : Nat) (f : U32 → U32) : Num → Num
  | .flt v => .flt (f v)
  | .int v => .flt (Config.vectorOpen op [v])

/-- What an elementwise operation computes from A, B and C (R102, R138). -/
def elementwise (op : Nat) (a b c : Num) : Num :=
  match op with
  | 0x20 => vector3 op (fun x y _ => toS (x + y)) (fun x y _ => addF x y) a b (same a)
  | 0x21 => vector3 op (fun x y _ => toS (x - y)) (fun x y _ => subF x y) a b (same a)
  | 0x22 => vector3 op (fun x y _ => toS (x * y)) (fun x y _ => mulF x y) a b (same a)
  | 0x23 => vector3 op (fun x y z => toS (x * y + z)) fmaF a b c
  | 0x24 => vector3 op (fun x y _ => toS (max x y)) (fun x y _ => maxF op x y) a b (same a)
  | 0x25 => vector3 op (fun x y _ => toS (min x y)) (fun x y _ => minF op x y) a b (same a)
  | 0x26 => vector3 op (fun x y _ => toS (x * y)) (fun x y _ => mulF x y) a b (same a)
  | 0x27 => a
  | 0x28 => if c.nonzero then a else b
  | 0x29 => (match a with
    | .int v => .int (toS (ofS v).natAbs)
    | .flt v => .flt (toF (ofF v).abs))
  | 0x2A => unaryF op expF a
  | 0x2B => unaryF op logF a
  | 0x2C => unaryF op recipF a
  | 0x2D => unaryF op rsqrtF a
  | 0x2E => unaryF op sigmF a
  | _ => unaryF op tanhF a
where
  /-- An operand that is not used has the class of A. -/
  same (a : Num) : Num := match a with
    | .int _ => .int 0
    | .flt _ => .flt 0

/-- Operations with operand B, and with operand C. -/
def usesB (op : Nat) : Bool := op ≤ 0x26 || op = 0x28
def usesC (op : Nat) : Bool := op = 0x23 || op = 0x28

/-- Occupancy and depth of an elementwise operation. -/
def vectorOcc (op e : Nat) : Nat := if op ≤ 0x29 then cdiv e 64 else 4 * cdiv e 64
def vectorDepth (op : Nat) : Nat := if op ≤ 0x29 then 6 else 12

/-- VADD to VTANH. VSCALE's B holds one factor a row. -/
def workVector (op : Nat) (s : State) (c : RecordCtx) (r : OpRecord) : Option Work :=
  match s.operand c r 0, s.operand c r 3 with
  | some ad, some dd =>
    let x := s.tile c.tile
    let bd := if usesB op then s.operand c r 1 else none
    let cd := if usesC op then s.operand c r 2 else none
    let zero : Elem := (.int 0, false)
    let out := (List.range dd.count).map (fun e =>
      let a := x.elem ad e
      let b := if !usesB op then zero else match op, bd with
        | 0x26, some d => x.elem d (e / ad.dim 0)
        | _, _ => besideA x r ad bd e
      let k := (cd.map (fun d => x.elem d e)).getD zero
      let p := match op with
        | 0x28 => k.2 || (if k.1.nonzero then a.2 else b.2)
        | _ => a.2 || b.2 || k.2
      (elementwise op a.1 b.1 k.1, p))
    some { units := [unitVE], occ := vectorOcc op dd.count, depth := vectorDepth op, reads := ad :: bd.toList ++ cd.toList,
           writes := [dd], elems := c.storeTo r dd out }
  | _, _ => none

/-! ## Reductions (R102) -/

/-- FP32 codes of a row, where it is float. -/
def floats (xs : List Num) : List U32 := xs.map (fun x => match x with
  | .flt v => v
  | .int v => toF (.ofInt v.toInt))

def ints (xs : List Num) : List U32 := xs.map (fun x => match x with
  | .int v => v
  | .flt v => v)

/-- Every term is an integer. -/
def allInt (xs : List Num) : Bool := xs.all (fun x => match x with
  | .int _ => true
  | .flt _ => false)

/-- The largest of a row. -/
def rowMax (op : Nat) (xs : List U32) : U32 :=
  match xs with
  | [] => 0
  | v :: vs => vs.foldl (maxF op) v

/-- RSUM, RMAX, RLSE of one row. -/
def reduce (op : Nat) (xs : List Num) : Num :=
  match op with
  | 0x30 => if allInt xs then .int (sumS (ints xs)) else .flt (sumF (floats xs))
  | 0x31 => if allInt xs then
      .int (match (ints xs).map ofS with
        | [] => 0
        | v :: vs => toS (vs.foldl max v))
    else .flt (rowMax op (floats xs))
  | _ =>
    let m := rowMax op (floats xs)
    .flt (addF m (logF (sumF ((floats xs).map (fun v => expF (subF v m))))))

/-- RSUM, RMAX, RLSE. -/
def workReduce (op : Nat) (s : State) (c : RecordCtx) (r : OpRecord) : Option Work :=
  match s.operand c r 0, s.operand c r 3 with
  | some ad, some dd =>
    let a := (s.tile c.tile).mat ad
    let out := (List.range a.rows).map (fun i => (reduce op ((a.row i).map (fun e => e.1)), anyPoison (a.row i)))
    some { units := [unitVE], occ := cdiv ad.count 64 + 4 * cdiv a.rows 64, depth := if op = 0x32 then 18 else 12, reads := [ad],
           writes := [dd], elems := c.storeTo r dd out }
  | _, _ => none

/-! ## SGATHER (R146, R148) -/

/-- One column of SGATHER: products in list order, each addition rounded or saturated (R148). Where A is of a float type and B of an integer
type, or the reverse, the manual states no product, and the sum is left open (DESIGN CHOICE, log 71). -/
def gatherSum (intA intB : Bool) (ps : List (Num × Num)) : Num :=
  if intA ≠ intB then .flt (Config.vectorOpen 0x38 (ps.flatMap (fun p => [numCode p.1, numCode p.2])))
  else if intB then .int (ps.foldl (fun acc p => match p with
      | (.int v, .int w) => toS (ofS acc + ofS v * ofS w)
      | _ => acc) 0)
  else .flt ((List.zipWith (fun a b => mulF a b) (floats (ps.map (fun p => p.1))) (floats (ps.map (fun p => p.2)))).foldl addF 0)

def workGather (s : State) (c : RecordCtx) (r : OpRecord) : Option Work :=
  match s.operand c r 0, s.operand c r 1, s.operand c r 3 with
  | some ad, some bd, some dd =>
    match s.companion ad with
    | none => none
    | some md =>
      let x := s.tile c.tile
      let b := x.mat bd
      let n := dd.dim 0
      let coo := cooEntries x ad md
      let bad := decide (r.imm2 < coo.1.length) || coo.1.any (fun e => decide (b.rows ≤ e.1))
      let out := (List.range n).map (fun j =>
        (gatherSum ad.isInt bd.isInt (coo.1.map (fun e => (e.2.1, (b.get e.1 j).1))),
         coo.2 || coo.1.any (fun e => e.2.2 || (b.get e.1 j).2)))
      some { units := [unitVE], occ := 4 * r.imm2 * cdiv n 64, depth := 10, reads := [ad, md, bd], writes := [dd],
             elems := c.storeTo r dd out, bounds := if bad then some 2 else none, spoiled := storePoison dd }
  | _, _, _ => none

/-! ## Online softmax (R103, R158) -/

/-- Float value of an element. -/
def Elem.f (e : Elem) : U32 := match e.1 with
  | .flt v => v
  | .int v => toF (.ofInt v.toInt)

/-- SMX_STEP on one row: probabilities, new state, α. -/
def smxRow (scale : U32) (scores : List U32) (m l : U32) : List U32 × U32 × U32 × U32 :=
  let sa := scores.map (mulF scale)
  let m' := sa.foldl (maxF 0x40) m
  let alpha := expF (subF m m')
  let p := sa.map (fun v => expF (subF v m'))
  (p, m', addF (mulF alpha l) (sumF p), alpha)

/-- SMX_STEP (R103). The recurrence starts from the state in C, whatever ACC_LOAD says: Table OPS-3 allows the flag on the SMX operations and
R103 gives it nothing to change (DESIGN CHOICE, log 177). -/
def workSmxStep (s : State) (c : RecordCtx) (r : OpRecord) : Option Work :=
  match s.operand c r 0, s.operand c r 2, s.operand c r 3 with
  | some ad, some cd, some dd =>
    let x := s.tile c.tile
    let a := x.mat ad
    let rows := (List.range a.rows).map (fun i =>
      let m := x.elem cd (2 * i)
      let l := x.elem cd (2 * i + 1)
      (smxRow (BitVec.ofNat 32 r.imm0) ((a.row i).map Elem.f) m.f l.f, anyPoison (a.row i) || m.2, l.2))
    let probs := rows.flatMap (fun t => t.1.1.map (fun p => ((.flt p, t.2.1) : Elem)))
    let state := rows.flatMap (fun t => [(((.flt t.1.2.1), t.2.1) : Elem), ((.flt t.1.2.2.1), t.2.1 || t.2.2)])
    let alphas := rows.map (fun t => (((.flt t.1.2.2.2), t.2.1) : Elem))
    let vd := s.descAt c.tile (r.imm2 % 65536) 0
    some { units := [unitVE], occ := 3 * cdiv ad.count 64 + 4 * cdiv a.rows 64, depth := 14, reads := [ad, cd],
           writes := [dd, cd] ++ vd.toList,
           elems := c.storeTo r dd probs ++ c.storeTo r cd state ++ (match vd with
             | some v => c.storeTo r v alphas
             | none => []) }
  | _, _, _ => none

/-- Terms added in stack order, each addition rounded to FP32 (R158). -/
def stackSum (xs : List U32) : U32 :=
  match xs with
  | [] => 0
  | v :: vs => vs.foldl addF v

/-- SMX_MERGE on one row: columns o_0 to o_{d-1}, m, l of each state (R103, R157). -/
def mergeRow (d : Nat) (states : List (List U32)) : List U32 :=
  let ms := states.map (fun t => t.getD d 0)
  let m := rowMax 0x41 ms
  let ws := ms.map (fun v => expF (subF v m))
  let col (j : Nat) : U32 := stackSum (List.zipWith (fun w t => mulF w (List.getD t j 0)) ws states)
  (List.range d).map col ++ [m, col (d + 1)]

def workSmxMerge (s : State) (c : RecordCtx) (r : OpRecord) : Option Work :=
  match s.operand c r 0, s.operand c r 3 with
  | some ad, some dd =>
    let a := (s.tile c.tile).mat ad
    let q := r.imm0
    let w := dd.dim 0
    let rr := dd.rows
    let out := (List.range rr).flatMap (fun i =>
      let states := (List.range q).map (fun t => a.row (t * rr + i))
      let heads := states.any (fun t => (t.getD (w - 2) (.flt 0, false)).2)
      let vals := mergeRow (w - 2) (states.map (fun t => t.map Elem.f))
      List.zipWith (fun (j : Nat) (v : U32) =>
        (((.flt v), heads || states.any (fun t => (t.getD j (.flt 0, false)).2)) : Elem)) (List.range w) vals)
    some { units := [unitVE, unitMT], occ := q * cdiv (rr * w) 64 + 4 * cdiv (q * rr) 64, depth := 16, reads := [ad], writes := [dd],
           elems := c.storeTo r dd out }
  | _, _ => none

def workSmxFinal (s : State) (c : RecordCtx) (r : OpRecord) : Option Work :=
  match s.operand c r 0, s.operand c r 3 with
  | some ad, some dd =>
    let a := (s.tile c.tile).mat ad
    let d := dd.dim 0
    let rows := (List.range a.rows).map (fun i => (a.row i))
    let out := rows.flatMap (fun t => (List.range d).map (fun j =>
      let o := t.getD j (.flt 0, false)
      let l := t.getD (d + 1) (.flt 0, false)
      (((.flt (divF o.f l.f)), o.2 || l.2) : Elem)))
    let lam := rows.map (fun t =>
      let m := t.getD d (.flt 0, false)
      let l := t.getD (d + 1) (.flt 0, false)
      (((.flt (addF m.f (logF l.f))), m.2 || l.2) : Elem))
    let vd := s.descAt c.tile (r.imm2 % 65536) 0
    some { units := [unitVE], occ := cdiv dd.count 64 + 8 * cdiv a.rows 64, depth := 14, reads := [ad], writes := dd :: vd.toList,
           elems := c.storeTo r dd out ++ (match vd with
             | some v => c.storeTo r v lam
             | none => []) }
  | _, _ => none

/-! ## Merge tree (R104) -/

/-- A key-value pair of a run: key, value code, poison. -/
abbrev Pair := Nat × U32 × Bool

/-- Pair `p` of a list of pairs: two 32-bit elements side by side (log 76). -/
def TileState.pair (x : TileState) (d : Desc) (p : Nat) : Pair :=
  let k := x.code d (2 * p)
  let v := x.code d (2 * p + 1)
  (k.1, BitVec.ofNat 32 v.1, k.2 || v.2)

/-- The run whose head has the smallest key, the lowest run among equals; empty runs do not count. -/
def smallestHead (runs : List (List Pair)) : Option Nat :=
  (List.range runs.length).foldl (fun best i =>
    match runs.getD i [], best with
    | [], _ => best
    | _, none => some i
    | h :: _, some b => (match runs.getD b [] with
      | g :: _ => if h.1 < g.1 then some i else best
      | [] => some i)) none

/-- One head is taken: it joins the output, combined with the last pair when the mode combines equal keys. -/
def mergeInto (mode : Nat) (out : List Pair) (h : Pair) : List Pair :=
  match out.getLast? with
  | some l =>
    if mode ≠ 0 ∧ l.1 = h.1 then
      out.dropLast ++ [(l.1, if mode = 1 then addF l.2.1 h.2.1 else toS (ofS l.2.1 + ofS h.2.1), l.2.2 || h.2.2)]
    else out ++ [h]
  | none => [h]

/-- Runs merged by comparing heads as presented. -/
def mergeRuns (mode : Nat) : (fuel : Nat) → List (List Pair) → List Pair → List Pair
  | 0, _, out => out
  | fuel + 1, runs, out =>
    match smallestHead runs with
    | none => out
    | some i =>
      match runs.getD i [] with
      | [] => out
      | h :: rest =>
        let spoiled := runs.any (fun r => match r with
          | g :: _ => g.2.2
          | [] => false)
        mergeRuns mode fuel (runs.set i rest) (mergeInto mode out (h.1, h.2.1, spoiled))

/-- Runs of a MERGE operand: its last dimension counts them. -/
def Desc.mergeRunCount (d : Desc) : Nat := d.dim (d.rank - 1)

/-- MERGE (R104). A pad pair, with key 0xFFFF_FFFF, is merged as any other, so modes 1 and 2 combine pads; the part of D beyond the merged
pairs is left open (DESIGN CHOICE, log 178). -/
def workMerge (s : State) (c : RecordCtx) (r : OpRecord) : Option Work :=
  match s.operand c r 0, s.operand c r 3 with
  | some ad, some dd =>
    let x := s.tile c.tile
    let n := ad.mergeRunCount
    let len := ad.count / 2 / n
    let runs := (List.range n).map (fun t => (List.range len).map (fun p => x.pair ad (t * len + p)))
    let out := mergeRuns r.imm0 (n * len) runs []
    let fill (e : Nat) : Nat × Bool := ((Config.vectorOpen 0x48 [BitVec.ofNat 32 e]).toNat, false)
    let codes := out.flatMap (fun p => [(p.1, p.2.2), (p.2.1.toNat, p.2.2)])
    let codes := codes ++ (List.range (dd.count - codes.length)).map (fun e => fill (codes.length + e))
    some { units := [unitMT], occ := cdiv (n * len) 2, depth := 16, reads := [ad], writes := [dd], elems := storeCodes dd codes }
  | _, _ => none

/-! ## Index matcher (R104) -/

/-- The pairs of IXLOAD's operand, and which halves read as poison. -/
def TileState.pairs (x : TileState) (d : Desc) : List MatchEntry :=
  (List.range (d.count / 2)).map (fun p =>
    let k := x.code d (2 * p)
    let v := x.code d (2 * p + 1)
    { key := BitVec.ofNat 32 k.1, value := BitVec.ofNat 32 v.1, keyPoison := k.2, valuePoison := v.2 })

/-- IXLOAD (R104). A load beyond the 1,024 entries fails, and then places none of its pairs (DESIGN CHOICE, log 172). -/
def workIxload (s : State) (c : RecordCtx) (r : OpRecord) : Option Work :=
  match s.operand c r 0 with
  | some ad =>
    let x := s.tile c.tile
    let new := x.pairs ad
    some { units := [unitIM], occ := cdiv (ad.count / 2) 8, depth := 4, reads := [ad], matcher := some (.load new),
           bounds := if (new.foldl matcherPut x.matcherNow).length ≤ 1024 then none else some 3 }
  | none => none

/-- The answer to a query (R104): the value, or 0xFFFF_FFFF for a miss. It is poison with the query, with the value found, and where some
entry's key reads as poison, since that entry may be the one asked for (log 172). -/
def matchResult (m : List MatchEntry) (q : Nat × Bool) : Nat × Bool :=
  let hit := m.find? (fun e => !e.keyPoison && e.key.toNat = q.1)
  ((hit.map (fun e => e.value.toNat)).getD 0xFFFFFFFF, q.2 || m.any (fun e => e.keyPoison) || (hit.map (fun e => e.valuePoison)).getD false)

/-- IXMATCH (R104). -/
def workIxmatch (s : State) (c : RecordCtx) (r : OpRecord) : Option Work :=
  match s.operand c r 0, s.operand c r 3 with
  | some ad, some dd =>
    let x := s.tile c.tile
    some { units := [unitIM], occ := cdiv ad.count 8, depth := 8, reads := [ad], writes := [dd],
           elems := storeCodes dd ((List.range ad.count).map (fun e => matchResult x.matcherNow (x.code ad e))) }
  | _, _ => none

/-- IXCLEAR (R104). -/
def workIxclear (_ : State) (_ : RecordCtx) (_ : OpRecord) : Option Work :=
  some { units := [unitIM], occ := 16, depth := 0, matcher := some .clear }

/-! ## DCOPY, RENORM, FMAP (R98, R105) -/

/-- DCOPY moves A's bytes into D, element by element. -/
def workDcopy (s : State) (c : RecordCtx) (r : OpRecord) : Option Work :=
  match s.operand c r 0, s.operand c r 3 with
  | some ad, some dd =>
    let x := s.tile c.tile
    let out := (List.range dd.count).map (x.code ad)
    some { units := [unitDMA], occ := cdiv (ad.count * ad.esize) 32, depth := 10, reads := [ad], writes := [dd],
           elems := storeCodes dd out }
  | _, _ => none

/-- Exponent of a nonzero finite magnitude: it lies in 2^e to 2^(e+1). -/
def FVal.exponent : FVal → Int
  | .fin _ m e => e + (Nat.log2 m : Int)
  | _ => 0

/-- The row's value of largest magnitude, zeros aside. -/
def largest (xs : List FVal) : Option FVal :=
  xs.foldl (fun (best : Option FVal) v =>
    match best, v with
    | none, .fin _ m _ => if m = 0 then none else some v
    | some b, .fin _ _ _ => if b.abs.lt v.abs then some v else best
    | _, _ => best) none

/-- RENORM of one row (R105, R164): values scaled by 2^-e, e added to the exponent. A row of zeros stays. A row with an infinity or
NaN has no exponent the manual names: its shift is left open (log 71). -/
def renormRow (xs : List U32) (ex : U32) : List Num × Num :=
  let vs := xs.map ofF
  let finite := vs.all (fun v => match v with
    | .fin _ _ _ => true
    | _ => false)
  let shift : Option Int :=
    if finite then (largest vs).map FVal.exponent else some (ofS (Config.vectorOpen 0x80 xs))
  match shift with
  | none => (xs.map Num.flt, .int ex)
  | some e => (vs.map (fun v => Num.flt (toF (v.mul (.fin false 1 (-e))))), .int (toS (ofS ex + e)))

def workRenorm (s : State) (c : RecordCtx) (r : OpRecord) : Option Work :=
  match s.operand c r 0, s.operand c r 2 with
  | some ad, some cd =>
    let x := s.tile c.tile
    let a := x.mat ad
    let rows := (List.range a.rows).map (fun i =>
      let ex := x.elem cd i
      let n := (match ex.1 with
        | .int v => v
        | .flt v => v)
      (renormRow ((a.row i).map Elem.f) n, anyPoison (a.row i), ex.2))
    let vals := rows.flatMap (fun t => t.1.1.map (fun v => ((v, t.2.1) : Elem)))
    let exps := rows.map (fun t => ((t.1.2, t.2.1 || t.2.2) : Elem))
    some { units := [unitVE], occ := 2 * cdiv ad.count 64 + 1, depth := 10, reads := [ad, cd], writes := [ad, cd],
           elems := c.storeTo r ad vals ++ c.storeTo r cd exps }
  | _, _ => none

/-- The entry of a fork table (R105, R151). -/
def ForkTable.page (f : ForkTable) (future page : Nat) : Option Nat :=
  if f.futures ≤ future ∨ f.pages ≤ page then none
  else match f.entries[future * f.pages + page]? with
    | some e => if e = 0xFFFFFFFF then none else some (f.poolBase + e * f.pageBytes)
    | none => none

/-- FMAP (R105): the template with its base replaced, or a failed lookup. -/
def workFmap (s : State) (c : RecordCtx) (r : OpRecord) : Option Work :=
  match s.operand c r 0, s.plan.plan with
  | some ad, some p =>
    let w : Work := { units := [unitSQ], occ := 2, depth := 8 }
    let future := r.imm1 % 65536 + c.counter (bitsOf r.imm1 16 2)
    let page := r.imm2 % 65536 + c.counter (bitsOf r.imm2 16 2)
    match (p.forks[r.imm0 % 256]?).bind (fun f => f.page future page) with
    | some a => some { w with slot := some (bitsOf r.imm0 8 3, { ad with base := a + ad.base }) }
    | none => some { w with bounds := some 4 }
  | _, _ => none

/-- VADD (R102). -/
def execVadd (tile : TileNo) (cycle : Nat) (s : State) : Result := issueCmd 0x20 (workVector 0x20) tile cycle s
/-- VSUB (R102). -/
def execVsub (tile : TileNo) (cycle : Nat) (s : State) : Result := issueCmd 0x21 (workVector 0x21) tile cycle s
/-- VMUL (R102). -/
def execVmul (tile : TileNo) (cycle : Nat) (s : State) : Result := issueCmd 0x22 (workVector 0x22) tile cycle s
/-- VFMA (R102). -/
def execVfma (tile : TileNo) (cycle : Nat) (s : State) : Result := issueCmd 0x23 (workVector 0x23) tile cycle s
/-- VMAX (R102). -/
def execVmax (tile : TileNo) (cycle : Nat) (s : State) : Result := issueCmd 0x24 (workVector 0x24) tile cycle s
/-- VMIN (R102). -/
def execVmin (tile : TileNo) (cycle : Nat) (s : State) : Result := issueCmd 0x25 (workVector 0x25) tile cycle s
/-- VSCALE (R102). -/
def execVscale (tile : TileNo) (cycle : Nat) (s : State) : Result := issueCmd 0x26 (workVector 0x26) tile cycle s
/-- VCVT (R102). -/
def execVcvt (tile : TileNo) (cycle : Nat) (s : State) : Result := issueCmd 0x27 (workVector 0x27) tile cycle s
/-- VSEL (R102). -/
def execVsel (tile : TileNo) (cycle : Nat) (s : State) : Result := issueCmd 0x28 (workVector 0x28) tile cycle s
/-- VABS (R102). -/
def execVabs (tile : TileNo) (cycle : Nat) (s : State) : Result := issueCmd 0x29 (workVector 0x29) tile cycle s
/-- VEXP (Table NUM-3). -/
def execVexp (tile : TileNo) (cycle : Nat) (s : State) : Result := issueCmd 0x2A (workVector 0x2A) tile cycle s
/-- VLOG (Table NUM-3). -/
def execVlog (tile : TileNo) (cycle : Nat) (s : State) : Result := issueCmd 0x2B (workVector 0x2B) tile cycle s
/-- VRECIP (Table NUM-3). -/
def execVrecip (tile : TileNo) (cycle : Nat) (s : State) : Result := issueCmd 0x2C (workVector 0x2C) tile cycle s
/-- VRSQRT (Table NUM-3). -/
def execVrsqrt (tile : TileNo) (cycle : Nat) (s : State) : Result := issueCmd 0x2D (workVector 0x2D) tile cycle s
/-- VSIGM (Table NUM-3). -/
def execVsigm (tile : TileNo) (cycle : Nat) (s : State) : Result := issueCmd 0x2E (workVector 0x2E) tile cycle s
/-- VTANH (Table NUM-3). -/
def execVtanh (tile : TileNo) (cycle : Nat) (s : State) : Result := issueCmd 0x2F (workVector 0x2F) tile cycle s
/-- RSUM (R102). -/
def execRsum (tile : TileNo) (cycle : Nat) (s : State) : Result := issueCmd 0x30 (workReduce 0x30) tile cycle s
/-- RMAX (R102). -/
def execRmax (tile : TileNo) (cycle : Nat) (s : State) : Result := issueCmd 0x31 (workReduce 0x31) tile cycle s
/-- RLSE (R102). -/
def execRlse (tile : TileNo) (cycle : Nat) (s : State) : Result := issueCmd 0x32 (workReduce 0x32) tile cycle s
/-- SGATHER (R148). -/
def execSgather (tile : TileNo) (cycle : Nat) (s : State) : Result := issueCmd 0x38 workGather tile cycle s
/-- SMX_STEP (R103). -/
def execSmxStep (tile : TileNo) (cycle : Nat) (s : State) : Result := issueCmd 0x40 workSmxStep tile cycle s
/-- SMX_MERGE (R103, R158). -/
def execSmxMerge (tile : TileNo) (cycle : Nat) (s : State) : Result := issueCmd 0x41 workSmxMerge tile cycle s
/-- SMX_FINAL (R103). -/
def execSmxFinal (tile : TileNo) (cycle : Nat) (s : State) : Result := issueCmd 0x42 workSmxFinal tile cycle s
/-- MERGE (R104). -/
def execMerge (tile : TileNo) (cycle : Nat) (s : State) : Result := issueCmd 0x48 workMerge tile cycle s
/-- IXLOAD (R104). -/
def execIxload (tile : TileNo) (cycle : Nat) (s : State) : Result := issueCmd 0x50 workIxload tile cycle s
/-- IXMATCH (R104). -/
def execIxmatch (tile : TileNo) (cycle : Nat) (s : State) : Result := issueCmd 0x51 workIxmatch tile cycle s
/-- IXCLEAR (R104). -/
def execIxclear (tile : TileNo) (cycle : Nat) (s : State) : Result := issueCmd 0x52 workIxclear tile cycle s
/-- DCOPY (R98). -/
def execDcopy (tile : TileNo) (cycle : Nat) (s : State) : Result := issueCmd 0x60 workDcopy tile cycle s
/-- RENORM (R105). -/
def execRenorm (tile : TileNo) (cycle : Nat) (s : State) : Result := issueCmd 0x80 workRenorm tile cycle s
/-- FMAP (R105). -/
def execFmap (tile : TileNo) (cycle : Nat) (s : State) : Result := issueCmd 0x88 workFmap tile cycle s

end Sys2Proof.Machine
end

