-- ==== Sys2Proof/Machine/Mesh.lean ====
section
/-!
DEFINITION. Transfers over the mesh (03 R70 to R73, R78, R84; 04 R106 to R108; 08 R182): the transfer operations, and what a planned
flit does where it arrives.
-/
namespace Sys2Proof.Machine

/-! ## Endpoints (Table TILE-3) -/

/-- Attach tile of an endpoint; a role's tile at bell count `b`. -/
def Tier.attach (t : Tier) (b code : Nat) : Nat :=
  if code < 0x100 then code
  else if code < 0x108 then 4 * ((code - 0x100) / 2) + 1 + code % 2
  else if code < 0x10C then 16 * (4 * (code - 0x108) + 1)
  else if code < 0x110 then 16 * (4 * (code - 0x10C) + 1) + 15
  else if code = 0x110 then 246
  else if code = 0x111 then 249
  else (t.endpointTile b code).getD 0

/-- Distance of two positions on one axis. -/
def apart (a b : Nat) : Nat := max a b - min a b

/-- Manhattan distance of two tiles (R71). -/
def distance (a b : Nat) : Nat := apart (a % 16) (b % 16) + apart (a / 16) (b / 16)

/-- d of an entry. -/
def Tier.hops (t : Tier) (b : Nat) (e : SlotEntry) : Nat := distance (t.attach b e.source) (t.attach b e.dest)

/-- Cycle at which the last flit of an entry is injected. -/
def SlotEntry.lastFlit (e : SlotEntry) : Nat := e.start + e.reps * e.stride + e.flits - 1

def State.slotEntry (s : State) (e : Nat) : Option (Tier × SlotEntry) := s.tier?.bind (fun t => (t.slots[e]?).map (fun x => (t, x)))

/-- The record issues too late for its slot (R106, R107). -/
def SlotEntry.tooLate (e : SlotEntry) (cycle : Nat) : Bool := decide (e.start < cycle + 4)

/-! ## Transfer records (R106, R107) -/

/-- The mesh slot entry that a record names. -/
def OpRecord.slotOf (r : OpRecord) : Nat :=
  if r.opcode = 0x70 then r.imm2 else if r.opcode = 0x78 then r.imm1 else r.imm0

/-- A transfer's Work: local operands, and the completion cycle of R106, or of R107 when it is late. -/
def State.workTransfer (cycle : Nat) (s : State) (c : RecordCtx) (r : OpRecord) : Option Work :=
  (s.slotEntry r.slotOf).map (fun te =>
    let late := te.2.tooLate cycle
    let onTime := if r.opcode = 0x69 then
        te.2.start + te.2.reps * te.2.stride + 4 * te.1.hops s.bell.count.toNat te.2 + te.2.flits + 15
      else te.2.lastFlit + 1
    { units := [unitMI], occ := 1, depth := 0, transfer := true,
      reads := if r.opcode = 0x68 ∨ r.opcode = 0x78 then (s.operand c r 0).toList else [],
      writes := if r.opcode = 0x69 then (s.operand c r 3).toList else [],
      done := some (if late then cycle + 1 else onTime) })

/-- Local content that a record sends. -/
def State.sourceWords (s : State) (c : RecordCtx) (r : OpRecord) : List FWord :=
  match s.operand c r 0 with
  | some d => (s.tile c.tile).sram.wordsOf d.tileBase d (r.opcode ≠ 0x78)
  | none => []

/-- A transfer record binds to its slot entry: the entry's flits take its data. -/
def State.bindTransfer (s : State) (cycle : Nat) (c : RecordCtx) (r : OpRecord) (w : Work) : State :=
  let t : Transfer :=
    { entry := r.slotOf, tile := c.tile, opcode := r.opcode,
      late := (s.slotEntry r.slotOf).elim true (fun te => te.2.tooLate cycle),
      words := if r.opcode = 0x68 ∨ r.opcode = 0x78 then s.sourceWords c r else [],
      dest := if r.opcode = 0x69 then s.operand c r 0 else s.operand c r 3,
      tally := r.imm0 % 4096, amount := r.imm1, binding := r.imm0 }
  let s := s.begin c.tile cycle r w none
  if s.partRuns r.part then { s with mesh := { s.mesh with transfers := s.mesh.transfers ++ [t] } } else s

/-- Issue of MSEND, MREAD, TINC or EMIT. -/
def transferCmd (opcode : Nat) (tile : TileNo) (cycle : Nat) (s : State) : Result :=
  runLive (fun s => s.issueWith tile cycle opcode (State.workTransfer cycle) (fun c r w s => s.bindTransfer cycle c r w)) s

/-- MSEND (R106). -/
def execMsend (tile : TileNo) (cycle : Nat) (s : State) : Result := transferCmd 0x68 tile cycle s
/-- MREAD (R106). -/
def execMread (tile : TileNo) (cycle : Nat) (s : State) : Result := transferCmd 0x69 tile cycle s
/-- TINC (R108): the increment reaches the hub as TALLY_INCREMENT_ARRIVAL. -/
def execTinc (tile : TileNo) (cycle : Nat) (s : State) : Result := transferCmd 0x70 tile cycle s
/-- EMIT (R108). -/
def execEmit (tile : TileNo) (cycle : Nat) (s : State) : Result := transferCmd 0x78 tile cycle s

/-- The send entry of a flow in the tier's drove slot table (R231). -/
def State.sendEntry (s : State) (flow : Nat) : Option DroveEntry :=
  (s.droveEntries.find? (fun e => e.2.kind = 1 && e.2.flow = flow)).map (fun e => e.2)

/-- A DSEND's lateness: its mesh slot entry's (R107). -/
def State.dsendLate (s : State) (cycle : Nat) (e : DroveEntry) : Bool :=
  match s.slotEntry e.meshSlot with
  | some te => te.2.tooLate cycle
  | none => true

/-- DSEND's Work: it completes when its last cell slot is taken. -/
def State.workDsend (cycle : Nat) (s : State) (c : RecordCtx) (r : OpRecord) : Option Work :=
  match s.sendEntry r.imm0, s.tier? with
  | some e, some t =>
    some { units := [unitMI], occ := 1, depth := 0, transfer := true, reads := (s.operand c r 0).toList,
           done := some (if s.dsendLate cycle e then cycle + 1
             else slotCycle (clockMHz t.entry.clock) (cellSlot t.drove.budget e.outSlot (cellCount e.bytes - 1))) }
  | _, _ => none

/-- A DSEND issues: its flow's cells go out (R106, R235; log 73). -/
def State.bindDsend (s : State) (cycle : Nat) (c : RecordCtx) (r : OpRecord) (w : Work) : State :=
  let ws := s.sourceWords c r
  let s := s.begin c.tile cycle r w none
  match s.sendEntry r.imm0 with
  | some e =>
    if s.partRuns r.part then
      let late := s.dsendLate cycle e
      let s := { s with drove := { s.drove with outgoing := s.drove.outgoing ++ [(e.flow, ws, late)] } }
      s.sendFlow e ws late
    else s
  | none => s

/-- DSEND (R106). -/
def execDsend (tile : TileNo) (cycle : Nat) (s : State) : Result :=
  runLive (fun s => s.issueWith tile cycle 0x6A (State.workDsend cycle) (fun c r w s => s.bindDsend cycle c r w)) s

/-! ## Flits -/

def poisonFlit : List FWord := List.replicate 4 ⟨0, true⟩

/-- Four words of flit `n` of a transfer; zeros beyond its data (R106). -/
def flitWords (ws : List FWord) (n : Nat) : List FWord :=
  let w := (ws.drop (4 * n)).take 4
  w ++ List.replicate (4 - w.length) ⟨0, false⟩

/-- The transfer bound to an entry in this tick. -/
def State.transferOf (s : State) (e : Nat) : Option Transfer := s.mesh.transfers.find? (fun t => t.entry = e)

/-- The record of the tier's lists that names an entry, for slots that fire before it issues (R107): tile, record. -/
def State.recordFor (s : State) (e : Nat) : Option (Nat × OpRecord) :=
  s.tier?.bind (fun t => (List.range 256).findSome? (fun k =>
    (t.executor s.bell.count.toNat k).bind (fun ex => (t.list? ex).bind (fun l =>
      (l.records.find? (fun r => (r.opcode = 0x68 || r.opcode = 0x69 || r.opcode = 0x78) && r.slotOf = e)).map (fun r => (k, r))))))

/-- Descriptor at the far end of a transfer: D of MSEND, A of MREAD; D of MREAD for its replies. -/
def State.farDesc (s : State) (e : Nat) (reply : Bool) : Option Desc :=
  match s.transferOf e, s.recordFor e with
  | some t, some (k, r) => if reply then s.descAt k r.d 0 else t.dest
  | some t, none => if reply then none else t.dest
  | none, some (k, r) => s.descAt k (if reply ∨ r.opcode = 0x68 then r.d else r.a) 0
  | none, none => none

/-- Tile of an endpoint at this bell, if it is one. -/
def State.endTile (s : State) (code : Nat) : Option Nat := s.tier?.bind (fun t => t.endpointTile s.bell.count.toNat code)

/-- A tile that answers for itself on the planned plane (R78). A gated tile is powered down in its core, and like a quarantined one it
answers with poison (DESIGN CHOICE, log 179: R78 names only the states QUARANTINED and TESTING, and R84 a tile in reset). -/
def State.answers (s : State) (k : Nat) : Bool := (s.tile k).mode = .active && !(s.tile k).forReset

/-- LP5X address of a space 2 base of a partition. -/
def State.lp5xBase (s : State) (p : Nat) (d : Desc) : Nat := (s.partEntry p).winBase + d.base

/-- A flit's words written at its destination as the entry's owner (R68, R182). -/
def State.deliver (s : State) (x : SlotEntry) (d : Desc) (n : Nat) (ws : List FWord) : State :=
  match s.endTile x.dest with
  | some k => if s.takesWrites k then s.storeTile k x.owner (wordWrites d.tileBase d (4 * n) ws) else s
  | none =>
    if d.space = 2 then s.onMemory 0x100 (fun m => m.store (wordWrites (s.lp5xBase x.owner d) d (4 * n) ws))
    else if d.space = 3 then s.onMemory 0x110 (fun m => m.store (wordWrites d.base d (4 * n) ws))
    else s

/-- A contiguous buffer of bytes in a tile. -/
def buffer (base bytes : Nat) : Desc := { base := base, dims := [bytes, 1, 1, 1, 1] }

/-- Words of the drove flow that an entry delivers, and its byte count (R231, R234). -/
def State.droveSource (s : State) (e : Nat) : Option (List FWord × Nat) :=
  (s.droveEntries.find? (fun d => d.2.kind = 2 && d.2.meshSlot = e)).map (fun d =>
    (match s.drove.delivered.find? (fun x => x.1 = d.1) with
      | some x => x.2
      | none => List.replicate (30 * cellCount d.2.bytes) ⟨0, true⟩, d.2.bytes))

/-- Opcode of the record of an entry: the one bound to it, else the one that names it. -/
def State.opcodeOf (s : State) (e : Nat) : Option Nat :=
  ((s.transferOf e).map (fun t => t.opcode)).orElse (fun _ => (s.recordFor e).map (fun r => r.2.opcode))

/-- The sink binding that a flit of an entry feeds at the emit hub: that of an EMIT that issued in time (R107), or, where its tile does
not answer and sends poison in its slots (R78), that of the EMIT of its list. -/
def State.sinkOf (s : State) (e : Nat) (alive : Bool) : Option Nat :=
  match s.transferOf e with
  | some t => if t.opcode = 0x78 ∧ !t.late then some t.binding else none
  | none => match s.recordFor e with
    | some (_, r) => if r.opcode = 0x78 ∧ !alive then some r.imm0 else none
    | none => none

/-- Flit `n` of an EMIT reaches the emit hub (R108). -/
def State.emitArrives (s : State) (x : SlotEntry) (b n : Nat) (ws : List FWord) : State :=
  let old := (s.mesh.emitted.find? (fun m => m.binding = b)).getD ⟨b, [], false⟩
  let new : Emitted := { old with words := old.words ++ ws, complete := decide (n + 1 = (x.reps + 1) * x.flits) }
  { s with mesh := { s.mesh with emitted := s.mesh.emitted.filter (fun m => m.binding ≠ b) ++ [new] } }

/-- A pushed flit arrives (R71). -/
def State.pushArrives (s : State) (e rep k : Nat) (x : SlotEntry) (displaced : Bool) : State :=
  let n := rep * x.flits + k
  if x.source = 0x110 then
    s.deliver x (buffer 0xBFFE0 32) 0
      (packWords 4 (s.mesh.inputRecord.map (fun (b : Byte) => (b, false))))
  else if 0x108 ≤ x.source ∧ x.source < 0x110 then
    match s.droveSource e with
    | some (ws, bytes) =>
      s.deliver x (buffer (16 * (Config.receiveUnit ((s.plan.plan.map (fun p => p.header.planId)).getD 0) e % 49152)) bytes) n
        (flitWords ws n)
    | none => s
  else
    let alive := match s.endTile x.source with
      | some j => s.answers j
      | none => true
    let words := match s.transferOf e with
      | some t => if t.late ∨ displaced ∨ !alive then poisonFlit else flitWords t.words n
      | none => poisonFlit
    match s.sinkOf e alive with
    | some b => s.emitArrives x b n words
    | none =>
      if (0x108 ≤ x.dest ∧ x.dest < 0x110) ∨ s.opcodeOf e ≠ some 0x68 then s
      else match s.farDesc e false with
        | some d => s.deliver x d n words
        | none => s

/-- The words that the padded runs of a descriptor hold in a memory are read (R115, R172). -/
def State.noteRuns (s : State) (code base : Nat) (d : Desc) : State :=
  s.noteEach code (d.fetchedAt base)

/-- What the responder of a read reads: its content, poison where it cannot answer (R71, R78, R107). -/
def State.respond (s : State) (e : Nat) (x : SlotEntry) (displaced : Bool) : State × List FWord :=
  let poison := List.replicate (4 * x.flits * (x.reps + 1)) (⟨0, true⟩ : FWord)
  let late := (s.transferOf e).elim true (fun t => t.late)
  match s.farDesc e false with
  | none => (s, poison)
  | some d =>
    match s.endTile x.dest with
    | some k =>
      if late ∨ displaced ∨ !s.answers k then (s, poison)
      else
        let (s, ok) := s.useOperands k x.owner [d] true
        if ok then (s, (s.tile k).sram.wordsOf d.tileBase d true) else (s, poison)
    | none =>
      if late ∨ displaced then (s, poison)
      else
        let code := if d.space = 3 then 0x110 else 0x100
        let base := if d.space = 3 then d.base else s.lp5xBase x.owner d
        let s := s.noteRuns code base d
        (s, (s.memory code).wordsOf base d true)

/-- SRAM words of a requester that flits `n` to `n + len - 1` of a transfer write. -/
def flitTargets (d : Desc) (n len : Nat) : List Nat :=
  ((wordWrites d.tileBase d (4 * n) (List.replicate (4 * len) ⟨0, false⟩)).map (fun w => w.addr / 8)).eraseDups

/-- The request flit of a read is usable at the responder: the replies are fixed. -/
def State.requestArrives (s : State) (e rep : Nat) (x : SlotEntry) (displaced : Bool) : State :=
  let (s, ws) := s.respond e x displaced
  let rest := (s.farDesc e true).elim [] (fun d => flitTargets d (rep * x.flits) x.flits)
  let r : Reply := { entry := e, rep := rep, words := ws, responder := s.endTile x.dest, requester := (s.endTile x.source).getD 256,
                     owner := x.owner, rest := rest }
  { s with mesh := { s.mesh with replies := s.mesh.replies.filter (fun r => !(r.entry = e && r.rep = rep)) ++ [r] } }

/-- A reply after one of its flits: gone with the last one. -/
def Reply.after (r : Reply) (x : SlotEntry) (k : Nat) (d : Option Desc) : Option Reply :=
  if k + 1 = x.flits then none
  else
    let came := d.elim [] (fun d => flitTargets d (r.rep * x.flits + k) 1)
    some { r with rest := r.rest.filter (fun w => !came.contains w) }

/-- A reply flit is usable at the requester: an older epoch completes with poison (R84). -/
def State.replyArrives (s : State) (e rep k : Nat) (x : SlotEntry) (epoch : BitVec 2) : State :=
  let n := rep * x.flits + k
  let stale := match s.endTile x.dest with
    | some j => decide (epoch ≠ (s.tile j).epoch)
    | none => false
  let words := match s.mesh.replies.find? (fun r => r.entry = e && r.rep = rep) with
    | some r => if stale then poisonFlit else flitWords r.words n
    | none => poisonFlit
  let far := s.farDesc e true
  let s := { s with mesh := { s.mesh with replies := s.mesh.replies.filterMap (fun (r : Reply) =>
    if r.entry = e && r.rep = rep then r.after x k far else some r) } }
  match far, s.endTile x.source with
  | some d, some j =>
    if s.takesWrites j then s.storeTile j x.owner (wordWrites d.tileBase d (4 * n) words) else s
  | _, _ => s

/-- The increment that a TINC's flit brings to a tally at the hub (R107, R108): of a record that issued in time on a tile that answers for
itself, made once, to the tally that it names. -/
def State.tincAmount (s : State) (tally e : Nat) : Nat :=
  match s.transferOf e with
  | some t => if t.opcode = 0x70 ∧ !t.late ∧ !t.made ∧ t.tally = tally ∧ s.answers t.tile then t.amount else 0
  | none => 0

/-- The increments of a tally that entries' flits brought are made. -/
def State.tincsMade (s : State) (tally : Nat) (es : List Nat) : State :=
  { s with mesh := { s.mesh with transfers := s.mesh.transfers.map (fun t =>
    if t.opcode = 0x70 ∧ t.tally = tally ∧ es.contains t.entry then { t with made := true } else t) } }

/-- TALLY_INCREMENT_ARRIVAL (R108, R213): TINC flits of the named mesh slot entries are usable at the hub in one tile cycle; increments of
one cycle are added together. -/
def execTallyIncrementArrival (tally : Fin 4096) (arrival : TincArrival) (s : State) : Result :=
  runLive (fun s =>
    let amount := (arrival.entries.map (s.tincAmount tally)).sum
    if amount = 0 then s else (s.tincsMade tally arrival.entries).incTally tally amount (some arrival.cycle)) s

/-- PLANNED_FLIT_ARRIVAL (R71, R73): a flit of the other bell's parity is discarded. -/
def execPlannedFlitArrival (entry rep : Nat) (part : FlitPart) (parity : Bool) (epoch : BitVec 2) (displaced : Bool) (s : State) :
    Result :=
  runLive (fun s =>
    match s.slotEntry entry with
    | none => s
    | some (_, x) =>
      if parity ≠ s.parity ∨ x.reps < rep then s
      else match part with
        | .request => if x.kind = 2 then s.requestArrives entry rep x displaced else s
        | .data k =>
          if x.flits ≤ k then s
          else if x.kind = 2 then s.replyArrives entry rep k x epoch
          else s.pushArrives entry rep k x displaced) s

end Sys2Proof.Machine
end

