-- ==== Sys2Proof/Machine/PlanImage.lean ====
section
/-!
DEFINITION. Reading a plan image (02 Tables PLAN-1 to PLAN-7, and the sections of 03, 04, 05, 07, 08, 09, 10). An image is a list of
bytes; a byte beyond it reads as 0. What the bytes must be is checked in PlanCheck.lean.
-/
namespace Sys2Proof.Machine

/-! ## Fields (R40) -/

abbrev Image := List Byte

def Image.u (m : Image) (k o : Nat) : Nat := leNat ((m.drop o).take k)
def u8 (m : Image) (o : Nat) : Nat := Image.u m 1 o
def u16 (m : Image) (o : Nat) : Nat := Image.u m 2 o
def u24 (m : Image) (o : Nat) : Nat := Image.u m 3 o
def u32 (m : Image) (o : Nat) : Nat := Image.u m 4 o
def u64 (m : Image) (o : Nat) : Nat := Image.u m 8 o

/-- `n` bytes from `o` on are zero. -/
def zeros (m : Image) (o n : Nat) : Bool := ((m.drop o).take n).all (fun b => b = 0)

/-- `n` things read at `o`, `o + step`, ... -/
def table {α : Type} (n o step : Nat) (f : Nat → α) : List α := (List.range n).map (fun i => f (o + step * i))

/-! ## Header and directory -/

def readHeader (m : Image) : Header :=
  { magic := u32 m 0, version := u16 m 4, headerLength := u16 m 6, planId := u64 m 8, imageLength := u32 m 0x10,
    sectionCount := u16 m 0x14, tierMask := u8 m 0x16, memberId := u8 m 0x17, setMask := Image.u m 16 0x18,
    bellPeriod := u32 m 0x28, slot := u16 m 0x2C, guard := u16 m 0x2E, cutoff := u32 m 0x30, partCode := u32 m 0x34,
    minSilicon := u16 m 0x38, minDmf := u32 m 0x3C, lp5xMib := u32 m 0x40, reservedZero := zeros m 0x3A 2 && zeros m 0x48 56 }

def readSection (m : Image) (o : Nat) : Section :=
  { type := u16 m o, inst := u16 m (o + 2), offset := u32 m (o + 4), length := u32 m (o + 8), reserved := u32 m (o + 12) }

/-- The section directory. -/
def directory (m : Image) : List Section := table (u16 m 0x14) 0x80 16 (readSection m)

/-- Bytes of a section, if the image has it. -/
def sectionOf (m : Image) (type inst : Nat) : Option Image :=
  ((directory m).find? (fun s => s.type = type && s.inst = inst)).map (fun s => (m.drop s.offset).take s.length)

/-! ## Sections -/

def readTierEntry (m : Image) (o : Nat) : TierEntry :=
  { index := u8 m o, present := bitOf (u8 m (o + 1)) 0, noFlow := bitOf (u8 m (o + 1)) 1, clock := u8 m (o + 2),
    vddMv := u16 m (o + 4), droveMask := u8 m (o + 6), partSet := u32 m (o + 8), peakMw := u32 m (o + 0xC),
    memberMask := Image.u m 16 (o + 0x10), tileMask := Image.u m 32 (o + 0x20),
    reservedZero := u8 m (o + 1) < 4 && u8 m (o + 2) < 4 && zeros m (o + 3) 1 && zeros m (o + 7) 1 && zeros m (o + 0x44) 60 }

def readPower (m : Image) : List PowerRecord :=
  table (u16 m 0) 4 36 (fun o => { blocks := table 16 o 2 (u16 m), uncore := u16 m (o + 32) })

def readDesc (m : Image) (o : Nat) : Desc :=
  let shape := u8 m (o + 7)
  { base := Image.u m 5 o, space := u8 m (o + 5) % 16, ety := u8 m (o + 6), inner := bitOf shape 7, unit := bitsOf shape 5 2,
    rank := shape % 8, dims := table 5 (o + 8) 2 (u16 m), strides := table 4 (o + 0x12) 3 (u24 m), companion := u16 m (o + 0x1E),
    reserved := u8 m (o + 5) < 16 && bitsOf shape 3 2 = 0 }

def readDescs (m : Image) : List Desc := table (u32 m 0) 0x10 32 (readDesc m)

def readRecord (m : Image) (o : Nat) : OpRecord :=
  { opcode := u8 m o, part := u8 m (o + 1), flags := u16 m (o + 2), issue := u32 m (o + 4), a := u16 m (o + 8), b := u16 m (o + 0xA),
    c := u16 m (o + 0xC), d := u16 m (o + 0xE), imm0 := u32 m (o + 0x10), imm1 := u32 m (o + 0x14), imm2 := u32 m (o + 0x18),
    wait := u16 m (o + 0x1C), store := u8 m (o + 0x1E), reserved := u8 m (o + 0x1F) }

def readLists (m : Image) : List OpList :=
  table (u32 m 0) 0x10 16 (fun o =>
    { executor := u16 m o, records := table (u32 m (o + 8)) (u32 m (o + 4)) 32 (readRecord m) })

def readSlot (m : Image) (o : Nat) : SlotEntry :=
  { source := u16 m o, dest := u16 m (o + 2), kind := u8 m (o + 4), owner := u8 m (o + 5), flits := u16 m (o + 6),
    start := u32 m (o + 8), reps := u16 m (o + 0xC), stride := u16 m (o + 0xE) }

def readSlots (m : Image) : List SlotEntry := table (u32 m 0) 0x10 16 (readSlot m)

def readDroveEntry (m : Image) (o : Nat) : DroveEntry :=
  { flow := u16 m o, kind := u8 m (o + 2), owner := u8 m (o + 3), inPort := u8 m (o + 4), outPort := u8 m (o + 5),
    bytes := u32 m (o + 8), inSlot := u32 m (o + 0xC), outSlot := u32 m (o + 0x10), meshSlot := u32 m (o + 0x14),
    source := u8 m (o + 0x18), dest := u8 m (o + 0x19) }

def readDrove (m : Image) : DroveTable :=
  { budget := u16 m 4, planSlots := u32 m 8, entries := table (u32 m 0) 0x10 32 (readDroveEntry m) }

def readGroups (m : Image) : List RotGroup :=
  table (u16 m 0) 2 24 (fun o =>
    { ident := u8 m o, active := u8 m (o + 2), period := u16 m (o + 4), tiles := table (u8 m (o + 1)) (o + 8) 1 (u8 m) })

def readBindings (m : Image) : List Binding :=
  table (u16 m 0) 2 16 (fun o =>
    { kind := u8 m o, index := u8 m (o + 1), owner := u8 m (o + 2), carried := bitOf (u8 m (o + 3)) 0, offset := u32 m (o + 4),
      source := u16 m (o + 8) })

def readRegion (m : Image) (o : Nat) : Region :=
  { base := u32 m o, length := u32 m (o + 4), owner := u8 m (o + 8), attrs := u8 m (o + 9), golden := u32 m (o + 0xC) }

def readPart (m : Image) (present : Bool) (o : Nat) : PartEntry :=
  { present := present, cls := u8 m o, tallyBase := u16 m (o + 2), tallyCount := u16 m (o + 4), memTally := u16 m (o + 6),
    winBase := u64 m (o + 8), winSize := u64 m (o + 0x10), mailboxes := u64 m (o + 0x18), cameras := u8 m (o + 0x20) % 16,
    reservedZero := zeros m (o + 1) 1 && u8 m (o + 0x20) < 16 && zeros m (o + 0x21) 31 }

/-- The partition table's counts: region records, tally configs, exchange entries. -/
def partCounts (m : Image) : Nat × Nat × Nat := (u16 m 4, u16 m 6, u16 m 8)

def readParts (m : Image) : List PartEntry :=
  (List.range 32).map (fun p => readPart m (bitOf (u32 m 0) p) (0x10 + 64 * p))

def readOwnership (m : Image) (k : Nat) : List Nat := table 256 (0x810 + 256 * k) 1 (u8 m)

def readExchanges (m : Image) : List Exchange :=
  table (u16 m 8) 0x1010 32 (fun o => { producer := u8 m o, consumer := u8 m (o + 1), base := u64 m (o + 8), length := u64 m (o + 16) })

def readRegions (m : Image) : List RegionRecord :=
  table (u16 m 4) (0x1010 + 32 * u16 m 8) 32 (fun o => { tile := u16 m o, index := u8 m (o + 2), region := readRegion m (o + 16) })

def readTallies (m : Image) : List TallyConfig :=
  table (u16 m 6) (0x1010 + 32 * u16 m 8 + 32 * u16 m 4) 16 (fun o =>
    { index := u16 m o, wake := bitOf (u8 m (o + 2)) 0, event := bitOf (u8 m (o + 2)) 1, fire := bitOf (u8 m (o + 2)) 2,
      autoReset := bitOf (u8 m (o + 3)) 0, target := u32 m (o + 4), sinkKind := u8 m (o + 8), sinkIndex := u8 m (o + 9) })

def readForks (m : Image) : List ForkTable :=
  table (u32 m 0) 0x10 32 (fun o =>
    { owner := u8 m o, futures := u16 m (o + 2), pages := u16 m (o + 4), pageBytes := u32 m (o + 8), poolPages := u32 m (o + 0xC),
      poolBase := u64 m (o + 0x10), entries := table (u16 m (o + 2) * u16 m (o + 4)) (u32 m (o + 0x18)) 4 (u32 m) })

def readPlacements (m : Image) : List Placement :=
  table (u32 m 0) 0x10 16 (fun o =>
    { desc := u16 m o, target := u16 m (o + 2), offset := u32 m (o + 4), length := u32 m (o + 8) })

/-! ## The whole plan -/

/-- Content of a section, or of an empty one. -/
def sectionBytes (m : Image) (type inst : Nat) : Image := (sectionOf m type inst).getD []

/-- Tier `k`, when the presence mask names it. -/
def readTier (m : Image) (k : Nat) : Option Tier :=
  if bitOf (u8 m 0x16) k then
    some { entry := readTierEntry (sectionBytes m 1 0xFFFF) (128 * k), profile := readPower (sectionBytes m 2 k),
           lists := readLists (sectionBytes m 5 k), slots := readSlots (sectionBytes m 6 k), drove := readDrove (sectionBytes m 7 k),
           groups := readGroups (sectionBytes m 9 k), bindings := readBindings (sectionBytes m 0xB k),
           ownership := readOwnership (sectionBytes m 3 0xFFFF) k }
  else none

/-- The plan that an image spells. -/
def readPlan (m : Image) : Plan :=
  let pt := sectionBytes m 3 0xFFFF
  { header := readHeader m, tiers := (List.range 8).map (readTier m), parts := readParts pt, exchanges := readExchanges pt,
    regions := readRegions pt, tallies := readTallies pt, descs := readDescs (sectionBytes m 4 0xFFFF),
    forks := readForks (sectionBytes m 8 0xFFFF), shedMap := table 4 0 1 (u8 (sectionBytes m 0xA 0xFFFF)),
    placements := readPlacements (sectionBytes m 0xC 0xFFFF), goldenLength := (sectionBytes m 0xC 0xFFFF).length }

end Sys2Proof.Machine
end

