-- ==== Sys2Proof/Machine/PlanFormat.lean ====
section
/-!
DEFINITION. Steps 1 to 5 of Table PLAN-9: lengths, signature (R42), and the format of the image and its sections (R40, R41, R88, R111 to
R116, R153, R202, R205; Tables TILE-4, DROVE-4, PLAN-5, PLAN-7, MEM-2).
-/
namespace Sys2Proof.Machine

/-! ## Steps 1 to 4 (R42) -/

/-- Start of the signature block. -/
def sigAt (m : Image) : Nat := u32 m 0x10 - 144

/-- Step 1: image length, covered length and signature block within the staging length. A block without its magic is none, and fails
here: Table PLAN-9 names no step for it (DESIGN CHOICE, log 181). -/
def lengthsOk (staged : Nat) (m : Image) : Bool :=
  let l := u32 m 0x10
  decide (272 ≤ l ∧ l ≤ staged ∧ l ≤ m.length) && u32 m (sigAt m + 8) = l - 144 && u32 m (sigAt m) = 0x31474953

/-- Step 2: the key slot is programmed and not revoked. -/
def keyOf (keys : Vector KeySlot 4) (m : Image) : Option KeySlot :=
  if u8 m (sigAt m + 4) < 4 then
    let k := vget keys (u8 m (sigAt m + 4)) {}
    if k.programmed && !k.revoked then some k else none
  else none

/-- The public key's bytes, X then Y. -/
def keyBytes (m : Image) : List Byte := (m.drop (sigAt m + 0x10)).take 64

/-- Step 3: the key's digest matches the fuse. -/
def digestOk (keys : Vector KeySlot 4) (m : Image) : Bool :=
  match keyOf keys m with
  | some k => Config.sha256 (keyBytes m) = k.digest
  | none => false

/-- Step 4: algorithm and signature. -/
def signatureOk (m : Image) : Bool :=
  u8 m (sigAt m + 5) = 1
  && Config.ecdsaP256 (keyBytes m) (Config.sha256 (m.take (sigAt m))) ((m.drop (sigAt m + 0x50)).take 64)

/-! ## Step 5: container (R40, R41) -/

/-- A section type that serves all tiers, and one per tier (Table PLAN-4). -/
def wholeTypes : List Nat := [1, 3, 4, 8, 0xA, 0xC]
def tierTypes : List Nat := [2, 5, 6, 7, 9, 0xB]

def Section.ok (m : Image) (s : Section) : Bool :=
  s.reserved = 0 && s.offset % 16 = 0 && decide (0x80 + 16 * u16 m 0x14 ≤ s.offset) && decide (s.offset + s.length ≤ sigAt m)
  && ((wholeTypes.contains s.type && s.inst = 0xFFFF) || (tierTypes.contains s.type && decide (s.inst < 8)))

/-- Two sections share no byte, and no (type, instance). -/
def Section.apartFrom (s t : Section) : Bool :=
  !(s.type = t.type && s.inst = t.inst)
  && (s.length = 0 || t.length = 0 || decide (s.offset + s.length ≤ t.offset ∨ t.offset + t.length ≤ s.offset))

/-- Every pair of a list satisfies `f`. -/
def pairwiseB {α : Type} (f : α → α → Bool) : List α → Bool
  | [] => true
  | x :: xs => xs.all (f x) && pairwiseB f xs

/-- Bytes between the sections are zero (R40). -/
def gapsZero (m : Image) : Bool :=
  let from_ := 0x80 + 16 * u16 m 0x14
  (List.range (sigAt m - from_)).all (fun i =>
    u8 m (from_ + i) = 0 || (directory m).any (fun s => decide (s.offset ≤ from_ + i ∧ from_ + i < s.offset + s.length)))

/-- Tiers of the presence mask. -/
def maskTiers (m : Image) : List Nat := (List.range 8).filter (fun k => bitOf (u8 m 0x16) k)

def containerOk (m : Image) : Bool :=
  let h := readHeader m
  h.magic = 0x4C504B4A && h.version = 1 && h.headerLength = 128 && h.planId ≠ 0 && h.imageLength % 16 = 0
  && decide (1 ≤ h.sectionCount ∧ h.sectionCount ≤ 256) && decide (h.memberId < 128) && h.reservedZero
  && zeros m (sigAt m + 6) 2 && zeros m (sigAt m + 0xC) 4
  && decide (0x80 + 16 * h.sectionCount ≤ sigAt m)
  && (directory m).all (Section.ok m) && pairwiseB Section.apartFrom (directory m) && gapsZero m
  && [1, 3, 4, 0xA].all (fun t => (sectionOf m t 0xFFFF).isSome)
  && (maskTiers m).all (fun k => [2, 5, 0xB].all (fun t => (sectionOf m t k).isSome))

/-! ## Step 5: sections -/

/-- A section, if the image has it, satisfies `f`. -/
def fmt (m : Image) (type inst : Nat) (f : Image → Bool) : Bool :=
  match sectionOf m type inst with
  | some b => f b
  | none => true

/-- Tier table: reserved fields, all zero for an absent tier (Table PLAN-5). -/
def tierTableOk (mask : Nat) (b : Image) : Bool :=
  b.length = 1024 && (List.range 8).all (fun k =>
    if bitOf mask k then (readTierEntry b (128 * k)).reservedZero && u8 b (128 * k) = k else zeros b (128 * k) 128)

def powerOk (b : Image) : Bool :=
  decide (1 ≤ u16 b 0 ∧ u16 b 0 ≤ 4096) && zeros b 2 2 && b.length = 4 + 36 * u16 b 0
  && (List.range (u16 b 0)).all (fun i => zeros b (4 + 36 * i + 34) 2)

/-- Element types of Table LAYOUT-4. -/
def typeKnown (t : Nat) : Bool := [0, 1, 2, 3, 0x10, 0x11, 0x12, 0x20, 0x21].contains t

/-- The rules of a descriptor that no record changes (Tables LAYOUT-2, LAYOUT-3; R114, R115, R116). -/
def Desc.ok (ds : List Desc) (d : Desc) : Bool :=
  d.reserved && decide (d.space ≤ 3) && typeKnown d.ety && decide (1 ≤ d.rank ∧ d.rank ≤ 5) && d.dims.all (fun n => decide (1 ≤ n))
  && (List.range 5).all (fun k => decide (k < d.rank) || d.dim k = 1)
  && (List.range 5).all (fun k => decide (k < d.rank ∨ k = 0) || d.stride k = 0)
  && (List.range 4).all (fun k => d.stride (k + 1) % d.esize = 0)
  && (d.space ≠ 0 || decide (d.base < 2 ^ 20)) && (d.space ≠ 3 || decide (d.base < 8388608))
  && (d.space ≠ 1 || (decide (d.base < 2 ^ 36) && (decide (d.endpoint < 0x100) || decide (0x8000 ≤ d.endpoint))))
  && (d.companion = 0xFFFF || (match ds[d.companion]? with
    | some c => c.space = d.space && c.companion = 0xFFFF
    | none => false))

def descsOk (b : Image) : Bool :=
  decide (1 ≤ u32 b 0 ∧ u32 b 0 ≤ 65520) && zeros b 4 12 && b.length = 0x10 + 32 * u32 b 0 && (readDescs b).all (Desc.ok (readDescs b))

def listsOk (b : Image) : Bool :=
  decide (1 ≤ u32 b 0 ∧ u32 b 0 ≤ 1280) && zeros b 4 12 && decide (0x10 + 16 * u32 b 0 ≤ b.length)
  && (List.range (u32 b 0)).all (fun i =>
    let o := 0x10 + 16 * i
    zeros b (o + 2) 2 && zeros b (o + 12) 4 && u32 b (o + 4) % 32 = 0 && decide (1 ≤ u32 b (o + 8) ∧ u32 b (o + 8) ≤ 1048576)
    && decide (u32 b (o + 4) + 32 * u32 b (o + 8) ≤ b.length))

/-- Start cycles rise. -/
def sorted : List Nat → Bool
  | [] => true
  | [_] => true
  | a :: b :: r => decide (a ≤ b) && sorted (b :: r)

def slotsOk (b : Image) : Bool :=
  zeros b 4 12 && b.length = 0x10 + 16 * u32 b 0 && sorted ((readSlots b).map (fun e => e.start))
  && (readSlots b).all (fun e => (e.kind = 1 || e.kind = 2) && decide (e.owner < 32) && decide (1 ≤ e.flits ∧ e.flits ≤ 4096)
    && (e.reps = 0 || decide (e.flits ≤ e.stride)))

def droveOk (b : Image) : Bool :=
  decide (u32 b 0 ≤ 65536) && decide (10 ≤ u16 b 4 ∧ u16 b 4 ≤ 200) && zeros b 6 2 && zeros b 0xC 4 && b.length = 0x10 + 32 * u32 b 0
  && (List.range (u32 b 0)).all (fun e => zeros b (0x10 + 32 * e + 6) 2 && zeros b (0x10 + 32 * e + 0x1A) 6)
  && (readDrove b).entries.all (fun e => decide (1 ≤ e.kind ∧ e.kind ≤ 3) && decide (e.owner < 32)
    && (decide (e.inPort < 8) || e.inPort = 0xFF) && (decide (e.outPort < 8) || e.outPort = 0xFF))

def groupsOk (b : Image) : Bool :=
  decide (u16 b 0 ≤ 64) && b.length = 2 + 24 * u16 b 0
  && (List.range (u16 b 0)).all (fun g =>
    let o := 2 + 24 * g
    let n := u8 b (o + 1)
    decide (2 ≤ n ∧ n ≤ 16) && decide (1 ≤ u8 b (o + 2) ∧ u8 b (o + 2) < n) && zeros b (o + 3) 1 && decide (1 ≤ u16 b (o + 4))
    && zeros b (o + 6) 2 && zeros b (o + 8 + n) (16 - n))

def bindingsOk (b : Image) : Bool :=
  b.length = 2 + 16 * u16 b 0
  && (List.range (u16 b 0)).all (fun j =>
    let o := 2 + 16 * j
    decide (1 ≤ u8 b o ∧ u8 b o ≤ 6) && decide (u8 b (o + 2) < 32) && decide (u8 b (o + 3) < 2) && zeros b (o + 10) 6)

/-- Fork tables (Tables SEQ-1, SEQ-2; R153). -/
def forksOk (parts : List PartEntry) (b : Image) : Bool :=
  decide (1 ≤ u32 b 0 ∧ u32 b 0 ≤ 256) && zeros b 4 12 && decide (0x10 + 32 * u32 b 0 ≤ b.length)
  && (List.range (u32 b 0)).all (fun j =>
    let o := 0x10 + 32 * j
    let at_ := u32 b (o + 0x18)
    zeros b (o + 1) 1 && zeros b (o + 6) 2 && zeros b (o + 0x1C) 4 && at_ % 16 = 0
    && decide (0x10 + 32 * u32 b 0 ≤ at_) && decide (at_ + 4 * (u16 b (o + 2) * u16 b (o + 4)) ≤ b.length))
  && (readForks b).all (fun f =>
    decide (1 ≤ f.futures ∧ f.futures ≤ 1024) && decide (1 ≤ f.pages ∧ f.pages ≤ 4096) && f.pageBytes % 4096 = 0
    && decide (4096 ≤ f.pageBytes ∧ f.pageBytes ≤ 1048576) && decide (1 ≤ f.poolPages ∧ f.poolPages ≤ 2 ^ 24) && f.poolBase % 4096 = 0
    && decide (2 ≤ (parts.getD f.owner {}).cls) && (parts.getD f.owner {}).present
    && f.entries.all (fun e => decide (e < f.poolPages) || e = 0xFFFFFFFF))

/-- The partition table (Tables PART-2 to PART-4, PART-7; R200, R205; Table MEM-1). -/
def partsOk (b : Image) : Bool :=
  let n := partCounts b
  bitOf (u32 b 0) 0 && decide (n.1 ≤ 4096 ∧ n.2.1 ≤ 4096 ∧ n.2.2 ≤ 64) && zeros b 0xA 6
  && b.length = 0x1010 + 32 * n.2.2 + 32 * n.1 + 16 * n.2.1
  && (List.range 32).all (fun p =>
    let e := (readParts b).getD p {}
    if e.present then
      e.reservedZero && decide (e.cls ≤ 4) && decide ((p = 0) = (e.cls = 0)) && decide (e.tallyBase ≤ 4095)
      && decide (e.tallyBase + e.tallyCount ≤ 4096)
      && (e.memTally = 0xFFFF || decide (e.tallyBase ≤ e.memTally ∧ e.memTally < e.tallyBase + e.tallyCount))
      && e.winBase % 2 ^ 21 = 0 && e.winSize % 2 ^ 21 = 0
    else zeros b (0x10 + 64 * p) 64)
  && (List.range n.2.2).all (fun x => zeros b (0x1010 + 32 * x + 2) 6 && zeros b (0x1010 + 32 * x + 0x18) 8)
  && (readExchanges b).all (fun x => bitOf (u32 b 0) x.producer && bitOf (u32 b 0) x.consumer && x.producer ≠ x.consumer
    && x.base % 4096 = 0 && x.length % 4096 = 0 && decide (4096 ≤ x.length))
  && (List.range n.1).all (fun i => zeros b (0x1010 + 32 * n.2.2 + 32 * i + 3) 13 && zeros b (0x1010 + 32 * n.2.2 + 32 * i + 26) 2)
  && (readRegions b).all (fun r => decide (r.tile < 256 ∧ r.index < 16) && r.region.base % 4096 = 0 && decide (r.region.base < 2 ^ 20)
    && r.region.length % 4096 = 0 && decide (4096 ≤ r.region.length ∧ r.region.length ≤ 786432) && decide (r.region.owner < 32)
    && decide (r.region.attrs < 16)
    && (if r.region.reloadable then r.region.golden % 4096 = 0 else r.region.golden = 0xFFFFFFFF))
  && (List.range n.2.1).all (fun t =>
    let o := 0x1010 + 32 * n.2.2 + 32 * n.1 + 16 * t
    decide (u8 b (o + 2) < 8) && decide (u8 b (o + 3) < 2) && zeros b (o + 10) 6 && decide (1 ≤ u32 b (o + 4))
    && (if bitOf (u8 b (o + 2)) 2 then decide (u8 b (o + 9) < (if u8 b (o + 8) = 4 then 4 else 8))
        else u8 b (o + 8) = 0 && u8 b (o + 9) = 0))

/-- Initial data (Table MEM-2). -/
def initialDataOk (b : Image) : Bool :=
  decide (1 ≤ u32 b 0 ∧ u32 b 0 ≤ 65536) && zeros b 4 12 && decide (0x10 + 16 * u32 b 0 ≤ b.length)
  && (List.range (u32 b 0)).all (fun i => zeros b (0x10 + 16 * i + 12) 4)
  && (readPlacements b).all (fun x => x.offset % 16 = 0 && decide (0x10 + 16 * u32 b 0 ≤ x.offset) && decide (x.offset + x.length ≤ b.length))

/-- Step 5. -/
def formatOk (m : Image) : Bool :=
  containerOk m && fmt m 1 0xFFFF (tierTableOk (u8 m 0x16)) && fmt m 3 0xFFFF partsOk && fmt m 4 0xFFFF descsOk
  && fmt m 8 0xFFFF (forksOk (readParts (sectionBytes m 3 0xFFFF))) && fmt m 0xA 0xFFFF (fun b => b.length = 4)
  && fmt m 0xC 0xFFFF initialDataOk
  && (maskTiers m).all (fun k => fmt m 2 k powerOk && fmt m 5 k listsOk && fmt m 6 k slotsOk && fmt m 7 k droveOk
    && fmt m 9 k groupsOk && fmt m 0xB k bindingsOk)

end Sys2Proof.Machine
end

