-- ==== Sys2Proof/Machine/PlanFit.lean ====
section
/-!
DEFINITION. Steps 6 to 12 and 14 of Table PLAN-9: what a plan must agree with and fit into (R10, R14, R37, R45, R46, R118 to R121,
R153, R174, R179, R181, R201, R203 to R205, R221, R253, R267, R290, R329, R347, R375 to R377, R389, R448).
-/
namespace Sys2Proof.Machine

/-! ## Records as their list issues them (R90, R97, R105) -/

/-- A planned issue of a record: its place in the list, the loop levels in force, outermost first, with their counters, and what each
override slot holds, with whether that names a private page (R154). -/
structure Issue where
  pos : Nat
  record : OpRecord
  loops : List LoopFrame
  slots : List (Nat × Desc × Bool)
deriving DecidableEq, Repr

/-- Counter of loop level `l`; level 0 adds nothing. -/
def Issue.counter (x : Issue) (l : Nat) : Nat := if l = 0 then 0 else ((x.loops[l - 1]?).map (fun f => f.iter)).getD 0

/-- What a descriptor field with an advance names (R90). -/
def Issue.descOf (p : Plan) (x : Issue) (field add : Nat) : Option Desc :=
  if field = 0xFFFF then none
  else if 0xFFF0 ≤ field ∧ field ≤ 0xFFF7 then (assocGet (field - 0xFFF0) x.slots).map (fun e => e.1)
  else p.descs[field + add]?

/-- Operand `i`. -/
def Issue.operand (p : Plan) (x : Issue) (i : Nat) : Option Desc :=
  x.descOf p (x.record.field i) (x.counter (x.record.advance i))

/-- Entries of a fork table that name a page. -/
def ForkTable.sharers (f : ForkTable) (page : Nat) : Nat := (f.entries.filter (fun e => e = page)).length

/-- What an FMAP puts into its slot (R105): the template at its page, and whether that page is private (R152). A lookup that fails at run
time (Table OPS-6) stands for the pool's first page, which is no private one. -/
def Issue.mapped (p : Plan) (x : Issue) : Option (Nat × Desc × Bool) :=
  let r := x.record
  match x.operand p 0, p.forks[r.imm0 % 256]? with
  | some d, some f =>
    let future := r.imm1 % 65536 + x.counter (bitsOf r.imm1 16 2)
    let page := r.imm2 % 65536 + x.counter (bitsOf r.imm2 16 2)
    some (bitsOf r.imm0 8 3, match f.page future page with
      | some a => ({ d with base := a + d.base }, f.sharers (f.entries.getD (future * f.pages + page) 0) = 1)
      | none => ({ d with base := f.poolBase + d.base }, false))
  | _, _ => none

/-- The override slots after the issue. -/
def Issue.slotsAfter (p : Plan) (x : Issue) : List (Nat × Desc × Bool) :=
  if x.record.opcode = 0x88 then (match x.mapped p with
    | some e => assocPut e.1 e.2 x.slots
    | none => x.slots)
  else x.slots

/-- The issues of a list in order, at most `fuel` of them, loops unrolled; cycles aside. -/
def OpList.issuesFrom (p : Plan) (l : OpList) : (fuel : Nat) → Sequencer → List (Nat × Desc × Bool) → List Issue
  | 0, _, _ => []
  | fuel + 1, q, slots =>
    match l.records[q.pc]? with
    | none => []
    | some r =>
      let x : Issue := { pos := q.pc, record := r, loops := q.loops, slots := slots }
      x :: l.issuesFrom p fuel (q.advance 0 { units := [], occ := 0, depth := 0 } (if r.opcode = 1 then some (r.frame q.pc 0) else none))
        (x.slotsAfter p)

/-- Last cycle of a tick before the maintenance slot (R96). -/
def Plan.lastCycle (p : Plan) (t : Tier) : Nat := (p.header.bellPeriod - p.header.slot) * clockMHz t.entry.clock

/-- The issues of a list in a tick. One a cycle is the most that R92 allows, so a list with more of them than cycles cannot be legal. -/
def OpList.issues (p : Plan) (t : Tier) (l : OpList) : List Issue := l.issuesFrom p (p.lastCycle t + 1) {} []

/-- Descriptor fields that stand in immediates (Table OPS-4). -/
def OpRecord.extraFields (r : OpRecord) : List Nat :=
  (if r.opcode = 0x15 then (if bitOf r.imm1 4 then [r.imm2 % 65536] else []) ++ (if bitOf r.imm1 5 then [r.imm2 / 65536] else [])
    else if r.opcode = 0x40 ∨ (r.opcode = 0x42 ∧ r.imm2 % 65536 ≠ 0xFFFF) then [r.imm2 % 65536] else [])

/-- Operand that a record writes beside D: SMX state, RENORM. -/
def OpRecord.writesOperand (r : OpRecord) (i : Nat) : Bool :=
  i = 3 || (r.opcode = 0x40 && i = 2) || (r.opcode = 0x80 && (i = 0 || i = 2))

/-- Lists of every present tier. -/
def Plan.allLists (p : Plan) : List (Nat × Tier × OpList) :=
  p.present.flatMap (fun k => match p.tier? k with
    | some t => t.lists.map (fun l => (k, t, l))
    | none => [])

/-- Partition that owns an executor in a tier (R89, R203). -/
def Tier.ownerOf (t : Tier) (ex : Nat) : Nat :=
  if ex < 256 then t.ownership.getD ex 0xFF
  else match t.groups.find? (fun g => g.ident = (ex - 0x8000) / 256) with
    | some g => t.ownership.getD (g.tiles.headD 0) 0xFF
    | none => 0xFF

/-- Bells over which every rotation of a tier repeats. -/
def Tier.span (t : Tier) : Nat := t.groups.foldl (fun n g => n * (g.period * g.tiles.length)) 1

/-! ## Steps 6 to 9 -/

/-- Step 6. -/
def partFits (s : State) (h : Header) : Bool :=
  h.partCode = 0x2560 && decide (h.minSilicon ≤ s.board.silicon.toNat) && decide (h.minDmf ≤ s.boot.dmfVersion.toNat)

/-- Step 7 (R10, R14; Table PLAN-2). -/
def bellFits (s : State) (h : Header) : Bool :=
  h.bellPeriod = s.obj 0x2100 1 && h.slot = s.obj 0x2100 2 && h.guard = s.obj 0x2100 6
  && decide (500 ≤ h.bellPeriod ∧ h.bellPeriod ≤ 20000) && decide (20 ≤ h.slot ∧ h.slot ≤ 2000 ∧ 4 * h.slot ≤ h.bellPeriod)
  && decide (2 ≤ h.guard ∧ h.guard ≤ 20 ∧ h.guard < h.slot) && decide (h.cutoff < h.bellPeriod - h.slot)

/-- Partition `q` has a class among `cs`. -/
def Plan.classIn (p : Plan) (cs : List Nat) (q : Nat) : Bool := cs.contains (p.parts.getD q {}).cls

/-- Every partition of a tier is present and has a class among `cs`. -/
def Plan.onlyClasses (p : Plan) (t : Tier) (cs : List Nat) : Bool :=
  (List.range 32).all (fun q => !bitOf t.entry.partSet q || ((p.parts.getD q {}).present && p.classIn cs q))

/-- Step 8 (R37). -/
def tiersFit (p : Plan) : Bool :=
  bitOf p.header.tierMask 0
  && (List.range 8).all (fun k => match p.tier? k with
    | some t => t.entry.present && (k ≠ 7 || (t.entry.droveMask = 0 && p.onlyClasses t [0, 1]))
    | none => true)

/-- Minimum VDD_CORE of a tile clock, mV (Table PINS-5). -/
def minVdd (clock : Nat) : Nat := [600, 650, 720, 800].getD clock 800

/-- Power of a record, mW. -/
def PowerRecord.mw (r : PowerRecord) : Nat := 10 * (r.blocks.sum + r.uncore)

/-- Some tile of block `b` is active at bell `n` (R389). -/
def Tier.blockActive (t : Tier) (b n : Nat) : Bool :=
  (List.range 256).any (fun k => decide (4 * (k / 64) + k % 16 / 4 = b) && t.uses n k)

/-- Step 9 (Table PLAN-5, R389, R448). -/
def powerFits (p : Plan) : Bool :=
  p.present.all (fun k => match p.tier? k with
    | some t =>
      decide (600 ≤ t.entry.vddMv ∧ t.entry.vddMv ≤ 850 ∧ minVdd t.entry.clock ≤ t.entry.vddMv) && decide (t.entry.peakMw ≤ 95000)
      && t.entry.peakMw = (t.profile.map PowerRecord.mw).foldl max 0
      && (List.range 16).all (fun b => (t.profile.all (fun r => r.blocks.getD b 0 = 0)) || (List.range t.span).all (t.blockActive b))
    | none => true)

/-! ## Step 10 (R38, R231) -/

/-- The member and port at the far end of a recorded link. -/
def State.farEnd (s : State) (m p : Nat) : Option (Nat × Nat) :=
  (s.drove.links.find? (fun l => l.1 = (m, p) || l.2 = (m, p))).map (fun l => if l.1 = (m, p) then l.2 else l.1)

/-- The slots that the cells of a flow take on a port, from its first slot on (R230). -/
def DroveTable.slots (d : DroveTable) (first n : Nat) : List Nat := (List.range (cellCount n)).map (cellSlot d.budget first)

/-- Two entries are the ends of one hop of a flow: they name the same slots, cell by cell (R231). -/
def hopEnds (d : DroveTable) (out : DroveEntry) (g : DroveTable) (into : DroveEntry) : Bool :=
  (out.kind = 1 || out.kind = 3) && (into.kind = 2 || into.kind = 3) && out.flow = into.flow && out.bytes = into.bytes
  && d.slots out.outSlot out.bytes = g.slots into.inSlot into.bytes

/-- Some entry of member `n`'s plan in tier `k` satisfies `f`, given its table. -/
def someEntry (plans : List Plan) (n k : Nat) (f : DroveTable → DroveEntry → Bool) : Bool :=
  plans.any (fun p => p.header.memberId = n && (match p.tier? k with
    | some t => t.drove.entries.any (f t.drove)
    | none => false))

/-- An entry that sends on a port has its counterpart in the plan of the member at the far end. -/
def State.hopAgrees (s : State) (plans : List Plan) (m k : Nat) (d : DroveTable) (e : DroveEntry) : Bool :=
  match s.farEnd m e.outPort with
  | none => false
  | some (n, q) => someEntry plans n k (fun g f => f.inPort = q && hopEnds d e g f)

/-- An entry that receives on a port has its counterpart too. -/
def State.hopFed (s : State) (plans : List Plan) (m k : Nat) (d : DroveTable) (e : DroveEntry) : Bool :=
  match s.farEnd m e.inPort with
  | none => false
  | some (n, q) => someEntry plans n k (fun g f => f.outPort = q && hopEnds g f d e)

def State.hopsAgree (s : State) (plans : List Plan) : Bool :=
  plans.all (fun p => p.present.all (fun k => match p.tier? k with
    | some t => t.drove.entries.all (fun e =>
        (e.kind = 2 || s.hopAgrees plans p.header.memberId k t.drove e) && (e.kind = 1 || s.hopFed plans p.header.memberId k t.drove e))
    | none => true))

/-- A flow crosses at most 8 hops: at most 8 devices of the set send or forward it (R231). -/
def hopsFew (plans : List Plan) : Bool :=
  plans.all (fun p => p.present.all (fun k => match p.tier? k with
    | some t => t.drove.entries.all (fun e => (plans.filter (fun q => match q.tier? k with
        | some u => u.drove.entries.any (fun f => f.flow = e.flow && f.kind ≠ 2)
        | none => false)).length ≤ 8)
    | none => true))

/-- Step 10: plan ID, member ID and set member mask agree with the domain. -/
def domainFits (s : State) (plans : List Plan) (h : Header) : Bool :=
  h.memberId = s.ownId && bitOf h.setMask s.ownId
  && match s.role with
    | .standalone => h.setMask = 1
    | .member => true
    | .bellwether =>
      plans.all (fun p => p.header.planId = h.planId && p.header.setMask = h.setMask && bitOf h.setMask p.header.memberId)
      && (List.range 128).all (fun m => !bitOf h.setMask m || plans.any (fun p => p.header.memberId = m))
      && (List.range 128).all (fun m => !s.drove.present.getLsbD m || bitOf h.setMask m)
      && s.hopsAgree plans

/-! ## Step 11 -/

/-- Two byte ranges share a byte. -/
def overlap (a la b lb : Nat) : Bool := decide (la ≠ 0 ∧ lb ≠ 0 ∧ a < b + lb ∧ b < a + la)

/-- Golden store: start and length; it ends at the capacity the header requires (R179; log 13). -/
def Plan.goldenSize (p : Plan) : Nat := cdiv p.goldenLength 4096 * 4096
def Plan.goldenBase (p : Plan) : Nat := p.header.lp5xMib * 2 ^ 20 - p.goldenSize

/-- Regions (R174). -/
def regionsFit (p : Plan) : Bool :=
  p.regions.all (fun r => !r.region.valid
    || (decide (r.region.base + r.region.length ≤ 0xC0000)
      && (!r.region.reloadable || (r.region.protected && decide (r.region.golden + r.region.length ≤ p.goldenLength)))))
  && pairwiseB (fun a b => a.tile ≠ b.tile
    || (a.index ≠ b.index && (!a.region.valid || !b.region.valid
      || !overlap a.region.base a.region.length b.region.base b.region.length))) p.regions

/-- Window of partition `q`: base and size. -/
def Plan.window (p : Plan) (q : Nat) : Nat × Nat :=
  let e := p.parts.getD q {}
  if e.present then (e.winBase, e.winSize) else (0, 0)

/-- A range lies inside a window. -/
def inside (w : Nat × Nat) (a l : Nat) : Bool := decide (w.1 ≤ a ∧ a + l ≤ w.1 + w.2)

/-- Windows and exchange ranges (R204). -/
def windowsFit (p : Plan) (usable : Nat) : Bool :=
  decide (p.header.lp5xMib * 2 ^ 20 ≤ usable) && decide (p.goldenSize ≤ p.header.lp5xMib * 2 ^ 20)
  && (List.range 32).all (fun q =>
    let w := p.window q
    w.2 = 0 || (decide (w.1 + w.2 ≤ usable) && !overlap w.1 w.2 p.goldenBase p.goldenSize))
  && pairwiseB (fun a b =>
    let v := p.window a
    let w := p.window b
    let lo := max v.1 w.1
    let hi := min (v.1 + v.2) (w.1 + w.2)
    decide (hi ≤ lo) || (List.range ((hi - lo) / 4096)).all (fun i =>
      p.exchanges.any (fun x => inside v x.base x.length && inside w x.base x.length
        && decide (x.base ≤ lo + 4096 * i ∧ lo + 4096 * i < x.base + x.length)))) (List.range 32)
  && p.exchanges.all (fun x => inside (p.window x.producer) x.base x.length && inside (p.window x.consumer) x.base x.length)
  && pairwiseB (fun x y => !overlap x.base x.length y.base y.length) p.exchanges

/-- Tally ranges, mailbox and camera masks of two partitions are disjoint (R205). -/
def ownedFit (p : Plan) : Bool :=
  pairwiseB (fun a b =>
    let x := p.parts.getD a {}
    let y := p.parts.getD b {}
    !overlap x.tallyBase x.tallyCount y.tallyBase y.tallyCount && x.mailboxes &&& y.mailboxes = 0 && x.cameras &&& y.cameras = 0)
    (List.range 32)

/-- Footprints that need no owner lie in their space (R118). -/
def footprintsFit (p : Plan) : Bool :=
  p.descs.all (fun d =>
    if d.space < 2 then decide (d.tileBase + d.footprint ≤ 0xC0000)
    else if d.space = 3 then decide (d.base + d.footprint ≤ 8388608)
    else true)

/-- Partition `q` may use LP5X bytes in one direction (R204). -/
def Plan.mayUse (p : Plan) (q : Nat) (write : Bool) (d : Desc) : Bool :=
  let w := p.window q
  decide (d.base + d.footprint ≤ w.2)
  && p.exchanges.all (fun x => !overlap (w.1 + d.base) d.footprint x.base x.length
    || (if write then x.producer = q else x.consumer = q))

/-- A range of mailbox SRAM lies in mailboxes of partition `q`: two buffers of 64 KiB each (R206; 11, Result mailboxes). -/
def Plan.mayUseMailbox (p : Plan) (q : Nat) (d : Desc) : Bool :=
  (List.range 64).all (fun m => !overlap d.base d.footprint (131072 * m) 131072 || bitOf (p.parts.getD q {}).mailboxes m)

/-- Every issue of every list of every present tier satisfies `f`. -/
def Plan.allIssues (p : Plan) (f : Tier → Issue → Bool) : Bool :=
  p.allLists.all (fun t => (t.2.2.issues p t.2.1).all (f t.2.1))

/-- Every operand outside tile SRAM obeys R204 and R206, for every counter value and every page that a slot resolves to. An FMAP uses
no address of its own. -/
def usesFit (p : Plan) : Bool :=
  p.allIssues (fun _ x => x.record.opcode = 0x88 || (List.range 4).all (fun i => match x.operand p i with
    | some d => (d.space ≠ 2 || p.mayUse x.record.part (x.record.writesOperand i) d)
        && (d.space ≠ 3 || p.mayUseMailbox x.record.part d)
    | none => true))

/-- Fork tables (R153). -/
def forksFit (p : Plan) : Bool :=
  p.forks.all (fun f => decide (f.poolBase + f.poolPages * f.pageBytes ≤ (p.window f.owner).2))
  && pairwiseB (fun f g => !overlap ((p.window f.owner).1 + f.poolBase) (f.poolPages * f.pageBytes)
      ((p.window g.owner).1 + g.poolBase) (g.poolPages * g.pageBytes)) p.forks
  && p.allIssues (fun _ x => x.record.opcode ≠ 0x88 || (match x.operand p 0, p.forks[x.record.imm0 % 256]? with
    | some d, some f => decide (d.base + d.footprint ≤ f.pageBytes)
    | _, _ => true))
  && decide (((List.range 32).map (fun q => ((p.forks.filter (fun f => f.owner = q)).map (fun f => f.futures)).foldl max 0)).sum ≤ 4096)

/-- Where a placement lands: space and owner, address. -/
def Plan.landing (p : Plan) (x : Placement) (d : Desc) : Nat := if d.space = 2 then (p.window x.target).1 + d.base else d.base

/-- Placements (R181, Table MEM-2). -/
def placementsFit (p : Plan) : Bool :=
  p.placements.all (fun x => match p.descs[x.desc]? with
    | some d =>
      x.length = d.footprint
      && (if d.space = 0 then decide (x.target < 256) || (decide (0x8000 ≤ x.target) && (x.target - 0x8000) % 256 = 0
            && !(p.groupTiles ((x.target - 0x8000) / 256)).isEmpty)
        else if d.space = 2 then decide (x.target < 32) && decide (d.base + d.footprint ≤ (p.window x.target).2)
        else d.space = 3 && x.target = 0xFFFF)
    | none => false)
  && pairwiseB (fun x y =>
    let d := p.descs.getD x.desc {}
    let e := p.descs.getD y.desc {}
    d.space ≠ e.space || !overlap (p.landing x d) x.length (p.landing y e) y.length
      || (d.space = 0 && (List.range 256).all (fun k => !(p.placedIn k x && p.placedIn k y)))) p.placements

/-- Size of a camera's ring (R268), and the pages of RPDOs: outside every exchange range, inside the owner's window (R267, R290). -/
def ringFits (p : Plan) (q off len : Nat) : Bool :=
  decide (off + len ≤ (p.window q).2)
  && p.exchanges.all (fun x => !overlap ((p.window q).1 + off) len x.base x.length)

def State.camerasFit (s : State) (p : Plan) : Bool :=
  (List.range 4).all (fun c =>
    let w := s.obj 0x2300 (0x10 + 4 * c)
    match (List.range 32).find? (fun q => (p.parts.getD q {}).present && bitOf (p.parts.getD q {}).cameras c) with
    | some q => !bitOf w 0 || (ringFits p q (s.obj 0x2300 (0x12 + 4 * c) * 4096) (4 * s.camSlotSize c)
        && decide (p.header.cutoff < bitsOf w 16 16 ∧ bitsOf w 16 16 ≤ p.header.bellPeriod - p.header.slot))
    | none => true)

def State.pagesFit (s : State) (p : Plan) : Bool :=
  (List.range 32).all (fun n =>
    let w := s.obj 0x2300 (0x60 + n)
    let q := bitsOf w 24 8
    q = 0xFF || !(p.parts.getD q {}).present || ringFits p q (bitsOf w 0 24 * 4096) 4096)

/-- Bytes that the slot table of a tier moves to or from channel `c` in a tick, 32 a flit (Table TILE-3). -/
def Tier.channelBytes (t : Tier) (c : Nat) : Nat :=
  ((t.slots.filter (fun e => [e.source, e.dest].any (fun n => decide (0x100 ≤ n ∧ n < 0x108) && (n - 0x100) / 2 = c))).map
    (fun e => 32 * e.flits * (e.reps + 1))).sum

/-- The slot tables of tier `k` leave one part in `share` of the usable cycles of each LP5X channel unplanned (R253, R376). A channel's
usable cycles move 8/9 of 273 / 4 GB/s, or 182/3 bytes a ns (R187); a planned byte takes its share of them and nothing more (DESIGN
CHOICE, log 14). -/
def channelsLeave (p : Plan) (k share : Nat) : Bool :=
  match p.tier? k with
  | some t => (List.range 4).all (fun c => decide (3 * t.channelBytes c * share ≤ 182 * (1000 * p.header.bellPeriod) * (share - 1)))
  | none => true

/-- Step 11. -/
def resourcesFit (s : State) (p : Plan) : Bool :=
  regionsFit p && windowsFit p s.usable && ownedFit p && footprintsFit p && usesFit p && forksFit p && placementsFit p
  && s.camerasFit p && s.pagesFit p && p.present.all (fun k => channelsLeave p k 16)

/-! ## Step 12 (R119 to R123) -/

/-- A descriptor keeps the rule of its own mode (R119, R120). -/
def Desc.aligned (d : Desc) : Bool := d.base % 16 = 0 && (d.inner || (List.range 4).all (fun k => d.stride (k + 1) % 16 = 0))

/-- An LP5X channel's endpoint code (Table TILE-3). -/
def isChannel (code : Nat) : Bool := decide (0x100 ≤ code ∧ code < 0x108)

/-- Operands of a record that must be STRICT (R121). -/
def strictOperand (t : Tier) (r : OpRecord) (i : Nat) : Bool :=
  let e := t.slots.getD r.slotOf {}
  (r.opcode = 0x6A && i = 0) || (r.opcode = 0x88 && i = 0) || (r.opcode = 0x68 && i = 0 && isChannel e.dest)
  || (r.opcode = 0x69 && i = 3 && isChannel e.dest)
  || (r.opcode = 0x78 && i = 0 && (t.bindings.getD r.imm0 {}).kind = 3)

def alignmentFits (p : Plan) : Bool :=
  p.descs.all (fun d => d.aligned && (decide (d.space < 2) || !d.inner))
  && p.allIssues (fun t x => (List.range 4).all (fun i => !strictOperand t x.record i || (match x.operand p i with
    | some d => !d.inner
    | none => true)))

/-! ## Step 14 -/

/-- Shed map (R45). -/
def Plan.shedOk (p : Plan) (m : List Nat) : Bool := m.all (fun k => (p.tier? k).isSome) && sorted m

/-- Tiles of a tier that partition `q` owns. -/
def Tier.tilesOwned (t : Tier) (q : Nat) : Nat := (t.ownership.filter (fun o => o = q)).length

/-- Largest future count that partition `q`'s FMAP records of a tier reach (R375). -/
def Plan.futuresOf (p : Plan) (t : Tier) (q : Nat) : Nat :=
  ((t.lists.flatMap (fun l => l.records.filter (fun r => r.opcode = 0x88 && r.part = q))).map
    (fun r => (p.forks.getD (r.imm0 % 256) { futures := 0 }).futures)).foldl max 0

/-- Stages 2, 3 and 4 (R201, R375 to R377). -/
def stagesFit (p : Plan) : Bool :=
  let tierOf (stage : Nat) : Option Tier := p.tier? (p.shedMap.getD (stage - 1) 0)
  (p.present.all (fun k => match p.tier? k with
    | some t => bitOf t.entry.partSet 0
    | none => true))
  && (match tierOf 1 with
    | some t => p.onlyClasses t [0, 1, 2, 3]
    | none => false)
  && (match tierOf 2, p.tier? 0 with
    | some t, some z => (List.range 32).all (fun q => (p.parts.getD q {}).cls ≠ 3
        || (decide (t.tilesOwned q ≤ z.tilesOwned q / 2) && decide (p.futuresOf t q ≤ p.futuresOf z q / 2)))
    | _, _ => false)
  && channelsLeave p (p.shedMap.getD 2 0) 2
  && (match tierOf 4 with
    | some t => p.onlyClasses t [0, 1] && (List.range 8).all (fun d => !bitOf t.entry.droveMask d
        || t.drove.entries.any (fun e => (e.inPort = d || e.outPort = d) && p.classIn [0, 1] e.owner))
    | none => false)

/-- The SRAM that the placements of an image give tile `k` at load (R181), from the bytes of the initial data section. -/
def Plan.residentImage (p : Plan) (data : Image) (k : Nat) : Memory :=
  (p.image k).foldl (fun m x => m.write emptyByte (p.descs.getD x.desc {}).base ((data.drop x.offset).take x.length)) {}

/-- Rotation groups (R44, R85, R203). -/
def groupsFit (p : Plan) (data : Image) (t : Tier) : Bool :=
  t.groups.all (fun g => g.tiles.all (fun k => bitOf t.entry.tileMask k && t.ownership.getD k 0xFF = t.ownership.getD (g.tiles.headD 0) 0xFF)
    && g.tiles.all (fun k => p.residentImage data k = p.residentImage data (g.tiles.headD 0))
    && g.tiles.eraseDups.length = g.tiles.length)
  && pairwiseB (fun g h => g.ident ≠ h.ident && !meets g.tiles h.tiles) t.groups

/-- The source tensor of a binding holds 8 bytes (R325, R347). -/
def holdsEight (p : Plan) (b : Binding) : Bool := decide (8 ≤ (p.descs.getD b.source {}).count * (p.descs.getD b.source {}).esize)

/-- Sink indexes of each kind. -/
def sinkOk (p : Plan) (b : Binding) : Bool :=
  match b.kind with
  | 1 => decide (b.index < 8) && holdsEight p b
  | 2 => decide (b.index < 32)
  | 3 => decide (b.index < 64) && bitOf (p.parts.getD b.owner {}).mailboxes b.index
  | 4 => decide (b.index < 4)
  | 5 => decide (b.index < 128) && holdsEight p b
  | _ => decide (b.index < (p.parts.getD b.owner {}).tallyCount)

/-- Sink bindings (R46, R329, R347). -/
def State.bindingsFit (s : State) (p : Plan) (t : Tier) : Bool :=
  t.bindings.all (fun b => decide (b.offset < p.header.bellPeriod - p.header.slot) && bitOf t.entry.partSet b.owner && sinkOk p b
    && (if b.source = 0xFFFF then b.kind = 4 || b.kind = 6 else (p.descs[b.source]?).isSome)
    && (b.kind ≠ 1 || s.chFit b.index))
  && pairwiseB (fun a b => !(a.kind = b.kind && a.index = b.index) || (a.owner = b.owner && a.offset ≠ b.offset)) t.bindings

/-- Ownership maps (R203). -/
def ownershipFits (t : Tier) : Bool :=
  (List.range 256).all (fun k =>
    let o := t.ownership.getD k 0xFF
    if bitOf t.entry.tileMask k then decide (o < 32) && bitOf t.entry.partSet o else o = 0xFF)

/-- Tally configs (R221). -/
def talliesFit (p : Plan) : Bool :=
  p.tallies.all (fun c =>
    match (List.range 32).find? (fun q => (p.parts.getD q {}).present && decide ((p.parts.getD q {}).tallyBase ≤ c.index
        ∧ c.index < (p.parts.getD q {}).tallyBase + (p.parts.getD q {}).tallyCount)) with
    | none => false
    | some q => !c.fire || ((c.sinkKind = 1 || c.sinkKind = 4)
        && p.present.any (fun k => match p.tier? k with
          | some t => t.bindings.any (fun b => b.kind = c.sinkKind && b.index = c.sinkIndex && b.owner = q)
          | none => false)))
  && pairwiseB (fun a b => a.index ≠ b.index) p.tallies

/-- Step 14. -/
def contentFits (s : State) (m : Image) (p : Plan) : Bool :=
  p.shedOk p.shedMap && stagesFit p && talliesFit p
  && p.present.all (fun k => match p.tier? k with
    | some t => groupsFit p (sectionBytes m 0xC 0xFFFF) t && s.bindingsFit p t && ownershipFits t
    | none => true)
  && (List.range 8).all (fun k => (p.tier? k).isSome || (readOwnership (sectionBytes m 3 0xFFFF) k).all (fun o => o = 0xFF))

end Sys2Proof.Machine
end

