-- ==== Sys2Proof/Machine/Lowering.lean ====
section
/-!
DEFINITION. Step 13 of Table PLAN-9: what DMF checks while it lowers operation lists (04 R88 to R109, Table OPS-5; 05 R113, R116, R117,
R120, R125, R128; 06 R142, R144, R146; 07 R154; 03 R67, R72; 10 R231; 15 R356).
-/
namespace Sys2Proof.Machine

/-! ## The operation set (Table OPS-4) -/

/-- What a record does, by opcode; none for an opcode not in the table. -/
def workOf (r : OpRecord) : Option (State → RecordCtx → OpRecord → Option Work) :=
  match r.opcode with
  | 0x00 => some (fun _ _ _ => some { units := [unitSQ], occ := 1, depth := 0 })
  | 0x01 => some (fun _ _ _ => some { units := [unitSQ], occ := 1, depth := 0 })
  | 0x10 => some workMma
  | 0x11 => some workSblk
  | 0x12 => some workScoo
  | 0x14 => some workConvw
  | 0x15 => some workGate
  | 0x38 => some workGather
  | 0x40 => some workSmxStep
  | 0x41 => some workSmxMerge
  | 0x42 => some workSmxFinal
  | 0x48 => some workMerge
  | 0x50 => some workIxload
  | 0x51 => some workIxmatch
  | 0x52 => some workIxclear
  | 0x60 => some workDcopy
  | 0x68 => some (State.workTransfer r.issue)
  | 0x69 => some (State.workTransfer r.issue)
  | 0x6A => some (State.workDsend r.issue)
  | 0x70 => some (State.workTransfer r.issue)
  | 0x78 => some (State.workTransfer r.issue)
  | 0x80 => some workRenorm
  | 0x88 => some workFmap
  | op => if 0x20 ≤ op ∧ op ≤ 0x2F then some (workVector op) else if 0x30 ≤ op ∧ op ≤ 0x32 then some (workReduce op) else none

/-- Which of A, B, C and D an operation takes: 0 none, 1 required, 2 optional. A matrix product takes C where ACC_LOAD or the bias stage
uses it, and nowhere else (DEDUCED, log 141). -/
def operandForm (r : OpRecord) : List Nat :=
  match r.opcode with
  | 0x10 => [1, 1, if r.flag 2 then 1 else 0, 1]
  | 0x11 => [1, 1, 0, 1]
  | 0x12 => [1, 1, 0, 1]
  | 0x14 => [1, 1, if r.flag 2 then 1 else 0, 1]
  | 0x15 => [1, 1, if bitOf r.imm1 0 then 1 else 0, 1]
  | 0x23 => [1, 2, 1, 1]
  | 0x27 => [1, 0, 0, 1]
  | 0x28 => [1, 2, 1, 1]
  | 0x38 => [1, 1, 0, 1]
  | 0x40 => [1, 0, 1, 1]
  | 0x50 => [1, 0, 0, 0]
  | 0x6A => [1, 0, 0, 0]
  | 0x78 => [1, 0, 0, 0]
  | 0x80 => [1, 0, 1, 0]
  | 0x88 => [1, 0, 0, 0]
  | op =>
    if op ≤ 1 ∨ op = 0x52 ∨ op = 0x70 then [0, 0, 0, 0]
    else if 0x20 ≤ op ∧ op ≤ 0x26 then [1, 2, 0, 1]
    else [1, 0, 0, 1]

/-- The matrix family of TRANS_A (R99). -/
def isMatrix (op : Nat) : Bool := [0x10, 0x11, 0x12, 0x14, 0x15].contains op

/-- Detail 1: opcode, reserved fields and bits (Tables OPS-2 to OPS-4; R90, R100). -/
def reservedOk (r : OpRecord) : Bool :=
  (workOf r).isSome && r.reserved = 0 && bitsOf r.flags 5 3 = 0 && bitsOf r.store 3 5 = 0 && decide (r.store % 4 < 2)
  && (if r.flag 0 then decide (r.wait < 4096) else r.wait = 0xFFFF)
  && (List.range 4).all (fun i => decide (r.field i < 0xFFF8) || r.field i = 0xFFFF)
  && (!r.flag 4 || r.opcode = 0x10 || r.opcode = 0x14 || r.opcode = 0x15)
  && (!r.flag 3 || isMatrix r.opcode)
  && (!r.flag 2 || r.opcode = 0x10 || r.opcode = 0x14 || [0x40, 0x41, 0x42].contains r.opcode)
  && (r.opcode ≠ 0x15 || decide (r.imm1 < 64)) && (r.opcode ≠ 0x70 || decide (r.imm0 < 4096))
  && (r.opcode ≠ 0x88 || (decide (r.imm0 < 2048) && decide (r.imm1 < 2 ^ 18) && decide (r.imm2 < 2 ^ 18)))

/-! ## Operands (details 3 to 5)

Every check is made for each planned issue of a record, so for every counter value and every page that an override slot resolves to. -/

/-- The memory that operand `i` may lie in (R99, R106; Table LAYOUT-3). -/
def spaceOk (r : OpRecord) (i : Nat) (d : Desc) : Bool :=
  match r.opcode, i with
  | 0x68, 3 => decide (1 ≤ d.space)
  | 0x69, 0 => decide (1 ≤ d.space)
  | 0x88, 0 => d.space = 2
  | _, _ => d.space = 0

/-- A destination's strides (R116). -/
def destOk (d : Desc) : Bool :=
  (decide (d.rank < 2) || decide (d.padBytes ≤ d.stride 1))
  && (List.range 3).all (fun k => decide (d.rank ≤ k + 2) || decide ((d.dim (k + 1) - 1) * d.stride (k + 1) + d.padBytes ≤ d.stride (k + 2)))

/-- An operand in a sparse format names a companion (R114, R142, R144, R146). -/
def companionNamed (r : OpRecord) (a b : Desc) : Bool :=
  (!(r.flag 4 || r.opcode = 0x11) || b.companion ≠ 0xFFFF) && (!(r.opcode = 0x12 || r.opcode = 0x38) || a.companion ≠ 0xFFFF)

/-- A space 1 operand lies in the executing tile itself, at some bell of the rotation (Table LAYOUT-3). -/
def selfSpace (t : Tier) (l : OpList) (d : Desc) : Bool :=
  d.space = 1 && (List.range t.span).any (fun n => (t.endpointTile n d.endpoint).isSome
    && t.endpointTile n d.endpoint = t.endpointTile n l.executor)

/-- Destination and source footprints: identical descriptors, or disjoint (R117). A space 1 operand in the executing tile lies in that
tile's space 0. -/
def disjointOk (t : Tier) (l : OpList) (d s : Desc) : Bool :=
  let at_ (d : Desc) : Nat × Nat := if selfSpace t l d then (0, d.tileBase) else (d.space, d.base)
  d = s || (at_ d).1 ≠ (at_ s).1 || !overlap (at_ d).2 d.footprint (at_ s).2 s.footprint

/-- Descriptors that stand in immediates. -/
def Issue.extras (p : Plan) (x : Issue) : List Desc := x.record.extraFields.map (fun f => p.descs.getD f {})

/-- Metadata descriptor of an operand (R114). -/
def Plan.meta_ (p : Plan) (d : Desc) : Desc := p.descs.getD d.companion {}

/-- What a record writes, and what it reads, metadata included. -/
def Issue.written (p : Plan) (x : Issue) : List Desc :=
  let r := x.record
  ((List.range 4).filter (fun i => r.writesOperand i && (operandForm r).getD i 0 ≠ 0)).filterMap (x.operand p)
    ++ (if r.opcode = 0x15 then [] else x.extras p)
def Issue.readers (p : Plan) (x : Issue) : List Desc :=
  let named := (List.range 3).filterMap (x.operand p)
  named ++ (named.filter (fun d => d.companion ≠ 0xFFFF)).map p.meta_ ++ (if x.record.opcode = 0x15 then x.extras p else [])

/-- The field of operand `i` names an override slot only where a remote operand of a transfer may lie in one; a write through it goes to a
private page (R154; log 170). -/
def Issue.slotOk (x : Issue) (i : Nat) : Bool :=
  let f := x.record.field i
  decide (f < 0xFFF0) || f = 0xFFFF
  || (x.record.opcode = 0x68 && i = 3 && ((assocGet (f - 0xFFF0) x.slots).map (fun e => e.2)).getD false)
  || (x.record.opcode = 0x69 && i = 0)

/-- A wait tally of the record's own partition whose config sets WAKE (R215). -/
def waitOk (p : Plan) (r : OpRecord) : Bool :=
  let e := p.parts.getD r.part {}
  !r.flag 0 || (p.tallies.any (fun c => c.index = r.wait && c.wake) && decide (e.tallyBase ≤ r.wait ∧ r.wait < e.tallyBase + e.tallyCount))

/-- Detail 3. -/
def operandsOk (p : Plan) (t : Tier) (l : OpList) (x : Issue) : Bool :=
  let r := x.record
  let op (i : Nat) : Option Desc := x.operand p i
  (List.range 4).all (fun i => match (operandForm r).getD i 0 with
    | 0 => r.field i = 0xFFFF
    | 1 => (op i).isSome
    | _ => r.field i = 0xFFFF || (op i).isSome)
  && (List.range 4).all (fun i => match op i with
    | some d => spaceOk r i d && x.slotOk i
    | none => true)
  && companionNamed r ((op 0).getD {}) ((op 1).getD {})
  && (x.written p).all (fun d => destOk d && (x.readers p).all (disjointOk t l d))
  && (r.extraFields.all (fun f => decide (f < p.descs.length)) && (x.extras p).all (fun d => d.space = 0))
  && (!r.flag 2 || r.field 2 ≠ 0xFFFF || r.opcode = 0x41 || r.opcode = 0x42)
  && waitOk p r
  && (r.opcode ≠ 0x88 || (match p.forks[r.imm0 % 256]? with
    | some f => f.owner = r.part
    | none => true))

/-- Destination types of the matrix family (Table NUM-2). -/
def matrixDest (ety : Nat) : List Nat :=
  match ety with
  | 0x00 => [0x21, 0x00]
  | 0x01 => [0x20, 0x10, 0x11, 0x01, 0x02]
  | 0x02 => [0x20, 0x10, 0x11, 0x01, 0x02]
  | 0x10 => [0x20, 0x10]
  | 0x11 => [0x20, 0x11]
  | _ => []

/-- Matrix formats (R99, R137). -/
def matrixFormats (a b d : Desc) (c : Option Desc) : Bool :=
  let fp8 (t : Nat) : Bool := t = 1 || t = 2
  (a.ety = b.ety || (fp8 a.ety && fp8 b.ety)) && (matrixDest a.ety).contains d.ety
  && (match c with
    | some e => e.ety = (if a.ety = 0 then 0x21 else 0x20)
    | none => true)

/-- Metadata types of sparse operands (R113, R142, R144, R146). -/
def companionTypes (p : Plan) (r : OpRecord) (a b : Desc) : Bool :=
  (!r.flag 4 || (p.meta_ b).ety = 0x12) && (r.opcode ≠ 0x11 || (p.meta_ b).ety = 0x03)
  && (!(r.opcode = 0x12 || r.opcode = 0x38) || (p.meta_ a).ety = 0x21)

/-- Dimensions 0 and 1 of a descriptor, with nothing beyond them. -/
def Desc.is2 (d : Desc) (m n : Nat) : Bool := d.dim 0 = m && d.dim 1 = n && d.rows = n

/-- Dimensions of sparse operands and their metadata, for a product over k with n columns (R142, R144, R146). -/
def sparseShapes (p : Plan) (r : OpRecord) (a b : Desc) (k n : Nat) : Bool :=
  (!r.flag 4 || (k % 4 = 0 && b.is2 n (k / 2) && (p.meta_ b).is2 n (cdiv k 16)))
  && (r.opcode ≠ 0x11 || (k % 16 = 0 && n % 16 = 0 && b.rank = 3 && b.dim 0 = 16 && b.dim 1 = 16 && b.dim 2 = r.imm2
    && (p.meta_ b).is2 (cdiv (k / 16 * (n / 16)) 8) 1))
  && (!(r.opcode = 0x12 || r.opcode = 0x38) || (a.rank = 1 && (p.meta_ a).rank = 1 && (p.meta_ a).dim 0 = a.dim 0))

/-- UINT8 and UINT16 stand only where R113 allows them. -/
def unsignedOk (r : OpRecord) (i : Nat) (d : Desc) : Bool :=
  (d.ety ≠ 0x03 && d.ety ≠ 0x12) || (r.opcode = 0x27 && i = 0) || [0x60, 0x68, 0x69, 0x6A, 0x78].contains r.opcode

/-- The destination that stochastic rounding looks at: D, or A where a record stores in place (R91, R105). -/
def OpRecord.target (r : OpRecord) : Nat := if r.opcode = 0x80 then 0 else 3

/-- Detail 4. -/
def formatsOk (p : Plan) (x : Issue) : Bool :=
  let r := x.record
  let op (i : Nat) : Option Desc := x.operand p i
  let ety (i : Nat) : Nat := ((op i).map (fun d => d.ety)).getD 0x20
  (List.range 4).all (fun i => match op i with
    | some d => unsignedOk r i d
    | none => true)
  && (x.extras p).all (fun d => d.ety ≠ 0x03 && d.ety ≠ 0x12)
  && (r.store % 4 ≠ 1 || ((p.parts.getD r.part {}).cls = 4 && [1, 2, 0x10, 0x11].contains (ety r.target)))
  && (match op 0, op 1, op 3 with
    | some a, some b, some d => !isMatrix r.opcode || (matrixFormats a b d (op 2) && companionTypes p r a b)
    | _, _, _ => true)
  && (match op 0, op 1 with
    | some a, some b => r.opcode ≠ 0x38 || companionTypes p r a b
    | _, _ => true)
  && (r.opcode ≠ 0x40 || ety 2 = 0x20) && (!([0x41, 0x42].contains r.opcode) || ety 0 = 0x20)
  && (r.opcode ≠ 0x41 || ety 3 = 0x20) && (r.opcode ≠ 0x80 || (ety 0 = 0x10 && ety 2 = 0x21))
  && (!([0x48, 0x50, 0x51].contains r.opcode) || (op 0).elim true (fun d => d.esize = 4))

/-- m and k of a matrix product (R98, R99, R126). -/
def productDims (r : OpRecord) (a b d : Desc) : Nat × Nat :=
  let w := windowOfWord r.imm0
  if r.opcode = 0x14 then (w.hOut a * w.wOut a, a.dim 0 * w.kh * w.kw)
  else if r.opcode = 0x12 then (d.rows, b.rows)
  else if r.flag 3 then (a.dim 0, a.rows) else (a.rows, a.dim 0)

/-- Shapes of the matrix family (R98 to R100, R126, R142, R144). -/
def matrixShapes (p : Plan) (x : Issue) (a b d : Desc) (c : Option Desc) : Bool :=
  let r := x.record
  let w := windowOfWord r.imm0
  let m := (productDims r a b d).1
  let k := (productDims r a b d).2
  let n := d.dim 0
  d.rows = m && decide (1 ≤ m) && sparseShapes p r a b k n
  && (r.flag 4 || r.opcode = 0x11 || (b.dim 0 = n && b.rows = k))
  && (r.opcode ≠ 0x14 || (w.ok && a.rank = 3 && decide (1 ≤ w.hOut a ∧ 1 ≤ w.wOut a)))
  && (r.opcode ≠ 0x12 || decide (1 ≤ r.imm2))
  && (match c with
    | some e => if r.opcode = 0x15 then e.is2 n 1 else e.rows = m && e.dim 0 = n
    | none => true)
  && (r.opcode ≠ 0x15 || (x.extras p).all (fun f => f.dims = d.dims))

/-- Operand B beside A: a full operand, a row or a column (R102). -/
def broadcastOk (a b : Desc) : Bool :=
  (b.rows = a.rows || b.rows = 1) && (b.dim 0 = a.dim 0 || b.dim 0 = 1)

/-- Detail 5. -/
def shapesOk (p : Plan) (x : Issue) : Bool :=
  let r := x.record
  let op (i : Nat) : Option Desc := x.operand p i
  let a := (op 0).getD {}
  let d := (op 3).getD {}
  let extra (n : Nat) : Bool := (x.extras p).all (fun f => f.count = n)
  if isMatrix r.opcode then matrixShapes p x a ((op 1).getD {}) d (op 2)
  else if 0x20 ≤ r.opcode ∧ r.opcode ≤ 0x2F then
    d.count = a.count && (match op 1 with
      | some b => if r.opcode = 0x26 then b.count = a.rows else broadcastOk a b
      | none => true)
    && (match op 2 with
      | some c => c.count = a.count
      | none => true)
  else match r.opcode with
    | 0x01 => decide (1 ≤ r.imm0 ∧ r.imm0 ≤ 65535) && decide (1 ≤ r.imm1 ∧ r.imm1 ≤ 255)
    | 0x30 => d.count = a.rows
    | 0x31 => d.count = a.rows
    | 0x32 => d.count = a.rows
    | 0x38 => sparseShapes p r a ((op 1).getD {}) 0 0 && d.count = ((op 1).getD {}).dim 0 && decide (1 ≤ r.imm2)
    | 0x40 => d.count = a.count && ((op 2).getD {}).count = 2 * a.rows && extra a.rows
    | 0x41 => decide (2 ≤ r.imm0 ∧ r.imm0 ≤ 8) && a.dim 0 = d.dim 0 && decide (3 ≤ d.dim 0) && a.rows = r.imm0 * d.rows
    | 0x42 => a.dim 0 = d.dim 0 + 2 && a.rows = d.rows && extra a.rows
    | 0x48 => decide (2 ≤ a.mergeRunCount ∧ a.mergeRunCount ≤ 8) && decide (r.imm0 ≤ 2) && d.count = a.count
        && a.count % (2 * a.mergeRunCount) = 0
    | 0x50 => a.count % 2 = 0
    | 0x51 => d.count = a.count && d.esize = 4
    | 0x60 => d.count = a.count && d.esize = a.esize
    | 0x70 => decide (1 ≤ r.imm1 ∧ r.imm1 ≤ 65535)
    | 0x80 => ((op 2).getD {}).count = a.rows
    | 0x88 => decide (r.imm0 % 256 < p.forks.length)
    | _ => true

/-! ## Bindings (detail 7; R106, R206, R231) -/

/-- Padded bytes of a descriptor, as transfers move them. -/
def Desc.moved (d : Desc) : Nat := d.rows * d.padBytes

/-- Bytes that an entry's flits move. -/
def SlotEntry.bytes (e : SlotEntry) : Nat := 32 * e.flits * (e.reps + 1)

/-- Endpoint of a remote operand (Tables LAYOUT-3, TILE-3). -/
def remoteAt (d : Desc) (code : Nat) : Bool :=
  if d.space = 1 then d.endpoint = code else if d.space = 2 then isChannel code else code = 0x111

/-- Detail 7: the entry's owner, endpoints, kind and flits match the record. A DSEND's A holds the flow's bytes, up to the pad of its last
run (DEDUCED, log 180). -/
def transferOk (p : Plan) (t : Tier) (l : OpList) (x : Issue) : Bool :=
  let r := x.record
  let op (i : Nat) : Option Desc := x.operand p i
  let e := t.slots.getD r.slotOf {}
  let part := p.parts.getD r.part {}
  let named := decide (r.slotOf < t.slots.length) && e.owner = r.part && e.source = l.executor
  match r.opcode with
  | 0x68 => named && e.kind = 1 && (match op 0, op 3 with
    | some a, some d => decide (a.moved ≤ e.bytes) && remoteAt d e.dest
    | _, _ => false)
  | 0x69 => named && e.kind = 2 && (match op 0, op 3 with
    | some a, some d => decide (d.moved ≤ e.bytes) && remoteAt a e.dest
    | _, _ => false)
  | 0x6A => (match t.drove.entries.find? (fun y => y.kind = 1 && y.flow = r.imm0), op 0 with
    | some y, some a =>
      let m := t.slots.getD y.meshSlot {}
      y.owner = r.part && decide (y.meshSlot < t.slots.length) && m.source = l.executor && m.dest = 0x108 + y.outPort && m.owner = r.part
      && m.kind = 1 && decide (y.bytes ≤ m.bytes) && a.moved = cdiv y.bytes 16 * 16
    | _, _ => false)
  | 0x70 => named && e.kind = 1 && e.flits = 1 && e.reps = 0 && e.dest = 0x111
      && decide (part.tallyBase ≤ r.imm0 ∧ r.imm0 < part.tallyBase + part.tallyCount)
  | 0x78 =>
    let b := t.bindings.getD r.imm0 {}
    named && e.kind = 1 && e.dest = 0x111 && decide (r.imm0 < t.bindings.length) && b.owner = r.part
    && decide (r.a < 0xFFF0) && b.source = r.a + x.counter (r.advance 0)
    && (b.carried || decide (e.lastFlit + 1 < b.offset * clockMHz t.entry.clock))
    && (match op 0 with
      | some a => decide (a.moved ≤ e.bytes)
      | none => false)
  | _ => true

/-! ## Loops (detail 8) -/

/-- Bodies lie inside one another, at most three deep, and hold no EOT; advance codes name a level in force and stay in the section. -/
def loopsOk (p : Plan) (l : OpList) (x : Issue) : Bool :=
  let r := x.record
  let ends := x.loops.map (fun f => f.first + f.len) ++ [l.records.length]
  (r.opcode ≠ 1 || (decide (x.loops.length < 3) && ends.all (fun e => decide (x.pos + 1 + r.imm1 ≤ e))))
  && (x.loops.isEmpty || !r.flag 1)
  && (List.range 4).all (fun i => r.advance i = 0 || (decide (r.advance i ≤ x.loops.length) && decide (r.field i < 0xFFF0)
    && decide (r.field i + x.counter (r.advance i) < p.descs.length)))
  && (r.opcode ≠ 0x88 || (decide (bitsOf r.imm1 16 2 ≤ x.loops.length) && decide (bitsOf r.imm2 16 2 ≤ x.loops.length)))

/-- The reason for which DMF refuses a planned issue, its cycle aside (Table OPS-5). -/
def recordFault (p : Plan) (t : Tier) (l : OpList) (x : Issue) : Option Nat :=
  if !reservedOk x.record then some 1
  else if x.record.part ≠ t.ownerOf l.executor then some 2
  else if !loopsOk p l x then some 8
  else if !operandsOk p t l x then some 3
  else if !formatsOk p x then some 4
  else if !shapesOk p x then some 5
  else if !transferOk p t l x then some 7
  else none

/-! ## Planned SRAM accesses (R67, R120, R128; detail 10) -/

/-- A 16-byte access to a bank of a tile, from a cycle on, with the executor whose record makes it. -/
structure SramAccess where
  executor : Nat
  tile : Nat
  bank : Nat
  from_ : Nat
deriving DecidableEq, Repr

/-- Banks of the accesses that move a descriptor's runs: one for each 16 bytes of a padded run, and one more for a run that starts off a
16-byte boundary (R120, R128). -/
def Desc.accessBanks (d : Desc) : List Nat :=
  d.runs.flatMap (fun r => (List.range ((r.1 + r.2 + 15) / 16 - r.1 / 16)).map (fun i => (r.1 / 16 + i) / 2048))

/-- The accesses of a record that issues at a cycle: those of its operands in its own tile, and those of a transfer in the tile at its
other end, from the start of its slot on. -/
def planAccesses (t : Tier) (l : OpList) (n j cycle : Nat) (p : Plan) (x : Issue) (w : Work) : List SramAccess :=
  let far := if x.record.opcode = 0x68 then x.operand p 3 else if x.record.opcode = 0x69 then x.operand p 0 else none
  (w.reads ++ w.writes).flatMap (fun d => d.accessBanks.map (fun b => ⟨l.executor, j, b, cycle⟩))
  ++ (match far with
    | some d => if d.space = 1 then
        d.accessBanks.map (fun b => ⟨l.executor, (t.endpointTile n d.endpoint).getD 256, b, (t.slots.getD x.record.slotOf {}).start⟩)
      else []
    | none => [])

/-! ## Timing (details 6 and 9; R92 to R96) -/

/-- A state in which the tier runs at bell `n` with nothing done yet, to follow planned cycles in. -/
def planned (s : State) (p : Plan) (k n : Nat) : State :=
  { s with bell := { s.bell with state := .source, count := BitVec.ofNat 64 n },
           plan := { s.plan with plan := some p, running := true, effective := k },
           tiles := Vector.replicate 256 {} }

/-- The records that have completed by a cycle are no longer in flight. -/
def Sequencer.at_ (q : Sequencer) (cycle : Nat) : Sequencer :=
  { q with inFlight := q.inFlight.filter (fun f => decide (cycle < f.done)),
           past := q.past ++ q.inFlight.filter (fun f => decide (f.done ≤ cycle)) }

/-- A transfer that issues at a cycle issues too late for its slot (R106). -/
def State.tooLate (s : State) (t : Tier) (r : OpRecord) (cycle : Nat) : Bool :=
  ([0x68, 0x69, 0x70, 0x78].contains r.opcode && (t.slots.getD r.slotOf {}).tooLate cycle)
  || (r.opcode = 0x6A && (s.sendEntry r.imm0).elim true (s.dsendLate cycle))

/-- One list followed on tile `j` at bell `n`, record by record as planned, to the first reason of Table OPS-5; or the completion cycle of
the EOT record and the SRAM accesses of the list. -/
def follow (p : Plan) (t : Tier) (l : OpList) (n j : Nat) (slots : List (Nat × Desc × Bool)) (acc : List SramAccess) (s : State) :
    (fuel : Nat) → Except Nat (Nat × List SramAccess)
  | 0 => .error 9
  | fuel + 1 =>
    match s.nextRecord j with
    | none => .error 9
    | some (c, r) =>
      let q := (s.tile j).seq
      let x : Issue := { pos := q.pc, record := r, loops := q.loops, slots := slots }
      match recordFault p t l x with
      | some d => .error d
      | none =>
        let cycle := q.planned r
        let q := q.at_ cycle
        let r := { r with issue := cycle }
        match (workOf r).bind (fun f => f s c r) with
        | none => .error 3
        | some w =>
          if !(q.clear r w && decide (({ q with loops := [] } : Sequencer).ready r w = cycle)) then .error 6
          else if s.tooLate t r cycle then .error 7
          else
            let acc := acc ++ planAccesses t l n j cycle p x w
            if r.flag 1 then (if q.pc + 1 = l.records.length then .ok ((w.inFlight cycle r).done, acc) else .error 9)
            else
              let q := q.advance cycle w (if r.opcode = 1 then some (r.frame q.pc cycle) else none)
              let q := { q with inFlight := q.inFlight ++ [{ w.inFlight cycle r with elems := [] }] }
              let slots := x.slotsAfter p
              follow p t l n j slots acc (s.onTile j (fun x => { x with seq := q, slots := slots.map (fun e => (e.1, e.2.1)) })) fuel

/-- A list at bell `n` of the rotation: a reason to refuse it, or its SRAM accesses (R95, R96). -/
def listFault (s : State) (p : Plan) (k : Nat) (t : Tier) (n : Nat) (l : OpList) : Except Nat (List SramAccess) :=
  let j := (t.endpointTile n l.executor).getD 0
  match follow p t l n j [] [] (planned s p k n) (p.lastCycle t + 1) with
  | .error d => .error d
  | .ok (c, acc) => if p.lastCycle t < c then .error 9 else .ok acc

/-- The cycle that DMF assigns to access number `i` of a tier at a bell: one from its record's issue on, which the manual leaves to DMF
(R39, R67; log 175). -/
def assigned (p : Plan) (k n i : Nat) (a : SramAccess) : Nat := a.from_ + Config.bankCycle p.header.planId k n i

/-- The executor of an access that needs the bank of an earlier one in the same cycle (R67). -/
def bankFault (p : Plan) (k n : Nat) (acc : List SramAccess) : Option Nat :=
  ((List.range acc.length).zip acc).foldl (fun (x : List (Nat × Nat × Nat) × Option Nat) a =>
    let u := (a.2.tile, a.2.bank, assigned p k n a.1 a.2)
    (u :: x.1, x.2.orElse (fun _ => if x.1.contains u then some a.2.executor else none))) ([], none) |>.2

/-! ## The mesh (R72; detail 11) -/

/-- Routers of an XY route, first along the row (R70). -/
def route (a b : Nat) : List Nat :=
  let xs := if a % 16 ≤ b % 16 then (List.range (b % 16 - a % 16 + 1)).map (fun i => a % 16 + i)
    else (List.range (a % 16 - b % 16 + 1)).map (fun i => a % 16 - i)
  let ys := if a / 16 ≤ b / 16 then (List.range (b / 16 - a / 16)).map (fun i => a / 16 + 1 + i)
    else (List.range (a / 16 - b / 16)).map (fun i => a / 16 - 1 - i)
  xs.map (fun x => 16 * (a / 16) + x) ++ ys.map (fun y => 16 * y + b % 16)

/-- The port of an edge endpoint at a cycle, one for the flits it injects and those it ejects (R70, R72). -/
def portUse (code c : Nat) : List ((Nat × Nat) × Nat) := if 0x100 ≤ code ∧ code < 0x8000 then [((0x1000 + code, 0), c)] else []

/-- What a flit injected at cycle `c` from `a` to `b` occupies: directed links, and the ports of edge endpoints. -/
def flitUse (a b ca cb c : Nat) : List ((Nat × Nat) × Nat) :=
  let r := route a b
  (List.range (r.length - 1)).map (fun k => ((r.getD k 0, r.getD (k + 1) 0), c + 2 * (k + 1)))
  ++ portUse ca c ++ portUse cb (c + 2 * (r.length - 1) + 2)

/-- Everything an entry's flits occupy at bell `n`, and the cycle by which the last of them is usable (R71). -/
def entryUse (t : Tier) (n : Nat) (e : SlotEntry) : List ((Nat × Nat) × Nat) :=
  let a := t.attach n e.source
  let b := t.attach n e.dest
  let d := distance a b
  (List.range (e.reps + 1)).flatMap (fun i =>
    let s := e.start + i * e.stride
    if e.kind = 2 then
      flitUse a b e.source e.dest s ++ (List.range e.flits).flatMap (fun k => flitUse b a e.dest e.source (s + 2 * d + 12 + k))
    else (List.range e.flits).flatMap (fun k => flitUse a b e.source e.dest (s + k)))

def entryLast (t : Tier) (n : Nat) (e : SlotEntry) : Nat :=
  let d := t.hops n e
  if e.kind = 2 then e.start + e.reps * e.stride + 4 * d + e.flits + 15 else e.lastFlit + 2 * d + 4

/-- The source of an entry whose flits arrive late, or share a link or a port in a cycle with those of an entry before it, at a bell of the
rotation: the executor that OP_ILLEGAL names (DEDUCED, log 141). -/
def meshFault (p : Plan) (t : Tier) : Option Nat :=
  (List.range t.span).findSome? (fun n =>
    ((t.slots.find? (fun e => decide (p.lastCycle t < entryLast t n e))).map (fun e => e.source)).orElse (fun _ =>
      (t.slots.foldl (fun (x : List ((Nat × Nat) × Nat) × Option Nat) e =>
        let u := entryUse t n e
        (u ++ x.1, x.2.orElse (fun _ => if !pairwiseB (fun a b => a ≠ b) u || u.any (fun a => x.1.contains a) then some e.source else none)))
        ([], none)).2))

/-- An endpoint code of Table TILE-3 in this tier. -/
def Tier.hasEndpoint (t : Tier) (code : Nat) : Bool :=
  decide (code ≤ 0x111) || (decide (0x8000 ≤ code) && t.groups.any (fun g => g.ident = (code - 0x8000) / 256 && decide ((code - 0x8000) % 256 < g.active)))

/-- Slot entries: endpoints, owner (Table TILE-4), and the input record (R356). -/
def slotEntriesOk (t : Tier) : Bool :=
  t.slots.all (fun e => t.hasEndpoint e.source && t.hasEndpoint e.dest && bitOf t.entry.partSet e.owner)

def inputRecordOk (t : Tier) : Bool :=
  t.slots.all (fun e => e.source ≠ 0x110 || (e.kind = 1 && e.flits = 1 && decide (4 * clockMHz t.entry.clock ≤ e.start)
    && (decide (e.dest < 0x100) || decide (0x8000 ≤ e.dest))))

/-- The cycle at which byte `b` of a transfer is injected. -/
def SlotEntry.byteCycle (e : SlotEntry) (b : Nat) : Nat := e.start + b / 32 / e.flits * e.stride + b / 32 % e.flits

/-- The bytes of cell `i` of a flow arrive at their port before the cell's slot, at every bell of the rotation (R231). -/
def cellFed (t : Tier) (m : SlotEntry) (bytes i slot : Nat) : Bool :=
  (List.range t.span).all (fun n => decide (m.byteCycle (min (240 * (i + 1)) bytes - 1) + 2 * t.hops n m + 4
    ≤ slotCycle (clockMHz t.entry.clock) slot))

/-- The drove slot table (R223, R230, R231). The destination of a receive entry is the buffer of log 78, whose base is a multiple of 16 and
which has one run, so it is STRICT. -/
def drovePlanOk (p : Plan) (t : Tier) : Bool :=
  let d := t.drove
  (d.budget = 0 || d.planSlots = slotsWithin (blocksIn ((p.header.bellPeriod - p.header.slot) * 1000)))
  && d.entries.all (fun e =>
    let m := t.slots.getD e.meshSlot {}
    let outs := d.slots e.outSlot e.bytes
    let ins := d.slots e.inSlot e.bytes
    bitOf t.entry.partSet e.owner && (e.kind = 1 || e.inPort ≠ 0xFF) && (e.kind = 2 || e.outPort ≠ 0xFF)
    && (e.kind = 2 || outs.all (fun j => decide (j < d.planSlots))) && (e.kind = 1 || ins.all (fun j => decide (j < d.planSlots)))
    && (match e.kind with
      | 1 => m.dest = 0x108 + e.outPort && decide (e.meshSlot < t.slots.length) && m.kind = 1 && decide (e.bytes ≤ m.bytes)
          && (List.range (cellCount e.bytes)).all (fun i => cellFed t m e.bytes i (outs.getD i 0))
      | 2 => m.source = 0x108 + e.inPort && decide (e.meshSlot < t.slots.length) && m.kind = 1 && decide (e.bytes ≤ m.bytes)
      | _ => (List.zipWith (fun i o => decide (i + 8 ≤ o)) ins outs).all id && e.meshSlot = 0xFFFFFFFF))
  && pairwiseB (fun x y => x ≠ y) (d.entries.flatMap (fun e => if e.kind = 2 then [] else (d.slots e.outSlot e.bytes).map (fun j => (e.outPort, j))))
  && pairwiseB (fun x y => x ≠ y) (d.entries.flatMap (fun e => if e.kind = 1 then [] else (d.slots e.inSlot e.bytes).map (fun j => (e.inPort, j))))

/-- Executors: exactly one list for each tile outside the groups, and for each role (R88). -/
def executorsOk (t : Tier) : Bool :=
  let want := (List.range 256).filter (fun k => bitOf t.entry.tileMask k && !t.groups.any (fun g => g.tiles.contains k))
    ++ t.groups.flatMap (fun g => (List.range g.active).map (fun r => 0x8000 + 256 * g.ident + r))
  want.all (fun e => (t.lists.filter (fun l => l.executor = e)).length = 1) && t.lists.all (fun l => want.contains l.executor)

/-- The lists of a tier at bell `n`, in order, with their accesses: the first fault, or a bank conflict among them. -/
def bellFault (s : State) (p : Plan) (k : Nat) (t : Tier) (n : Nat) : Option (Nat × Nat) :=
  match t.lists.foldl (fun (x : Except (Nat × Nat) (List SramAccess)) l => match x with
      | .error e => .error e
      | .ok acc => match listFault s p k t n l with
        | .error d => .error (l.executor, d)
        | .ok more => .ok (acc ++ more)) (.ok []) with
  | .error e => some e
  | .ok acc => (bankFault p k n acc).map (fun e => (e, 10))

/-- A tier's first fault: executor and reason of OP_ILLEGAL. The list of a role is followed on the tile of each bell of the rotation. -/
def tierFault (s : State) (p : Plan) (k : Nat) (t : Tier) : Option (Nat × Nat) :=
  ((List.range t.span).findSome? (bellFault s p k t)).orElse (fun _ => (meshFault p t).map (fun e => (e, 11)))

/-- Step 13: legal, or rejected with or without an OP_ILLEGAL (R109, R72, R231, R356). `plans` are the images of the set. -/
def lowering (s : State) (plans : List Plan) (p : Plan) : Except (Option (Nat × Nat)) Unit :=
  match p.present.findSome? (fun k => (p.tier? k).bind (fun t => tierFault s p k t)) with
  | some f => .error (some f)
  | none =>
    if hopsFew plans && p.present.all (fun k => match p.tier? k with
      | some t => executorsOk t && slotEntriesOk t && inputRecordOk t && drovePlanOk p t
      | none => true) then .ok ()
    else .error none

/-! ## The whole order (Table PLAN-9) -/

/-- A rejection: event code, detail, and the executor and reason of an OP_ILLEGAL that goes before it. -/
structure Rejection where
  event : Nat
  detail : Nat
  illegal : Option (Nat × Nat) := none
deriving DecidableEq, Repr

/-- Verification of this device's image, in order, to the first failure. `plans` are the images of the set that the bellwether has in
staging. -/
def verify (s : State) (staged : Nat) (plans : List Plan) (m : Image) : Option Rejection :=
  let sig (d : Nat) : Option Rejection := some { event := 0x1012, detail := d }
  let fit (d : Nat) : Option Rejection := some { event := 0x1013, detail := d }
  let p := readPlan m
  if !lengthsOk staged m then sig 1
  else if (keyOf s.board.planKeys m).isNone then sig 2
  else if !digestOk s.board.planKeys m then sig 3
  else if !signatureOk m then sig 4
  else if !formatOk m then fit 1
  else if !partFits s p.header then fit 2
  else if !bellFits s p.header then fit 3
  else if !tiersFit p then fit 4
  else if !powerFits p then fit 5
  else if !domainFits s plans p.header then fit 6
  else if !resourcesFit s p then fit 7
  else if !alignmentFits p then fit 8
  else match lowering s plans p with
    | .error i => some { event := 0x1013, detail := 9, illegal := i }
    | .ok _ => if contentFits s m p then none else fit 10

end Sys2Proof.Machine
end

