-- ==== Sys2Proof/Machine/Load.lean ====
section
/-!
DEFINITION. Plan load (02 R47 to R52; 08 R179, R181; 11 R274): the load commands, verification, what a load writes, rejection, a
member's image.
-/
namespace Sys2Proof.Machine

/-! ## Staging (R49) -/

/-- Images of a staging area, back to back at multiples of 4,096 bytes; `fuel` bounds their number. -/
def splitImages : (fuel : Nat) → Image → List Image
  | 0, _ => []
  | fuel + 1, bs =>
    let l := u32 bs 0x10
    if bs.length < 0x80 ∨ l = 0 then []
    else bs.take l :: splitImages fuel (bs.drop (cdiv l 4096 * 4096))

/-- Images of the staging area, each with its LP5X address left to the caller. -/
def State.stagedImages (s : State) (a len : Nat) : List Image :=
  splitImages 129 ((s.memory 0x100).readPoisoned emptyByte a len).1

/-- The image that names member `m`. -/
def imageFor (ms : List Image) (m : Nat) : Option Image := ms.find? (fun x => u8 x 0x17 = m)

/-! ## Rejection (R50) -/

/-- Member IDs of the other devices of the domain. -/
def State.members (s : State) : List Nat := (List.range 128).filter (fun m => m ≠ 0 && s.drove.present.getLsbD m)

/-- A rejection at member `m` is recorded, logged, and every member told to discard its image. -/
def State.rejectSet (s : State) (m event detail : Nat) : State :=
  let s := s.raise event m detail
  let s := { s with plan := { s.plan with
    status := 4, plan := none, awaitBell0 := false, rejection := BitVec.ofNat 32 (event * 65536 + m * 256 + detail) } }
  if s.role = .bellwether then s.members.foldl (fun s m => s.emit (.discardImage m)) s else s

/-- OP_ILLEGAL names the record that step 13 refuses (R99). -/
def State.noteIllegal (s : State) (r : Rejection) : State :=
  match r.illegal with
  | some (e, d) => s.raise 0x2006 e d
  | none => s

/-! ## What a load writes -/

/-- Region entries of tile `k` (R174). -/
def Plan.regionsOf (p : Plan) (k : Nat) : List Region :=
  (List.range 16).map (fun i => ((p.regions.find? (fun r => r.tile = k && r.index = i)).map RegionRecord.region).getD {})

/-- The golden store takes the initial data section (R179). -/
def State.writeGolden (s : State) (m : Image) : State :=
  let p := readPlan m
  let s := { s with mem := { s.mem with goldenBase := p.goldenBase } }
  s.onMemory 0x100 (fun x => Memory.patch emptyByte (p.goldenLength + 1) x p.goldenBase (sectionBytes m 0xC 0xFFFF))

/-- Shed map objects take the plan's tiers (Table OD-7). -/
def State.writeShedMap (s : State) (p : Plan) : State :=
  (List.range 4).foldl (fun s k => s.setObj 0x2404 (k + 1) (p.shedMap.getD k 0)) s

/-- A tile that some tier uses holds its regions and, unless it is out of use, is powered (Table TILE-6). -/
def TileState.load (p : Plan) (k : Nat) (x : TileState) : TileState :=
  let x := { x with regions := p.regionsOf k }
  if p.usesTile k ∧ x.mode = .gatedOff then { x with mode := .gatedRetain } else x

/-- Everything a verified plan sets at load, its placements among it (R179, R181, R212, R260; Tables PART-6, FIELD-5). -/
def State.commitLoad (s : State) (p : Plan) : State :=
  let s := { s with tiles := Vector.ofFn (fun (k : Fin 256) => TileState.load p k.val s.tiles[k]), tallies := [] }
  let s := (s.writeShedMap p).writePlacements p
  let s := { s with parts := s.parts.map (fun (x : PartState) => { x with lastNotified := 0xFFFF, notices := 0 }) }
  s.clearMailboxes.rpdosFresh

/-! ## Load commands -/

/-- A load command is accepted now (R47, R388, R438, R296; Table DROVE-8; log 80, log 81). -/
def State.mayLoad (s : State) : Bool :=
  s.bell.state = .stopped && (s.plan.status = 0 || s.plan.status = 4) && !s.thermal.tripped && !s.boot.lp5xFailed && s.awake
  && s.role ≠ .member && (s.role = .standalone || s.drove.domain = 2)

/-- Images go to the members they name, once the bellwether's own is verified (R48, R49). -/
def State.distribute (s : State) (ms : List Image) : State :=
  let s := { s with plan := { s.plan with status := 2 } }
  s.members.foldl (fun s m => match imageFor ms m with
    | some i => s.emit (.image m (s.plan.restartCause = 2) i)
    | none => s) s

/-- Staged images are verified and distributed; the device's own is checked at once, as Table PLAN-9 orders (log 82). The own image is
the first that names this device; where none does, the first image is checked, which step 10 rejects (DESIGN CHOICE, log 154). -/
def State.loadStaged (s : State) (cause : Nat) (area : Option (Nat × Nat)) : State :=
  let len := match area with
    | some a => a.2
    | none => 0
  let ms := match area with
    | some a => s.stagedImages a.1 a.2
    | none => []
  let own := (imageFor ms 0).getD (ms.headD [])
  let s := { s with plan := { s.plan with status := 1, staging := area, restartCause := cause } }
  let s := match verify s len (ms.map readPlan) own with
    | some r => (s.noteIllegal r).rejectSet 0 r.event r.detail
    | none =>
      let s := { s.writeGolden own with plan := { s.plan with plan := some (readPlan own) } }
      if s.role = .bellwether then s.distribute ms else s
  match area with
  | some a => s.noteBytes 0x100 a.1 a.2
  | none => s

/-- Staging area that 0x2200:05 and :06 name, when it lies in the warden's window. -/
def State.stagingArea (s : State) : Option (Nat × Nat) :=
  (s.windowAddr 0 (s.obj 0x2200 5) (s.obj 0x2200 6)).map (fun a => (a, s.obj 0x2200 6))

/-- Load command 1. -/
def State.loadOne (s : State) : Except Nat State :=
  if s.mayLoad then .ok (s.loadStaged 1 s.stagingArea) else .error abortState

/-- LOAD_FROM_STAGING (R47, R49). -/
def execLoadFromStaging (p : Principal) (s : State) : Result :=
  runLive (State.ownWrite p 0x2200 3 1 1 State.loadOne) s

/-- `n` bytes of the boot flash. -/
def State.flashRead (s : State) (a n : Nat) : List Byte :=
  (List.range n).map (fun k => (assocGet (a + k) s.board.flash).getD erasedByte)

/-- The read command of the port in its mode (R273). -/
def State.readOpcode (s : State) : Nat :=
  if s.boot.flashLines = 4 then 0x6C else if s.boot.flashLines = 2 then 0x3C else if s.boot.flashMhz ≤ 25 then 0x13 else 0x0C

/-- The flash port puts out its read command (R273). -/
def State.askFlash (s : State) (a : Nat) : State := s.emit (.flash s.readOpcode a)

/-- Start of the flash plan area (Table HOST-8). -/
def planArea : Nat := 0x2100000

/-- The plan area's first bytes are copied into the staging area (R274). -/
def State.stageFromFlash (s : State) : State :=
  match s.stagingArea with
  | some (a, n) => (s.askFlash planArea).onMemory 0x100 (fun m => Memory.patch emptyByte (n + 1) m a (s.flashRead planArea n))
  | none => s

/-- Load command 2. -/
def State.loadTwo (s : State) : Except Nat State :=
  if s.mayLoad then .ok (s.stageFromFlash.loadStaged 1 s.stagingArea) else .error abortState

/-- LOAD_FROM_BOOT_FLASH (R274). -/
def execLoadFromBootFlash (p : Principal) (s : State) : Result :=
  runLive (State.ownWrite p 0x2200 3 1 2 State.loadTwo) s

/-! ## Stop (R47) -/

/-- The bell at which a stop accepted now takes effect: the next one when standalone, bell n+2 in a domain, where the markers of bells n
and n+1 announce it (R47). A marker names one target only, so bell n is the first at which no switch and no restart is under way
(Table DROVE-3; log 155). -/
def State.stopBell (s : State) : Nat :=
  let b := s.bell.count.toNat
  let waits := s.plan.pending.any (fun w => decide (b + 1 < w.bell)) || s.bell.restart.any (fun r => decide (1 < r.2))
  if s.role = .standalone then b + 1 else if waits then b + 4 else b + 3

/-- A stop is accepted. -/
def State.acceptStop (s : State) : State := { s with plan := { s.plan with status := 5, stopAt := some s.stopBell } }

/-- Load command 3: a plan runs, and no stop is under way. -/
def State.stopCommand (s : State) : Except Nat State :=
  if s.plan.status = 3 ∧ s.role ≠ .member then .ok s.acceptStop else .error abortState

/-- PLAN_STOP (R47). -/
def execPlanStop (p : Principal) (s : State) : Result :=
  runLive (State.ownWrite p 0x2200 3 1 3 State.stopCommand) s

/-! ## A member's image (R48 to R51, R251) -/

/-- A verified image takes its place on a member. -/
def State.adoptImage (s : State) (m : Image) (reform : Bool) : State :=
  let p := readPlan m
  let s := { s.writeGolden m with plan := { s.plan with plan := some p, incoming := none, restartCause := if reform then 2 else 1 } }
  s.commitLoad p

/-- A member verifies its image and tells the bellwether. A verified image is loaded at once, or, on an orphaned member, which runs tier 7
until a restart, at that restart (R29, R251; log 156). Its demands then go out (R51, R52). -/
def State.imageArrives (s : State) (m : Image) (reform : Bool) : State :=
  let s := { s with plan := { s.plan with status := 1 } }
  let runs := s.running
  match verify s m.length [readPlan m] m with
  | some r =>
    let s := (s.noteIllegal r).emit (.verdict s.ownId (some (r.event, r.detail)))
    { s with plan := { s.plan with status := 4, plan := if runs then s.plan.plan else none, incoming := none } }
  | none =>
    let s := if runs then { s with plan := { s.plan with incoming := some (m, reform) } } else s.adoptImage m reform
    (s.emit (.verdict s.ownId none)).refreshDemand

/-- MEMBER_IMAGE_RECEIVED (R49, R251): on a member that runs nothing, or is orphaned. `reform` says that a re-formation sent it, which
gives bell 0 its cause (R36, R240; no field of the image carries it, log 157). -/
def execMemberImageReceived (image : MemberImage) (s : State) : Result :=
  runLive (fun s =>
    if s.role = .member ∧ (s.bell.state = .stopped ∨ s.bell.state = .orphaned) ∧ ¬ s.boot.lp5xFailed then s.imageArrives image.bytes image.reform
    else s) s

end Sys2Proof.Machine
end

