-- ==== Sys2Proof/Machine/Drove.lean ====
section
/-!
DEFINITION. Drove links while they carry traffic (10 R225 to R235, R241 to R251): cells, retries, deadlines, control blocks, training,
probation, the gateway.
-/
namespace Sys2Proof.Machine

/-! ## Ports going down (R244, R246) -/

/-- Entries of the tier whose cells come in on a port. -/
def State.inbound (s : State) (p : Nat) : List (Nat × DroveEntry) := s.droveEntries.filter (fun e => e.2.kind ≠ 1 && e.2.inPort = p)

/-- The cell of number `i` of an outbound entry that the sender does not hold: every poison flag set (R107, R225, R233, R235; log 73). -/
def State.missingCell (s : State) (e : DroveEntry) (i : Nat) : Cell :=
  { flow := BitVec.ofNat 16 e.flow, index := BitVec.ofNat 16 i, parity := s.parity, kind := if e.kind = 1 then 1 else 4,
    words := poisonCell }

/-- Slot `j` of the tick has begun, by the instant of the last timed command (R222; log 158). -/
def State.slotBegun (s : State) (j : Nat) : Bool := decide ((slotBlocks j * 33 : Int) ≤ 64 * s.sinceBell)

/-- A forward entry whose inbound port is gone sends placeholders in its slots to come, in place of cells handed out for them (R246). -/
def State.holdBack (s : State) (e : DroveEntry) : State :=
  (List.range (cellCount e.bytes)).foldl (fun (s : State) (i : Nat) =>
    let q : PortNo := Fin.ofNat 8 e.outPort
    let j := cellSlot s.retryBudget e.outSlot i
    if (assocGet j (s.port q).sentCells).isSome ∧ ¬ s.slotBegun j then s.sendCell q j (s.missingCell e i) else s) s

/-- A port goes DOWN: nothing it brought in this tick counts any more (R246). A port that is DOWN or DISABLED stays as it is. -/
def State.linkLost (s : State) (p : PortNo) (detail : Nat) : State :=
  if (s.port p).mode = .down ∨ (s.port p).mode = .disabled then s
  else
    let gone := s.inbound p
    let s := s.portDown p detail
    let s := { s with drove := { s.drove with
      cells := s.drove.cells.filter (fun (c : HeldCell) => !(gone.map (fun e => e.1)).contains c.entry) } }
    (gone.filter (fun (e : Nat × DroveEntry) => e.2.kind = 3)).foldl (fun s e => s.holdBack e.2) s

/-! ## Cells (R225, R232 to R234) -/

/-- Entry and cell number that a port expects in slot `j`. -/
def State.expects (s : State) (p j : Nat) : Option (Nat × DroveEntry × Nat) :=
  (s.inbound p).findSome? (fun e => (cellAt s.retryBudget e.2.inSlot e.2.bytes j).map (fun i => (e.1, e.2, i)))

/-- The flow's deadline has passed in this tick. -/
def State.delivered (s : State) (e : Nat) : Bool := s.drove.delivered.any (fun d => d.1 = e)

/-- The receiver holds cell `i` of entry `e`. -/
def State.holdsCell (s : State) (e i : Nat) : Bool := s.drove.cells.any (fun c => c.entry = e && c.number = i)

/-- A retry request names a slot, and is repeated until it is met (R232). -/
def State.ask (s : State) (p : PortNo) (j : Nat) : State :=
  if (s.port p).asking.contains j then s
  else (s.onPort p (fun x => { x with asking := x.asking ++ [j], askedFrame := j / 8 })).emitBlock (.retryRequest p j)

/-- The receiver repeats its requests in every control position until the cells arrive intact (R232). A cell that arrives shows that the
control positions of its frame and those before it have passed (R222). -/
def State.repeatRequests (s : State) (p : PortNo) (j : Nat) : State :=
  if (s.port p).askedFrame < j / 8 then
    let s := (s.port p).asking.foldl (fun (s : State) k => s.emitBlock (.retryRequest p k)) s
    s.onPort p (fun x => { x with askedFrame := j / 8 })
  else s

/-- A cell fails its CRC (R225, R232, R249). One in a retry slot is asked for by that slot: its sender knows which cell it sent there
(log 159). -/
def State.cellBad (s : State) (p : PortNo) (j : Nat) : State :=
  let s := s.onPort p (fun x => { x with crcFails := satAdd 32 x.crcFails 1 })
  if (s.port p).mode = .probation then
    let s := s.onPort p (fun x => { x with probationFails := x.probationFails + 1 })
    if 3 ≤ (s.port p).probationFails then s.linkLost p 3 else s
  else
    match s.expects p j with
    | none => if s.carries p ∧ isRetrySlot s.retryBudget j ∧ j < s.planSlots then s.ask p j else s
    | some (e, _, _) => if s.delivered e then s else s.ask p j

/-- An intact cell of entry `e` is held, and its request ends (R232); a retry cell also ends the requests that name retry slots. -/
def State.holdCell (s : State) (p : PortNo) (e : Nat) (x : DroveEntry) (i : Nat) (retry : Bool) (ws : List FWord) : State :=
  let b := s.retryBudget
  let s := s.onPort p (fun y => { y with
    asking := y.asking.filter (fun j => j ≠ cellSlot b x.inSlot i && !(retry && isRetrySlot b j)) })
  { s with drove := { s.drove with cells := s.drove.cells ++ [⟨e, i, ws⟩] } }

/-- A transit device passes a cell on: in its planned slot when it is usable there, else as a relay in a retry slot (R224, R233). -/
def State.passOn (s : State) (x : DroveEntry) (i slot : Nat) (c : Cell) : State :=
  let out := cellSlot s.retryBudget x.outSlot i
  let q : PortNo := Fin.ofNat 8 x.outPort
  if slot + 8 ≤ out then s.sendCell q out { c with kind := 1 }
  else s.onPort q (fun y => { y with relays := y.relays ++ [(slot + 8, { c with kind := 2 })] })

/-- A data or retry cell is intact. -/
def State.cellGood (s : State) (p : PortNo) (j : Nat) (c : Cell) : State :=
  (s.inbound p).foldl (fun s e =>
    if e.2.flow = c.flow.toNat ∧ c.index.toNat < cellCount e.2.bytes ∧ ¬ s.holdsCell e.1 c.index.toNat ∧ ¬ s.delivered e.1 then
      let s := s.holdCell p e.1 e.2 c.index.toNat (c.kind = 2) c.words
      if e.2.kind = 3 then s.passOn e.2 c.index.toNat j c else s
    else s) s

/-- A cell of a plan flow, or a test cell, arrives (R225, R232, R233, R249). A slot that would end after the next bell carries none
(R222). Placeholders leave nothing held. -/
def State.planCell (s : State) (port : PortNo) (slot : Nat) (cell : Cell) (crcOk : Bool) : State :=
  if (s.port port).mode ≠ .probation ∧ (s.port port).mode ≠ .eligible ∨ s.tickSlots ≤ slot then s
  else
    let s := s.repeatRequests port slot
    if !crcOk then s.cellBad port slot
    else if (s.port port).mode = .eligible ∧ s.carries port ∧ cell.parity = s.parity ∧ (cell.kind = 1 ∨ cell.kind = 2) then
      s.cellGood port slot cell
    else s

/-- RETRY_REQUEST_RECEIVED (R232): requests join the queue in order of arrival. -/
def execRetryRequestReceived (port : PortNo) (slots : List Nat) (nowSlot : Nat) (crcOk : Bool) (s : State) : Result :=
  runLive (fun s =>
    if !crcOk ∨ (s.port port).mode ≠ .eligible then s
    else slots.foldl (fun s j => s.onPort port (fun x =>
      if x.requests.any (fun r => r.1 = j) ∨ (assocGet j x.sentCells).isNone then x
      else { x with requests := x.requests ++ [(j, nowSlot)] })) s) s

/-- RETRY_CELL_SEND (R230, R232, R233): an unused retry slot takes the first request it may serve, else the first relay. -/
def execRetryCellSend (port : PortNo) (slot : Nat) (s : State) : Result :=
  runLive (fun s =>
    let x := s.port port
    if ¬ s.carries port ∨ ¬ isRetrySlot s.retryBudget slot ∨ s.planSlots ≤ slot ∨ (assocGet slot x.sentCells).isSome then s
    else
      match x.requests.find? (fun r => decide (r.1 + 24 ≤ slot ∧ r.2 < slot)) with
      | some r =>
        let s := s.onPort port (fun y => { y with requests := y.requests.erase r, retries := satAdd 32 y.retries 1 })
        (match assocGet r.1 x.sentCells with
          | some c => s.sendCell port slot { c with kind := 2 }
          | none => s)
      | none =>
        match x.relays.find? (fun r => decide (r.1 ≤ slot)) with
        | some r => (s.onPort port (fun y => { y with relays := y.relays.erase r })).sendCell port slot r.2
        | none => s) s

/-- Words of a receive entry: cells held, poison for the others (R234). -/
def State.entryWords (s : State) (e : Nat) (x : DroveEntry) : List FWord :=
  (List.range (cellCount x.bytes)).flatMap (fun i =>
    match s.drove.cells.find? (fun c => c.entry = e && c.number = i) with
    | some c => c.words
    | none => poisonCell)

/-- Cells of an entry that are not held. -/
def State.missingCells (s : State) (e : Nat) (x : DroveEntry) : Nat :=
  ((List.range (cellCount x.bytes)).filter (fun i => !s.holdsCell e i)).length

/-- DROVE_CELL_LOST, once per flow and tick (R234). -/
def State.noteLoss (s : State) (x : DroveEntry) (n : Nat) : State :=
  if n = 0 then s
  else
    let s := s.onPort x.inPort (fun y => { y with lost := satAdd 32 y.lost n })
    if s.drove.lossLogged.contains x.flow then s
    else ({ s with drove := { s.drove with lossLogged := s.drove.lossLogged ++ [x.flow] } }).raise 0x4001 (0x100 + x.inPort)
      (x.flow * 65536 + min n 0xFFFF)

/-- FLOW_DEADLINE (R234). -/
def execFlowDeadline (entry : Nat) (s : State) : Result :=
  runLive (fun s =>
    match s.droveEntries.find? (fun e => e.1 = entry && e.2.kind = 2) with
    | none => s
    | some (_, x) =>
      if s.delivered entry then s
      else
        let ws := s.entryWords entry x
        let s := s.noteLoss x (s.missingCells entry x)
        let s := s.onPort x.inPort (fun y => { y with
          asking := y.asking.filter (fun j => (cellAt s.retryBudget x.inSlot x.bytes j).isNone) })
        { s with drove := { s.drove with delivered := s.drove.delivered ++ [(entry, ws)] } }) s

/-- A planned outbound cell that has not gone out leaves with every poison flag set (R107, R225, R233, R235; log 73). -/
def State.sendMissing (s : State) : State :=
  (s.droveEntries.filter (fun (e : Nat × DroveEntry) => e.2.kind ≠ 2)).foldl (fun (s : State) (e : Nat × DroveEntry) =>
    (List.range (cellCount e.2.bytes)).foldl (fun (s : State) (i : Nat) =>
      let q : PortNo := Fin.ofNat 8 e.2.outPort
      let j := cellSlot s.retryBudget e.2.outSlot i
      if (assocGet j (s.port q).sentCells).isSome then s
      else s.sendCell q j (s.missingCell e.2 i)) s) s

/-! ## Control blocks -/

/-- DEMAND_BLOCK_RECEIVED (R241), before bell 0 as well: the words received by then decide its tier (R51, R52). -/
def execDemandBlockReceived (port : PortNo) (member : Fin 128) (word : U32) (crcOk : Bool) (s : State) : Result :=
  runLive (fun s =>
    if !crcOk ∨ (s.port port).mode ≠ .eligible then s
    else
      let rest := s.plan.received.filter (fun r => !(r.1 = port.val && r.2.1 = member.val))
      ({ s with plan := { s.plan with received := rest ++ [(port.val, member.val, word, 0)] } }).refreshDemand) s

/-- A lost member's port is ELIGIBLE again: the restart is due, or its image goes to it first, in the maintenance slots (R250, R251). -/
def State.peerBack (s : State) (m : Nat) (samePlan : Bool) : State :=
  if s.role ≠ .bellwether ∨ ¬ s.running ∨ 128 ≤ m ∨ ¬ s.drove.lost.getLsbD m ∨ s.drove.readmit.contains m then s
  else if samePlan then { s with drove := { s.drove with readmit := s.drove.readmit ++ [m] } }
  else if s.drove.resend.any (fun r => r.1 = m) then s
  else { s with drove := { s.drove with resend := s.drove.resend ++ [(m, 0)] } }

/-- The plan ID in force. -/
def State.planId (s : State) : Nat := (s.plan.plan.map (fun p => p.header.planId)).getD 0

/-- LINK_REPORT_RECEIVED (R244, R247, R250): a report of peer reset takes the port DOWN; any other goes on towards the
bellwether. -/
def execLinkReportReceived (port : PortNo) (report : LinkReport) (crcOk : Bool) (s : State) : Result :=
  runLive (fun s =>
    let m := (s.port port).mode
    if !crcOk ∨ (m ≠ .eligible ∧ m ≠ .probation) then s
    else
      if s.tellsPeerReset port report then s.linkLost port 2
      else if s.role = .member then s.passReport (some port) report
      else
        let s := if report.state.val = 2 then s else s.noteLink report.member.val report.port.val (report.state.val = 1)
        if report.state.val = 4 then s.peerBack report.peer.toNat (report.planIdLow.toNat = s.planId % 2 ^ 32) else s) s

/-! ## Training and probation (R248, R249) -/

/-- The port's training failed for good or starts again at phase 1 (R248). -/
def State.phaseFailed (s : State) (p : PortNo) : State :=
  if (s.port p).trainFails + 1 < 5 then s.onPort p (fun x => { x with phase := 1, trainFails := x.trainFails + 1 })
  else (s.onPort p (fun x => { x with trainFails := 0, retryIn := some 0 })).linkLost p 5

/-- Phase 3 measures the hop delay, which is the cable's (log 84). While a plan runs, one above 80 ns fails the phase (R249); in free
training it stands, and formation fails with code 4 (R239). -/
def State.measureHop (s : State) (p : PortNo) : State :=
  let (v, s) := s.takeFree
  let h := v.toNat % 2 ^ 32
  if s.running ∧ 80000 < h then s.phaseFailed p else s.onPort p (fun x => { x with hopPs := h, phase := 4 })

/-- Phase 4 tells the peer who this device is. -/
def State.sendPeerInfo (s : State) (p : PortNo) : State :=
  (s.onPort p (fun x => { x with phase := 5 })).emitBlock (.probe p (.peerInfo (BitVec.ofNat 8 s.ownId) p
    (if s.plan.running then BitVec.ofNat 64 s.planId else 0) s.bell.count))

/-- One phase of training. A phase that still waits for the peer's answer to phase 4 has failed. -/
def State.onePhase (s : State) (p : PortNo) : State :=
  let x := s.port p
  if x.mode ≠ .training then s
  else if x.phase ≤ 2 then
    (if x.signal then s.onPort p (fun x => { x with phase := x.phase + 1 }) else s.phaseFailed p)
  else if x.phase = 3 then s.measureHop p
  else if x.phase = 4 then s.sendPeerInfo p
  else s.phaseFailed p

/-- Without a plan, ports train freely: the phases follow one another once the receiver sees signal. -/
def State.trainFreely (s : State) (p : PortNo) : State :=
  if s.running ∨ (s.port p).mode ≠ .training ∨ ¬ (s.port p).signal then s
  else
    let s := s.measureHop p
    if (s.port p).phase = 4 then s.sendPeerInfo p else s

/-- Training starts on a DOWN port. -/
def State.startTraining (s : State) (p : PortNo) : State :=
  if (s.port p).mode ≠ .down then s
  else (s.onPort p (fun x => { x with mode := .training, phase := 1, trainFails := 0, retryIn := none, wantTrain := true })).trainFreely p

/-- A DOWN port trains in the maintenance slots while its receiver sees signal and 0x2700 + p:0A is 1, but not in the 1,000 bells after its
training failed (R248). -/
def State.mayTrain (s : State) (p : PortNo) : Bool :=
  (s.port p).mode = .down && (s.port p).signal && s.obj (0x2700 + p.val) 0xA = 1 && (s.port p).retryIn.isNone

/-- The drove links' part of a maintenance slot (Table BELL-4, R248). -/
def State.trainPhase (s : State) (p : PortNo) : State := (if s.mayTrain p then s.startTraining p else s).onePhase p

/-- A trained port serves probation while a plan runs, else it is ELIGIBLE at once, and probing goes on over it. -/
def State.trained (s : State) (p : PortNo) (member : Nat) (peerPort : Nat) (planId : U64) : State :=
  let peer := BitVec.ofNat 16 (member * 256 + peerPort)
  let mode : PortMode := if s.running then .probation else .eligible
  let s := s.onPort p (fun x => { x with
    mode := mode, peer := peer, peerPlan := some (member, planId), probation := 1000, probationFails := 0, phase := 1,
    trainFails := 0, wantTrain := false })
  if s.running then s
  else
    let s := s.reportPort p 0
    if (s.role = .bellwether ∧ s.drove.domain = 1) ∨ (s.role = .member ∧ s.drove.parent.isSome) then
      s.emitBlock (.probe p (.request s.drove.round))
    else s

/-- PORT_LOCK_LOST (R244): a port in training has failed its phase. -/
def execPortLockLost (port : PortNo) (s : State) : Result :=
  runLive (fun s =>
    let s := s.onPort port (fun x => { x with signal := false })
    if (s.port port).mode = .training then s.phaseFailed port else s.linkLost port 1) s

/-- PORT_SIGNAL_DETECTED (R248). -/
def execPortSignalDetected (port : PortNo) (s : State) : Result :=
  runLive (fun s =>
    if (s.port port).mode = .disabled then s
    else
      let s := s.onPort port (fun x => { x with signal := true })
      if (s.port port).mode = .training then s.trainFreely port
      else if s.obj (0x2700 + port.val) 0xA = 1 then s.startTraining port
      else s) s

/-- A port command on a DISABLED port is refused (log 63). -/
def State.portCommand (p : PortNo) (act : State → State) (s : State) : Except Nat State :=
  if (s.port p).mode = .disabled then .error abortState else .ok (act s)

/-- PORT_CMD_TRAIN (R248). -/
def execPortCmdTrain (p : Principal) (port : PortNo) (s : State) : Result :=
  runLive (State.ownWrite p (0x2700 + port.val) 9 1 1 (State.portCommand port (·.startTraining port))) s

/-- PORT_CMD_TAKE_DOWN (R244). -/
def execPortCmdTakeDown (p : Principal) (port : PortNo) (s : State) : Result :=
  runLive (State.ownWrite p (0x2700 + port.val) 9 1 2 (State.portCommand port (·.linkLost port 4))) s

/-- PORT_RETRAIN_RETRY (R248): 1,000 bells after the fifth failure. -/
def execPortRetrainRetry (port : PortNo) (s : State) : Result :=
  runLive (fun s =>
    match (s.port port).retryIn with
    | some n => if 1000 ≤ n then s.startTraining port else s
    | none => s) s

/-- PROBATION_END (R249, R250). -/
def execProbationEnd (port : PortNo) (s : State) : Result :=
  runLive (fun s =>
    if (s.port port).mode = .probation ∧ (s.port port).probation = 0 then
      let s := s.onPort port (fun x => { x with mode := .eligible })
      let s := (s.raise 0x4003 (0x100 + port.val) (s.port port).probationFails).reportPort port 0
      let s := match (s.port port).peerPlan with
        | some x => s.peerBack x.1 (x.2.toNat = s.planId)
        | none => s
      s.refreshDemand
    else s) s

/-! ## Probes (R239, R248) -/

/-- This device's port map: one link for each trained port. Who the peer is comes from the exchange with it, whose content the manual
does not give (log 84). -/
def State.portMap (s : State) : List GraphLink × State :=
  (List.finRange 8).foldl (fun (acc : List GraphLink × State) (p : PortNo) =>
    if (acc.2.port p).mode = .eligible then
      let (v, s) := acc.2.takeFree
      (acc.1 ++ [⟨s.board.serial, p, v.setWidth 32, Fin.ofNat 8 (s.port p).peer.toNat, (s.port p).hopPs⟩], s)
    else acc) ([], s)

/-- A probe is answered, and forwarded on the other ports when it came from the bellwether's side (Domain formation, step 1). A device
whose LP5X failed does not answer (R438). -/
def State.answerProbe (s : State) (p : PortNo) (round : Nat) : State :=
  if s.boot.lp5xFailed ∨ s.role = .standalone then s
  else
    let m := s.portMap
    let s := m.2.emitBlock (.probe p (.reply m.2.board.serial (s.role = .bellwether) m.1))
    if s.role = .member ∧ (s.drove.parent.isNone ∨ s.drove.parent = some p ∨ s.drove.round ≠ round) then
      let s := { s with drove := { s.drove with parent := some p, round := round } }
      (List.finRange 8).foldl (fun (s : State) (q : PortNo) =>
        if q ≠ p ∧ (s.port q).mode = .eligible then s.emitBlock (.probe q (.request round)) else s) s
    else s

/-- An answer reaches the bellwether's graph, or goes on towards it. -/
def State.gather (s : State) (node : U32) (bw : Bool) (links : List GraphLink) : State :=
  if s.role = .bellwether then
    (if s.drove.domain = 1 then
      { s with drove := { s.drove with second := s.drove.second || bw,
                                       graph := s.drove.graph ++ links.filter (fun l => !s.drove.graph.contains l) } }
    else s)
  else match s.drove.parent with
    | some q => s.emitBlock (.probe q (.reply node bw links))
    | none => s

/-- A member ID reaches the device it names, or goes on, away from the bellwether. The device tells its neighbours who it is (log 84). A
number is taken only where nothing runs, or by an orphaned device (R29). -/
def State.takeNumber (s : State) (port : PortNo) (node : U32) (member : Fin 128) (primary : PortNo) : State :=
  if s.role ≠ .member then s
  else if node = s.board.serial then
    if s.running ∧ s.bell.state ≠ .orphaned then s
    else
      let s := { s with drove := { s.drove with memberId := member.val }, bell := { s.bell with primary := some primary } }
      (List.finRange 8).foldl (fun (s : State) (q : PortNo) =>
        if (s.port q).mode = .eligible then s.emitBlock (.probe q (.peerInfo (BitVec.ofNat 8 member.val) q
          (if s.plan.running then BitVec.ofNat 64 s.planId else 0) s.bell.count)) else s) s
  else if s.drove.parent = some port then
    (List.finRange 8).foldl (fun (s : State) (q : PortNo) =>
      if q ≠ port ∧ (s.port q).mode = .eligible then s.emitBlock (.probe q (.assign node member primary)) else s) s
  else s

/-- The peer says who it is: phase 4 of training ends (R248), or its ID is noted on a link that is up. -/
def State.meetPeer (s : State) (port : PortNo) (member peerPort : Nat) (planId : U64) : State :=
  match (s.port port).mode with
  | .training => if 4 ≤ (s.port port).phase then s.trained port member peerPort planId else s
  | .probation | .eligible => s.onPort port (fun x => { x with peer := BitVec.ofNat 16 (member * 256 + peerPort) })
  | _ => s

/-- PROBE_RECEIVED (R239, R237, R248). -/
def execProbeReceived (port : PortNo) (probe : Probe) (crcOk : Bool) (s : State) : Result :=
  runLive (fun s =>
    let m := (s.port port).mode
    if !crcOk ∨ m = .disabled ∨ m = .down then s
    else match probe with
      | .request round => s.answerProbe port round
      | .reply node bw links => s.gather node bw links
      | .assign node member primary => s.takeNumber port node member primary
      | .peerInfo member peerPort planId _ => s.meetPeer port member.toNat peerPort.val planId) s

/-! ## Gateway (R243, R246) -/

def State.onGateway (s : State) (p : Principal) (f : Gateway → Gateway) : State :=
  s.setCopy p (fun c => { c with gateway := f c.gateway })

/-- The service cells of a principal's request leave on the first port of their path. -/
def State.sendRequest (s : State) (p : Principal) : State :=
  let g := (s.copyOf p).gateway
  match s.route g.target with
  | [] => s
  | q :: r =>
    let x : Service := {
      member := Fin.ofNat 128 g.target, principal := p, object := BitVec.ofNat 32 g.object, write := g.write, answer := false,
      abort := 0, data := BitVec.ofNat 64 (g.low.toNat + 2 ^ 32 * g.high.toNat), route := r, back := [] }
    let s := s.emit (.service q x)
    s.onGateway p (fun g => { g with sent := true })

/-- Every principal, the physical function first (R304). -/
def principals : List Principal := .pf :: (List.finRange 31).map Principal.vf ++ (List.finRange 2).map Principal.usdo

/-- OD gateway traffic of a maintenance slot: the requests that wait leave (R17, Table BELL-4, R243). -/
def State.gatewayTraffic (s : State) : State :=
  principals.foldl (fun s p =>
    let g := (s.copyOf p).gateway
    if g.status = 1 ∧ g.sent = false then s.sendRequest p else s) s

/-- The maintenance slot carries on the images that lost members wait for, 240 bytes in each of its cell slots (R222, R223, R251). -/
def State.resendTraffic (s : State) : State :=
  match s.drove.resend, s.plan.staging with
  | (m, sent) :: rest, some a =>
    (match imageFor (s.stagedImages a.1 a.2) m with
    | some i =>
      if i.length ≤ sent then s
      else
        let n := sent + 240 * (s.tickSlots - s.planSlots)
        let s := { s with drove := { s.drove with resend := (m, min n i.length) :: rest } }
        if i.length ≤ n then s.emit (.image m false i) else s
    | none => s)
  | _, _ => s

/-- A request is taken, unless one is outstanding, the object is too long, or no path reaches the member; its cells wait for the next
maintenance slot, and without a bell leave at once (log 160). -/
def State.gatewayAsk (p : Principal) (write : Bool) (s : State) : Except Nat State :=
  let g := (s.copyOf p).gateway
  let idx := g.object / 65536
  let sub := g.object / 256 % 256
  if g.status = 1 then .error abortRule
  else if 8 < ((odRow? idx sub).map OdRow.bytes).getD 0 then
    .ok (s.onGateway p (fun g => { g with status := 3, abort := BitVec.ofNat 32 abortLength, write := write }))
  else if (s.routePort g.target).isNone then .ok (s.onGateway p (fun g => { g with status := 4, write := write }))
  else
    let s := s.onGateway p (fun g => { g with status := 1, abort := 0, write := write, sent := false })
    .ok (if s.running then s else s.sendRequest p)

/-- GATEWAY_READ (R243). -/
def execGatewayRead (p : Principal) (s : State) : Result :=
  runLive (State.ownWrite p 0x2710 0x14 1 1 (State.gatewayAsk p false)) s

/-- GATEWAY_WRITE (R243). -/
def execGatewayWrite (p : Principal) (s : State) : Result :=
  runLive (State.ownWrite p 0x2710 0x14 1 2 (State.gatewayAsk p true)) s

/-- The answer to a request has arrived (R243). -/
def State.gatewayAnswer (s : State) (p : Principal) (abort : U32) (data : U64) : State :=
  if (s.copyOf p).gateway.status ≠ 1 then s
  else if abort = 0 then
    s.onGateway p (fun g => { g with
      status := 2, low := if g.write then g.low else data.setWidth 32, high := if g.write then g.high else (data >>> 32).setWidth 32 })
  else s.onGateway p (fun g => { g with status := 3, abort := abort })

/-- GATEWAY_REPLY (R243). -/
def execGatewayReply (p : Principal) (abort : U32) (data : U64) (s : State) : Result :=
  runLive (fun s => s.gatewayAnswer p abort data) s

/-- GATEWAY_TIMEOUT (R243). -/
def execGatewayTimeout (p : Principal) (s : State) : Result :=
  runLive (fun s => if (s.copyOf p).gateway.status = 1 then s.onGateway p (fun g => { g with status := 5 }) else s) s

end Sys2Proof.Machine
end

