-- ==== Sys2Proof/Machine/Formation.lean ====
section
/-!
DEFINITION. Domain formation (10 R236 to R240, Tables DROVE-5, DROVE-6): the probe graph, its classification and numbering, and what
follows it.
-/
namespace Sys2Proof.Machine

/-! ## The graph -/

/-- One end of a link as its device sees it: port, peer, peer's port, hop delay. -/
structure LinkEnd where
  port : Nat
  peer : Nat
  peerPort : Nat
  hopPs : Nat
deriving DecidableEq, Repr

/-- Link ends of node `n`, each once. -/
def linkEnds (g : List GraphLink) (n : Nat) : List LinkEnd :=
  (List.range 8).flatMap (fun p =>
    ((g.filterMap (fun l =>
      if l.a.toNat = n ∧ l.aPort.val = p then some (LinkEnd.mk p l.b.toNat l.bPort.val l.hopPs)
      else if l.b.toNat = n ∧ l.bPort.val = p then some (LinkEnd.mk p l.a.toNat l.aPort.val l.hopPs)
      else none)).take 1))

/-- Nodes with their depth, breadth first from the list given; within a depth by the order of the parents and their ports. -/
def breadth (g : List GraphLink) : (fuel : Nat) → List (Nat × Nat) → List (Nat × Nat)
  | 0, seen => seen
  | fuel + 1, seen =>
    breadth g fuel (seen.foldl (fun acc n =>
      (linkEnds g n.1).foldl (fun acc e => if acc.any (fun m => m.1 = e.peer) then acc else acc ++ [(e.peer, n.2 + 1)]) acc) seen)

/-- Every node with its depth; the bellwether, `root`, first. -/
def nodesOf (g : List GraphLink) (root : Nat) : List (Nat × Nat) := breadth g 128 [(root, 0)]

/-- Distinct links whose ends the walk reached. -/
def linkCount (g : List GraphLink) (ns : List (Nat × Nat)) : Nat := (ns.map (fun n => (linkEnds g n.1).length)).sum / 2

/-! ## Numbering (Table DROVE-5) -/

/-- Serial numbers met k = 1, 2, ... hops out on a port, up to the first one met before. -/
def walk (g : List GraphLink) (port : Nat) : (fuel : Nat) → (seen : List Nat) → Nat → List Nat
  | 0, _, _ => []
  | fuel + 1, seen, n =>
    match (linkEnds g n).find? (fun e => e.port = port) with
    | some e => if seen.contains e.peer then [] else e.peer :: walk g port fuel (e.peer :: seen) e.peer
    | none => []

/-- Every link joins DRV0 to DRV1. -/
def ringWired (g : List GraphLink) (ns : List (Nat × Nat)) : Bool :=
  ns.all (fun n => (linkEnds g n.1).all (fun e => (e.port = 0 && e.peerPort = 1) || (e.port = 1 && e.peerPort = 0)))

/-- Member IDs of a ring, or the failure code; `expected` is 0x2710:03. -/
def ringIds (g : List GraphLink) (root expected n : Nat) : Except Nat (List (Nat × Nat)) :=
  let out := walk g 0 128 [root] root
  let number (xs : List Nat) (f : Nat → Nat) : List (Nat × Nat) := (List.range xs.length).map (fun k => (xs.getD k 0, f (k + 1)))
  if out.length + 1 = n ∧ ((linkEnds g root).any (fun e => e.port = 1)) then .ok (number out id)
  else
    let back := walk g 1 128 [root] root
    if expected = 0 then .error 5
    else if expected < out.length + back.length ∨ out.length + back.length + 1 ≠ n then .error 2
    else .ok (number out id ++ number back (fun k => expected + 1 - k))

/-- Coordinates modulo (X, Y) after a step on port `p`: the steps are +x, -x, +y, -y, +x+y, -x-y, +x-y, -x+y. -/
def torusStep (x y p : Nat) (c : Nat × Nat) : Nat × Nat :=
  let dx := [1, x - 1, 0, 0, 1, x - 1, 1, x - 1].getD p 0
  let dy := [0, 0, 1, y - 1, 1, y - 1, y - 1, 1].getD p 0
  ((c.1 + dx) % x, (c.2 + dy) % y)

/-- Coordinates of every node, along the first path found. -/
def torusPlaces (g : List GraphLink) (x y : Nat) : (fuel : Nat) → List (Nat × (Nat × Nat)) → List (Nat × (Nat × Nat))
  | 0, seen => seen
  | fuel + 1, seen =>
    torusPlaces g x y fuel (seen.foldl (fun acc n =>
      (linkEnds g n.1).foldl (fun acc e =>
        if acc.any (fun m => m.1 = e.peer) then acc else acc ++ [(e.peer, torusStep x y e.port n.2)]) acc) seen)

/-- Every link joins port p to port p xor 1. -/
def torusWired (g : List GraphLink) (ns : List (Nat × Nat)) : Bool :=
  ns.all (fun n => (linkEnds g n.1).all (fun e => e.port / 2 = e.peerPort / 2 && e.port ≠ e.peerPort))

/-- Member IDs of a torus: every path must agree, and no two devices share a place. -/
def torusIds (g : List GraphLink) (root x y : Nat) : Except Nat (List (Nat × Nat)) :=
  let ps := torusPlaces g x y 128 [(root, (0, 0))]
  let place (n : Nat) : Nat × Nat := (assocGet n ps).getD (0, 0)
  let agree := ps.all (fun n => (linkEnds g n.1).all (fun e => place e.peer = torusStep x y e.port n.2))
  let ids := ps.map (fun n => n.2.2 * x + n.2.1)
  if agree && decide ids.Nodup then .ok ((ps.map (fun n => (n.1, n.2.2 * x + n.2.1))).filter (fun n => n.1 ≠ root)) else .error 2

/-- Member IDs of a tree: breadth first, by depth, parent ID, parent port. -/
def treeIds (ns : List (Nat × Nat)) (expected : Nat) : Except Nat (List (Nat × Nat)) :=
  if expected ≠ 0 ∧ expected ≠ ns.length - 1 then .error 5
  else .ok ((List.range ns.length).filterMap (fun k => if k = 0 then none else some ((ns.getD k (0, 0)).1, k)))

/-- Topology code and member IDs by serial number, or the failure code (R239; the order is log 56). -/
def State.classify (s : State) (g : List GraphLink) (ns : List (Nat × Nat)) : Except Nat (Nat × List (Nat × Nat)) :=
  let root := s.board.serial.toNat
  let expected := s.obj 0x2710 3
  let x := s.obj 0x2710 4
  let y := s.obj 0x2710 5
  let n := ns.length
  if n ≠ 1 ∧ ringWired g ns then (ringIds g root expected n).map (fun ids => (1, ids))
  else if n ≠ 1 ∧ torusWired g ns ∧ 3 ≤ x ∧ 3 ≤ y ∧ x * y ≤ 128 then (torusIds g root x y).map (fun ids => (2, ids))
  else if linkCount g ns + 1 = n then (treeIds ns expected).map (fun ids => (3, ids))
  else .error 2

/-- The measured hop delays all lie within 80 ns. -/
def hopsShort (g : List GraphLink) (ns : List (Nat × Nat)) : Bool :=
  ns.all (fun n => (linkEnds g n.1).all (fun e => decide (e.hopPs ≤ 80000)))

/-- So do those of the bellwether's own eligible ports. -/
def State.ownHopsShort (s : State) : Bool :=
  (List.finRange 8).all (fun p => (s.port p).mode ≠ .eligible || decide ((s.port p).hopPs ≤ 80000))

/-- The outcome of formation (R239). -/
def State.formation (s : State) : Except Nat (Nat × List (Nat × Nat) × Nat) :=
  let g := s.drove.graph
  let ns := nodesOf g s.board.serial.toNat
  let depth := (ns.map (fun n => n.2)).foldl max 0
  if s.drove.second then .error 6
  else match s.classify g ns with
    | .error e => .error e
    | .ok (t, ids) =>
      if ids.any (fun i => decide (127 < i.2)) then .error 2
      else if 8 < depth then .error 3
      else if !(hopsShort g ns && s.ownHopsShort) then .error 4
      else .ok (t, ids, depth)

/-! ## Start and end -/

/-- Formation starts: the bellwether trains every port and probes (Domain formation, step 1). -/
def State.startFormation (s : State) : State :=
  let s := { s with
    drove := { s.drove with
      domain := 1, graph := [], second := false, failure := 0, topology := 0, present := 0, lost := 0, depth := 0, ids := [],
      linkDown := [], links := [], readmit := [], returning := [], resend := [], round := s.drove.round + 1 },
    plan := { s.plan with received := [] } }
  (List.finRange 8).foldl (fun (s : State) (p : PortNo) =>
    let s := s.startTraining p
    if (s.port p).mode = .eligible then s.emitBlock (.probe p (.request s.drove.round)) else s) s

/-- Formation fails (R239, Table DROVE-6). -/
def State.formationFails (s : State) (code : Nat) : State :=
  { s with drove := { s.drove with domain := 3, failure := code }, plan := { s.plan with reformAfterStop := false } }

/-- Member ID of a node; the bellwether is 0. -/
def idOf (ids : List (Nat × Nat)) (n : Nat) : Nat := (assocGet n ids).getD 0

/-- Links as formation records them, by member and port. -/
def recordLinks (g : List GraphLink) (ns ids : List (Nat × Nat)) : List ((Nat × Nat) × (Nat × Nat)) :=
  ns.foldl (fun acc n => (linkEnds g n.1).foldl (fun acc e =>
    let l := ((idOf ids n.1, e.port), (idOf ids e.peer, e.peerPort))
    if acc.any (fun k => k = l || k = (l.2, l.1)) then acc else acc ++ [l]) acc) []

/-- Primary port of a node: the first, ports ascending, on a shortest path to the bellwether (Domain formation, step 4). -/
def primaryOf (g : List GraphLink) (ns : List (Nat × Nat)) (n depth : Nat) : Nat :=
  ((linkEnds g n).find? (fun e => ns.any (fun m => m.1 = e.peer && m.2 + 1 = depth))).elim 0 (fun e => e.port)

/-- The bellwether's ports name their peers. -/
def State.namePeers (s : State) : State :=
  s.drove.links.foldl (fun (s : State) (l : (Nat × Nat) × (Nat × Nat)) =>
    let name (s : State) (a b : Nat × Nat) : State :=
      if a.1 = 0 then s.onPort a.2 (fun x => { x with peer := BitVec.ofNat 16 (b.1 * 256 + b.2), recorded := true }) else s
    name (name s l.1 l.2) l.2 l.1) s

/-- Numbers go out to the members, with their primary ports. -/
def State.assignIds (s : State) (g : List GraphLink) (ns ids : List (Nat × Nat)) : State :=
  ns.foldl (fun (s : State) (n : Nat × Nat) =>
    match s.routePort (idOf ids n.1) with
    | some p => if n.2 = 0 then s
      else s.emitBlock (.probe (Fin.ofNat 8 p)
        (.assign (BitVec.ofNat 32 n.1) (Fin.ofNat 128 (idOf ids n.1)) (Fin.ofNat 8 (primaryOf g ns n.1 n.2))))
    | none => s) s

/-- The domain is formed: DOMAIN_FORMED (Domain formation, steps 3 to 5). -/
def State.formed (s : State) (topology : Nat) (ids : List (Nat × Nat)) (depth : Nat) : State :=
  let g := s.drove.graph
  let ns := nodesOf g s.board.serial.toNat
  let s := { s with drove := { s.drove with
    domain := 2, topology := topology, depth := depth, ids := ids, links := recordLinks g ns ids,
    present := ids.foldl (fun (m : BitVec 128) (i : Nat × Nat) => m ||| BitVec.ofNat 128 (2 ^ i.2)) 0 } }
  (s.namePeers.assignIds g ns ids).raise 0x4005 topology (depth * 256 + ids.length)

/-- Autoload (R439): once after the boot. -/
def State.autoload (s : State) : State :=
  if !s.boot.autoload then s
  else
    let s := (s.setObj 0x2200 5 s.boot.stagingOffset).setObj 0x2200 6 s.boot.planLength
    let s := { s with boot := { s.boot with autoload := false } }
    if s.mayLoad then s.stageFromFlash.loadStaged 1 s.stagingArea else s

/-- What follows DOMAIN_FORMED: the staged images again after a re-formation's stop (R240), or autoload. -/
def State.afterFormed (s : State) : State :=
  if s.plan.reformAfterStop then
    let s := { s with plan := { s.plan with reformAfterStop := false } }
    if s.mayLoad then s.loadStaged 2 s.plan.staging else s
  else s.autoload

/-- FORMATION_SETTLED (R239). -/
def execFormationSettled (s : State) : Result :=
  runLive (fun s =>
    if s.role = .bellwether ∧ s.drove.domain = 1 ∧ ¬ s.running then
      match s.formation with
      | .error e => s.formationFails e
      | .ok (t, ids, depth) => (s.formed t ids depth).afterFormed
    else s) s

/-- FORMATION_TIMEOUT (R239). -/
def execFormationTimeout (s : State) : Result :=
  runLive (fun s => if s.role = .bellwether ∧ s.drove.domain = 1 then s.formationFails 1 else s) s

/-- Domain command 1: on a bellwether with no plan running. -/
def State.formCommand (s : State) : Except Nat State :=
  if s.role = .bellwether ∧ ¬ s.running ∧ s.plan.status ≠ 1 ∧ s.plan.status ≠ 2 then .ok s.startFormation else .error abortState

/-- DOMAIN_CMD_FORM (R239). -/
def execDomainCmdForm (p : Principal) (s : State) : Result :=
  runLive (State.ownWrite p 0x2710 0xC 1 1 State.formCommand) s

/-- Domain command 2: a running plan stops first, and formation follows (R240). -/
def State.reformCommand (s : State) : Except Nat State :=
  if s.role ≠ .bellwether then .error abortState
  else if s.plan.status = 3 then
    let s := s.acceptStop
    .ok { s with plan := { s.plan with reformAfterStop := true } }
  else s.formCommand

/-- DOMAIN_CMD_REFORM (R240). -/
def execDomainCmdReform (p : Principal) (s : State) : Result :=
  runLive (State.ownWrite p 0x2710 0xC 1 2 State.reformCommand) s

end Sys2Proof.Machine
end

