-- ==== Sys2Proof/Machine/Tick.lean ====
section
/-!
DEFINITION. A tick and its end (01 R15 to R25, 02 R62, 08 R183 to R186): commits at the sinks, the overrun guard, the maintenance slot.
-/
namespace Sys2Proof.Machine

/-! ## Overrun (R20, R22, R25, R69) -/

/-- One more consecutive overrun tick of partition `p`; the third posts a demand of one tier below the effective one (R25). -/
def State.countOverrun (s : State) (p : Nat) : State :=
  let n := (vget s.parts p {}).overruns + 1
  let s := s.onPart p (fun x => { x with overruns := min n 255 })
  if n = 3 then
    { s with plan := { s.plan with overrunDemand := max s.plan.overrunDemand (min 7 (s.plan.effective + 1)) } }
  else s

/-- Partition `p` is to complete this tick: in the tier in force, and not being reset (R440). -/
def State.ticks (s : State) (p : Nat) : Bool := s.present p && s.inTier p && !(vget s.parts p {}).resetting

/-- Mailbox results of an overrun partition are withheld (R22, Table HOST-4). -/
def State.withholdResults (s : State) (p : Nat) : State :=
  (List.range 64).foldl (fun (s : State) (m : Nat) =>
    if s.mailboxOwner m = some p ∧ (s.mailbox m).back = .filling then s.mailboxWithheld m true else s) s

/-- The guard meets partition `p`: overrun when a tile is short of its marker, logged unless it had failed (R20, R69). -/
def State.guardPart (s : State) (p : Nat) : State :=
  let x := vget s.parts p {}
  let n := (s.missing p).length
  if !s.ticks p || x.overrun || (!x.failed && n = 0) then s
  else
    let s := if x.failed then s else s.raise 0x1001 p n
    let s := s.onPart p (fun x => { x with overrun := true })
    (s.countOverrun p).withholdResults p

/-- OVERRUN_GUARD (R20, R22, R25). -/
def execOverrunGuard (t : Nat) (s : State) : Result :=
  runLive (fun s =>
    let s := s.clock t
    if s.running then (((List.range 32).foldl State.guardPart s).sendMissing).refreshDemand else s) s

/-- A tick of partition `p` ends (R25, Table PART-6 :04). A failure after the guard counts here. -/
def State.endPart (s : State) (p : Nat) : State :=
  let x := vget s.parts p {}
  let bad := x.overrun || x.failed
  let s := if s.ticks p && x.failed && !x.overrun then s.countOverrun p else s
  s.onPart p (fun y =>
    let y := { y with prevSkip := y.skipTick, prevBad := bad || y.resetting, overrun := false, failed := false }
    if !s.ticks p || bad then y else { y with completed := y.completed + 1, overruns := 0 })

/-- Every partition of the tier in force completed the tick. -/
def State.allCompleted (s : State) : Bool :=
  (List.range 32).all (fun p => !(s.present p && s.inTier p)
    || (let x := vget s.parts p {}; !x.overrun && !x.failed && !x.resetting))

/-- The overrun demand clears after 0x2210:05 clean ticks (R62). -/
def State.countClean (s : State) : State :=
  let n := if s.allCompleted then s.plan.cleanTicks + 1 else 0
  { s with plan := { s.plan with
    cleanTicks := n, overrunDemand := if s.obj 0x2210 5 ≤ n then 0 else s.plan.overrunDemand } }

/-- The tick under way ends at a bell. -/
def State.endTick (s : State) : State := (List.range 32).foldl State.endPart s.countClean

/-! ## Commits (R21, R22, R24, R183 to R186) -/

/-- The binding that commit number `k` of this tick stands for, its number in the tick that produces its data, and whether that is
the previous tick. After a switch the numbers past the tier's own bindings are those of the tier before (log 88). -/
def State.commitOf (s : State) (k : Nat) : Option (Binding × Nat × Bool) :=
  match s.tier? with
  | none => none
  | some t =>
    match t.bindings[k]? with
    | some b =>
      if !b.carried then some (b, k, false)
      else if s.mesh.carriedTier = some s.plan.effective then some (b, k, true)
      else none
    | none =>
      if s.mesh.carriedTier = some s.plan.effective then none
      else
        let j := k - t.bindings.length
        (s.mesh.carriedTier.bind (fun e => s.plan.plan.bind (fun p => p.tier? e))).bind (fun u =>
          (u.bindings[j]?).bind (fun b => if b.carried then some (b, j, true) else none))

/-- Data words of a source tensor, without pad words (R122): data, and whether a word carries the flag. -/
def Desc.dataOf (d : Desc) (ws : List FWord) : List Byte × Bool :=
  let row := d.padBytes / 8
  let runs := (List.range (ws.length / max row 1)).map (fun i => (ws.drop (row * i)).take (cdiv d.runBytes 8))
  (runs.flatMap (fun r => (r.flatMap (fun w => toLE 8 w.data.toNat)).take d.runBytes),
   runs.any (fun r => r.any (fun w => w.poison)))

/-- A commit is withheld (Table BELL-5); `late` under R22 or R69. -/
def State.withholdCommit (s : State) (b : Binding) (late : Bool) : State :=
  if b.kind = 1 then s.mandibleWithheld b.index
  else if b.kind = 3 then s.mailboxWithheld b.index late
  else if b.kind = 4 then s.onCamera b.index (fun c => { c with stale := true })
  else s

/-- A clean or sourceless commit of a camera trigger. -/
def State.cameraCommit (s : State) (c : Nat) : State :=
  (s.onCamera c (fun x => { x with held := false, stale := false })).camPulse c

/-- An angle commit: position and width are taken, byte 0 arms or disarms; what its other values do is open (R347, log 46). -/
def State.angleCommit (s : State) (e : Nat) (data : List Byte) : State :=
  let s := s.armEvent e (leNat ((data.drop 2).take 2)) (leNat ((data.drop 4).take 2))
  let cmd := leNat (data.take 1)
  if cmd = 1 then s
  else if cmd = 0 then s.disarmEvent e
  else
    let (v, s) := s.takeFree
    if v.toNat % 2 = 0 then s.disarmEvent e else s

/-- A clean commit fires. -/
def State.cleanCommit (s : State) (b : Binding) (data : List Byte) : State :=
  let u (o : Nat) : Nat := leNat ((data.drop o).take 2)
  if b.kind = 1 then s.mandibleCommit b.index (leNat (data.take 1)) (u 2) (u 4)
  else if b.kind = 2 then s.tpdoCommit b.index data false
  else if b.kind = 3 then s.mailboxCommit b.index false
  else if b.kind = 4 then s.cameraCommit b.index
  else if b.kind = 5 then s.angleCommit b.index data
  else if b.index < (s.partEntry b.owner).tallyCount then
      s.incTally ((s.partEntry b.owner).tallyBase + b.index) 1
        (s.tier?.map (fun t => ((b.offset * clockMHz t.entry.clock : Nat) : Int)))
  else s

/-- A poisoned commit (R183, Table MEM-4). -/
def State.poisonedCommit (s : State) (b : Binding) : State :=
  let s := (s.logPoison (0x1000 + 256 * b.kind + b.index) 0).countPoison
  if b.kind = 1 then s.mandiblePoisoned b.index
  else if b.kind = 2 then s.tpdoCommit b.index [] true
  else if b.kind = 3 then s.mailboxCommit b.index true
  else if b.kind = 4 then s.onCamera b.index (fun x => { x with held := true })
  else if b.kind = 5 then s.disarmEvent b.index
  else s

/-- Commits to actuation sinks do not fire, and set no STALE mark, in a device-wide safe state (R28, R378). -/
def State.sinkBlocked (s : State) (b : Binding) : Bool :=
  (s.plan.safe || s.bell.state = .orphaned) && [1, 2, 4, 5].contains b.kind

/-- A commit whose binding is known. -/
def State.commitBinding (s : State) (b : Binding) (k : Nat) (prev : Bool) : State :=
  let x := vget s.parts b.owner {}
  let skip := if prev then x.prevSkip else x.skipTick
  let bad := if prev then x.prevBad else x.overrun || x.failed || x.resetting
  let source := if prev then s.mesh.carried else s.mesh.emitted
  if skip || s.sinkBlocked b then s
  else if b.source = 0xFFFF then s.cleanCommit b []
  else if bad then s.withholdCommit b true
  else match source.find? (fun e => e.binding = k && e.complete) with
    | none => s.withholdCommit b false
    | some e =>
      let d := ((s.plan.plan.bind (fun p => p.descs[b.source]?)).getD {}).dataOf e.words
      if d.2 then s.poisonedCommit b else s.cleanCommit b d.1

/-- COMMIT (R21, R22, R183, R376). -/
def execCommit (binding : Nat) (t : Nat) (s : State) : Result :=
  runLive (fun s =>
    let s := s.clock t
    match s.commitOf binding with
    | some (b, k, prev) => if s.inTier b.owner || prev then s.commitBinding b k prev else s
    | none => s) s

/-! ## The maintenance slot (R17 to R19, R365, R366, R190) -/

/-- The restart that falls at the next bell (R250). -/
def State.restartDue (s : State) : Option Nat :=
  match s.bell.restart with
  | some (c, k) => if k ≤ 1 then some c else none
  | none => none

/-- A device that its fast path or a failed raise has taken below the domain's tier follows no switch to a tier richer than its own
supply demand asks for (R57, R366). -/
def State.staysBelow (s : State) (p : Plan) (w : PendingSwitch) : Bool :=
  decide (s.plan.effective ≠ s.plan.domainTier) && decide (w.tier < p.resolve s.supplyDemand)

/-- The domain's tier as a restart names it, or as this device knows it (R242, R250). -/
def State.toldTier (s : State) : Nat := (s.bell.announced.map (fun a => a.1)).getD s.plan.domainTier

/-- The tier that the next bell brings: by a restart to an orphaned device (R29), by the fast path, a failed raise, or the switch that
falls due (R53, R57, R366). -/
def State.upcoming (s : State) (p : Plan) : Option Tier :=
  if s.bell.state = .orphaned then (if s.restartDue.isSome then p.tier? s.toldTier else none)
  else if s.plan.fastPath then p.tier? (p.resolve 7)
  else match s.plan.raiseFailed, s.plan.pending with
    | some k, _ => p.tier? k
    | none, some w => if w.bell ≤ s.bell.count.toNat + 1 ∧ ¬ s.staysBelow p w then p.tier? w.tier else none
    | none, none => none

/-- VDD_CORE for the rest of this slot and the next tick: enough for the clock that runs and for the one that the next bell starts
(R18, R365). A raise is read back (R366). -/
def State.stepVdd (s : State) (next : Option Tier) : State :=
  let need (t : Option Tier) : Nat := match t with
    | some t => t.entry.vddMv
    | none => 0
  let v := max (need s.tier?) (need next)
  if v = 0 ∨ v = s.power.vddMv then s
  else
    let s := s.emit (.avsWrite v)
    { s with power := { s.power with vddMv := v, raise := if s.power.vddMv < v then some v else none } }

/-- Reloads and loads of the slot, under one budget of 64 KiB (R81, R196, R440). -/
def State.slotLoads (s : State) (p : Plan) : State :=
  let r := (s.scrubReset p).serveReloads s.mem.reload 65536
  r.1.serveLoads p (List.range 256) r.2

/-- MAINTENANCE_SLOT_OPEN (R17, Table BELL-4). -/
def execMaintenanceSlotOpen (t : Nat) (s : State) : Result :=
  runLive (fun s =>
    let s := s.clock t
    match s.running, s.plan.plan with
    | true, some p =>
      let next := s.upcoming p
      let s := (s.stepVdd next).wakeChannels next
      let s := (s.slotLoads p).glean.extraRefreshes
      let s := (List.finRange 8).foldl State.trainPhase s
      s.gatewayTraffic.resendTraffic
    | _, _ => s) s

end Sys2Proof.Machine
end

