-- ==== Sys2Proof/Machine/Pdo.lean ====
section
/-!
DEFINITION. SYNC at a bell (12 R292) and the unbound TPDOs (12 R288), with what the objects that a TPDO can map read as (13, flag M).
-/
namespace Sys2Proof.Machine

/-! ## Readings of the device -/

def BellState.code : BellState → Nat
  | .stopped => 0
  | .source => 1
  | .locked => 2
  | .holdover => 3
  | .orphaned => 4

def Role.code : Role → Nat
  | .standalone => 0
  | .bellwether => 1
  | .member => 2

def TileMode.code : TileMode → Nat
  | .active => 0
  | .gatedRetain => 1
  | .gatedOff => 2
  | .quarantined => 3
  | .testing => 4
  | .outOfService => 5

/-- 0x2100 (R2, R13, Table BELL-7). -/
def State.readBell (s : State) (sub : Nat) : Nat :=
  if sub = 3 then s.bell.count.toNat
  else if sub = 4 then (if s.role = .member then min 0xFFFF (s.bell.errors.foldl max 0) else 0)
  else s.bell.state.code

/-- 0x2210:03 and :04 (R57, R59, Table PLAN-10). -/
def State.readTier (s : State) (sub : Nat) : Nat :=
  if sub = 4 then packDemands s.demands
  else if s.role ≠ .standalone ∧ s.bell.state ≠ .orphaned then s.plan.domainTier else s.plan.effective

/-- 0x2400, 0x2500 and 0x2510 (16, 17). -/
def State.readPower (s : State) (idx sub : Nat) : Nat :=
  if idx = 0x2400 then (if sub = 1 then s.power.stage else unsignedOf 32 s.power.vplat)
  else if idx = 0x2500 then
    (if sub = 1 then unsignedOf 16 (s.reading s.hottest) else if sub = 4 then s.hottestTile
     else if sub = 5 then unsignedOf 16 s.thermal.peak else if sub = 6 then 105 else 115)
  else if sub = 3 then s.thermal.flow
  else if sub = 8 then s.thermal.heat
  else match (if sub = 1 then s.thermal.inlet else s.thermal.outlet) with
    | none => 0x7FFF
    | some c => unsignedOf 16 (readout 0x2510 (unsignedOf 32 c) ((c : Rat) / 10))

/-- 0x2800 + ch and 0x2810 (14). -/
def State.readMandible (s : State) (idx sub : Nat) : Nat :=
  if idx = 0x2810 then (if sub = 2 then s.mandible.boostMv else s.boostStatus)
  else
    let c := idx - 0x2800
    if sub = 3 then (s.ch c).status (s.chOn c) else if sub = 4 then unsignedOf 32 (s.ch c).current else unsignedOf 16 (s.coilTenths c)

/-- 0x2900 + w, the angle events, 0x2A00 + i and 0x2A20 + a (15). -/
def State.readAngle (s : State) (idx sub : Nat) : Nat :=
  if idx ≤ 0x2901 then
    let w := idx - 0x2900
    let x := s.wheel w
    if sub = 5 then x.sync.code else if sub = 6 then s.wheelPosition w else if sub = 7 then x.tRef % 2 ^ 32
    else if sub = 8 then x.noise.toNat else if sub = 9 then x.inferred.toNat else unsignedOf 16 x.slip
  else if idx ≤ 0x298F then (s.event (idx - 0x2910)).stamp.toNat
  else if idx ≤ 0x2A0F then
    let x := s.limit (idx - 0x2A00)
    if sub = 6 then (if x.level then 1 else 0) + (if x.tripped then 2 else 0) + (if x.chatter then 4 else 0) else x.trips.toNat
  else
    let h := s.axis (idx - 0x2A20)
    if sub = 9 then h.state else unsignedOf 32 h.latchedPos

/-- The value of a mapped object, which every principal may read (Table OD-3, C); none for an object that a TPDO cannot map, and for one that
is only written (log 98). -/
def State.mappedValue (s : State) (idx sub : Nat) : Option Nat :=
  match odRow? idx sub with
  | none => none
  | some r =>
    if !r.pdo || r.acc ≠ .ro then none
    else some ((if idx = 0x1001 then s.field.errorReg.toNat
      else if idx = 0x2100 then s.readBell sub
      else if idx = 0x2210 then s.readTier sub
      else if idx ≤ 0x2510 then s.readPower idx sub
      else if idx ≤ 0x2810 then s.readMandible idx sub
      else s.readAngle idx sub) % 256 ^ r.bytes)

/-! ## Unbound TPDOs (R288) -/

/-- Mapping entries of a PDO; `base` is 0x1600 or 0x1A00. -/
def State.mapping (s : State) (base n : Nat) : List Nat :=
  (List.range (s.obj (base + n) 0)).map (fun k => s.obj (base + n) (k + 1))

/-- The bytes of mapped objects in turn; none where one has no value to send. -/
def State.gatherMapped (s : State) : List Nat → Option (List Byte)
  | [] => some []
  | e :: es =>
    match s.mappedValue (bitsOf e 16 16) (bitsOf e 8 8), s.gatherMapped es with
    | some v, some bs => some (toLE (bitsOf e 0 8 / 8) v ++ bs)
    | _, _ => none

/-- What TPDO `n` would send now (R283, R285, R288, R296): none for one that is plan-bound, not valid or maps nothing, outside Operational, under
a sleep vote or in bus-off. -/
def State.tpdoData (s : State) (n : Nat) : Option (List Byte) :=
  if s.tpdoBound n ∨ s.field.nmt ≠ .operational ∨ bitOf (s.obj (0x1800 + n) 1) 31 ∨ ¬ s.awake ∨ (s.can (s.tpdoCan n)).off
      ∨ s.mapping 0x1A00 n = [] then none
  else s.gatherMapped (s.mapping 0x1A00 n)

def State.tpdo (s : State) (n : Nat) : Tpdo := vget s.field.tpdos n {}

def State.onTpdo (s : State) (n : Nat) (f : Tpdo → Tpdo) : State :=
  { s with field := { s.field with tpdos := vmod s.field.tpdos n f } }

/-- Transmission type of TPDO `n`. -/
def State.tpdoType (s : State) (n : Nat) : Nat := s.obj (0x1800 + n) 2

/-- A frame of an unbound TPDO becomes pending, and its inhibit time (units of 100 µs) starts (CiA 301, log 20). -/
def State.tpdoOut (s : State) (n : Nat) (bs : List Byte) : State :=
  (s.onTpdo n (fun x => { x with last := some bs, due := false, nextAt := s.now + s.obj (0x1800 + n) 3 * 100000 })).queueFrame (s.tpdoCan n)
    { frame := fdFrame (s.obj (0x1800 + n) 1 % 2048) bs, kind := .tpdo n }

/-- An event of TPDO `n`: it is sent, or is due once its inhibit time is over. -/
def State.tpdoEvent (s : State) (n : Nat) (bs : List Byte) : State :=
  if (s.tpdo n).nextAt ≤ s.now then s.tpdoOut n bs else s.onTpdo n (fun x => { x with due := true })

/-- A TPDO of type 254 or 255 whose objects read otherwise than in its last frame, or that is due, has its event (R288; the event is a
DESIGN CHOICE, log 187). -/
def State.eventTpdo (s : State) (n : Nat) : State :=
  if s.tpdoType n < 254 then s
  else match s.tpdoData n with
    | none => s
    | some bs => if (s.tpdo n).due ∨ (s.tpdo n).last ≠ some bs then s.tpdoEvent n bs else s

def State.eventTpdos (s : State) : State := (List.range 32).foldl State.eventTpdo s

/-- TPDO_EVENT_TIMER (R288): transmission types 254 and 255, with an event timer. -/
def execTpdoEventTimer (n : Fin 32) (s : State) : Result :=
  runLive (fun s =>
    if s.tpdoType n < 254 ∨ s.obj (0x1800 + n.val) 5 = 0 then s
    else match s.tpdoData n with
      | some bs => s.tpdoEvent n bs
      | none => s) s

/-- A synchronous TPDO at a SYNC with a counter byte, 0 without one: type 0 is sent when its objects read otherwise than in its last frame,
type k at every k-th SYNC, counted from the one whose counter is its start value (CiA 301, log 20). -/
def State.syncTpdo (s : State) (counter n : Nat) : State :=
  let k := s.tpdoType n
  let start := s.obj (0x1800 + n) 6
  if 240 < k then s
  else if k = 0 then
    match s.tpdoData n with
    | some bs => if (s.tpdo n).last ≠ some bs then s.tpdoOut n bs else s
    | none => s
  else if s.tpdoBound n ∨ ((s.tpdo n).syncs.isNone ∧ start ≠ 0 ∧ counter ≠ 0 ∧ counter ≠ start) then s
  else
    let seen := (s.tpdo n).syncs.getD 0 + 1
    let s := s.onTpdo n (fun x => { x with syncs := some (if k ≤ seen then 0 else seen) })
    if seen < k then s
    else match s.tpdoData n with
      | some bs => s.tpdoOut n bs
      | none => s

/-- A SYNC on the controllers that `on` names drives their unbound synchronous TPDOs. -/
def State.syncTpdos (s : State) (on : Nat → Bool) (counter : Nat) : State :=
  (List.range 32).foldl (fun (s : State) n => if on (s.tpdoCan n) then s.syncTpdo counter n else s) s

/-- A SYNC from controller `c`, while the node is a consumer in Operational (R292). -/
def State.syncIn (s : State) (c counter : Nat) : State :=
  if bitOf (s.obj 0x1005 0) 30 ∨ s.field.nmt ≠ .operational then s else s.syncTpdos (fun k => decide (k = c)) counter

/-- SYNC_CONSUMED (R292). -/
def execSyncConsumed (x : SyncSeen) (s : State) : Result := runLive (fun s => s.syncIn x.c x.counter.toNat) s

/-! ## SYNC at a bell (R292, R35) -/

/-- SYNC is queued at bell `b` when it is due, and drives the node's own synchronous TPDOs on the controllers that it goes out on (CiA 301,
log 20). The counter runs 1 to V from the bell restart on. -/
def State.syncAt (s : State) (b : Nat) : State :=
  let n := s.obj 0x2100 5
  let cob := s.obj 0x1005 0
  let v := s.obj 0x1019 0
  if n = 0 ∨ b % n ≠ 0 ∨ ¬ bitOf cob 30 ∨ ¬ s.awake ∨ ¬ s.emcyAllowed then s
  else
    let k := s.bell.syncCounter % (if v = 0 then 1 else v) + 1
    let data : List Byte := if v = 0 then [] else [BitVec.ofNat 8 k]
    let s := { s with bell := { s.bell with syncCounter := if v = 0 then 0 else k } }
    let s := s.queueService 1 { frame := classicFrame (cob % 2048) data, kind := .sync }
    s.syncTpdos (fun c => bitOf (s.obj 0x2300 0x25) (1 + 4 * c)) (if v = 0 then 0 else k)

end Sys2Proof.Machine
end

