-- ==== Sys2Proof/Machine/Bell.lean ====
section
/-!
DEFINITION. The bell (01; 02 R52 to R64; 10 R228, R229, R241, R242, R250): its order, tier switches and arbitration, markers, restarts,
holdover and orphaning, BELL_IN and BELL_OUT, and bell 0.
-/
namespace Sys2Proof.Machine

/-! ## A tier takes effect (R53, R54, R57, R366) -/

/-- The device runs no partition under tier `k`: STOP, or a tier whose member mask leaves it out (R58, R242). -/
def State.idleUnder (s : State) (p : Plan) (k : Nat) : Bool :=
  match p.tier? k with
  | some t => !s.takesPart t
  | none => true

/-- The tier in force on this device changes: safe states, counts and what the tier's tables decide (R25, R62, R190, R287, R346, R359). -/
def State.changeTier (s : State) (p : Plan) (k : Nat) : State :=
  if k = s.plan.effective then s
  else
    let s : State := if s.idleUnder p k then s.safeEntry else s
    let s : State := { s with
      plan := { s.plan with effective := k, tierSince := s.bell.count.toNat, cleanTicks := 0 },
      parts := s.parts.map (fun x => { x with overruns := 0 }) }
    let s : State := if s.idleUnder p k ∨ 5 ≤ s.power.stage ∨ s.bell.state = .orphaned then s else s.safeLeave
    s.homingTier.disarmUnbound false

/-- A switch takes effect, and is logged, also when it names the tier in force; it resets the overrun counts (R25, R54). -/
def State.switchTo (s : State) (p : Plan) (k cause : Nat) : State :=
  let s : State := { s.raise 0x1010 cause (s.plan.effective * 256 + k) with parts := s.parts.map (fun x => { x with overruns := 0 }) }
  s.changeTier p k

/-- The domain's pending switch comes due. -/
def State.domainSwitch (s : State) (w : PendingSwitch) : State :=
  { s with plan := { s.plan with domainTier := w.tier, pending := none, lastSwitch := s.bell.count.toNat } }

/-- Step 2 of Table BELL-3 (R53, R57, R366). -/
def State.tierStep (s : State) (p : Plan) : State :=
  let stays := s.staysBelow p
  let due := s.plan.pending.filter (fun w => decide (w.bell ≤ s.bell.count.toNat))
  let fast := s.plan.fastPath
  let failed := s.plan.raiseFailed
  let alone (s : State) : State := if s.role = .standalone then
      { s with plan := { s.plan with domainTier := s.plan.effective, lastSwitch := s.bell.count.toNat } } else s
  let s : State := match due with
    | some w => s.domainSwitch w
    | none => s
  let s : State := { s with plan := { s.plan with fastPath := false, raiseFailed := none } }
  if s.bell.state = .orphaned then s.changeTier p (p.resolve 7)
  else if fast then alone (s.switchTo p (p.resolve 7) 6)
  else match failed, due with
    | some k, _ => alone (s.switchTo p k 1)
    | none, some w => if stays w then s else s.switchTo p w.tier w.cause
    | none, none => s

/-! ## Arbitration (R58, R63, R64) -/

/-- A switch is announced, or replaces the pending target; TIER_CONFLICT beyond LIMIT_TIER (R63), for a recovery step too: R63 speaks of
every announced target, and the procedure of R64 shows no log there (DESIGN CHOICE, log 167). -/
def State.announce (s : State) (w : PendingSwitch) : State :=
  let s : State := { s with plan := { s.plan with pending := some w } }
  if s.obj 0x2210 2 < w.tier then s.raise 0x1011 w.cause (w.tier * 256 + s.obj 0x2210 2) else s

/-- Nothing may be announced now: a switch, a restart or a stop is under way, and a marker names one target (R64, R250, Table DROVE-3;
log 155). -/
def State.mayAnnounce (s : State) : Bool := s.plan.pending.isNone && s.bell.restart.isNone && s.plan.stopAt.isNone

/-- The recovery step of R64: the dwell has passed since the later of two bells, and nothing else is announced. -/
def State.recover (s : State) (p : Plan) : State :=
  let b : Int := s.bell.count.toNat
  let target := p.resolve (s.rawTarget p).1
  if s.bell.state = .source ∧ s.mayAnnounce ∧ target < s.plan.domainTier then
    match s.plan.belowSince, p.richer? s.plan.domainTier with
    | some since, some k =>
      if max since s.plan.lastSwitch + (s.obj 0x2210 5 : Int) ≤ b then
        s.announce { tier := k, bell := s.bell.count.toNat + 2, cause := 7 }
      else s
    | _, _ => s
  else s

/-- The procedure of R64 at a bell. While a bell restart or a stop is under way, no switch is announced (R250, R47). -/
def State.arbitrate (s : State) (p : Plan) : State :=
  if s.bell.state ≠ .source then s
  else
    let b := s.bell.count.toNat
    let (raw, cause) := s.rawTarget p
    let target := p.resolve raw
    let eff := s.plan.domainTier
    let since : Option Int := if eff ≤ target then none
      else if s.plan.pending.isSome then s.plan.belowSince
      else some (s.plan.belowSince.getD b)
    let s : State := { s with plan := { s.plan with belowSince := since } }
    match s.plan.pending with
    | some w => if w.tier < target then s.announce { w with tier := target, cause := cause } else s
    | none =>
      if !s.mayAnnounce then s
      else if eff < target then s.announce { tier := target, bell := b + 2, cause := cause }
      else s.recover p

/-- RECOVERY_STEP (R64). -/
def execRecoveryStep (s : State) : Result :=
  runLive (fun s => match s.plan.plan with
    | some p => s.recover p
    | none => s) s

/-- A readmission restart is announced at the next bell on which no switch is pending, for two bells later, and takes back every member
that waits by then (R250). -/
def State.announceRestart (s : State) : State :=
  if s.role = .bellwether ∧ s.drove.readmit ≠ [] ∧ s.mayAnnounce then
    { s with bell := { s.bell with restart := some (3, 2) },
             drove := { s.drove with readmit := [], returning := s.drove.readmit } }
  else s

/-! ## Markers out (R228, R229, R26, R30) -/

/-- The marker of the bell just fired, as this device makes it. It names a stop at the two bells before the stop's own (R47). -/
def State.ownMarker (s : State) (hops : Nat) (delay : Nat) : Marker :=
  let n := s.bell.count.toNat
  let stop := s.plan.stopAt.filter (fun b => decide (b ≤ n + 2))
  let toGo := match s.plan.pending, stop, s.bell.restart with
    | some w, _, _ => w.bell - n
    | none, some b, _ => b - n
    | none, none, some (_, k) => k
    | none, none, none => 0
  { hops := BitVec.ofNat 4 hops, tier := BitVec.ofNat 4 s.plan.domainTier, switch := s.plan.pending.isSome,
    stop := stop.isSome, restart := s.bell.restart.isSome,
    target := BitVec.ofNat 4 (s.plan.pending.elim 0 PendingSwitch.tier), bellsToTarget := BitVec.ofNat 8 toGo,
    count := BitVec.ofNat 32 n, pathDelayNs := BitVec.ofNat 16 delay }

/-- A marker on every eligible port but one. -/
def State.markersOn (s : State) (m : Marker) (except : Option PortNo) : State :=
  (List.finRange 8).foldl (fun (s : State) (p : PortNo) =>
    if (s.port p).mode = .eligible ∧ except ≠ some p then s.emitBlock (.marker p m) else s) s

/-- What the device sends at step 5: the bellwether its marker, while its reference is alive; a member in HOLDOVER one of its own making. -/
def State.sendMarkers (s : State) : State :=
  if s.role = .bellwether ∧ s.bell.refOk then s.markersOn (s.ownMarker 0 0) none
  else if s.bell.state = .holdover ∧ s.bell.hops < 8 then
    s.markersOn (s.ownMarker (s.bell.hops + 1) s.bell.pathDelayNs) s.bell.markerPort
  else s

/-! ## A tick begins (Table BELL-3) -/

/-- Class P partitions idle in odd ticks under the map tier of stage 3 or a poorer one (R376). -/
def State.halfRate (s : State) (p : Plan) : State :=
  let on := decide (s.obj 0x2404 3 ≤ s.plan.effective) && s.bell.count.toNat % 2 = 1
  (List.range 32).foldl (fun (s : State) (q : Nat) =>
    s.onPart q (fun x => { x with skipTick := on && (p.parts.getD q {}).present && (p.parts.getD q {}).cls = 2 })) s

/-- Memory-event tallies of the gleaner's findings (R195, Table PART-8). -/
def State.memoryTallies (s : State) : State :=
  let s' := s.mem.memEvents.foldl (fun (s : State) (q : Nat) =>
    if (s.partEntry q).memTally = 0xFFFF ∨ ¬ s.present q then s else s.incTally (s.partEntry q).memTally 1 (some 0)) s
  { s' with mem := { s'.mem with memEvents := [] } }

/-- What belonged to the tick that ended is gone; its sink data wait for the commits it carries (R22, R73, R225, R232). -/
def State.freshTick (s : State) (prevTier : Option Nat) : State :=
  { s with
    mesh := { s.mesh with transfers := [], replies := [], carried := s.mesh.emitted, emitted := [], carriedTier := prevTier },
    drove := { s.drove with
      cells := [], delivered := [], outgoing := [], lossLogged := [],
      ports := s.drove.ports.map (fun x => { x with sentCells := [], requests := [], asking := [], relays := [] }) },
    mem := { s.mem with poisonLogged := [] } }

/-- Bells that ports count: probation, and the wait after failed training (R248, R249). -/
def State.portBells (s : State) : State :=
  let count (x : Port) : Port := { x with
    probation := if x.mode = .probation then x.probation - 1 else x.probation, retryIn := x.retryIn.map (· + 1) }
  { s with drove := { s.drove with ports := s.drove.ports.map count },
           power := { s.power with pollBells := s.power.pollBells + 1 } }

/-- TIME at step 5 (R293). -/
def State.timeAt (s : State) : State :=
  let cob := s.obj 0x1012 0
  if bitOf cob 30 ∧ s.obj 0x2300 0x2B ≤ s.bell.timeSeconds ∧ s.awake ∧ s.emcyAllowed then
    ({ s with bell := { s.bell with timeSeconds := 0 } }).queueService 2
      { frame := classicFrame (cob % 2048) s.calendarNow.timeOfDay, kind := .time }
  else s

/-- Steps 2 (tiles, partitions), 3, 4 and 5 of Table BELL-3. `before` is the tier before this bell, none at bell 0; `prevTier` the tier
whose commits this tick still carries. -/
def State.startTick (s : State) (p : Plan) (stuck : List TileNo) (before prevTier : Option Nat) : State :=
  let b := s.bell.count.toNat
  let s := ((s.tileStates stuck).gateTiles before).partitionResets.selfRefresh
  let s := s.halfRate p
  let s : State := { s with mesh := { s.mesh with inputRecord := s.inputRecord b } }.latchRpdos b
  let s := s.autoReset.memoryTallies
  let s := s.startSequencers.freshTick prevTier
  let s : State := { s with bell := { s.bell with out := bitOf (s.obj 0x2100 8) 0 } }
  let s := (s.announceRestart.arbitrate p).sendMarkers
  ((s.syncAt b).eventTpdos.timeAt.sendDemand.thermalBell).portBells

/-! ## Bell 0 and restarts (R36, R52, R250) -/

/-- Stale marks and overrun counts are cleared, and ticks count from 0 (R36). -/
def State.clearMarks (s : State) : State :=
  let s : State := (List.range 8).foldl (fun (s : State) (c : Nat) => s.onCh c (fun x => { x with stale := false })) s
  { s with
    parts := s.parts.map (fun (x : PartState) => { x with overruns := 0, completed := 0 }),
    host := { s.host with
      mailboxes := s.host.mailboxes.map (fun x => { x with stale := false }),
      cameras := s.host.cameras.map (fun x => { x with stale := false }) } }

/-- The lines that a frame of tick `old` has stored move to the slot of tick 0 (R268; DESIGN CHOICE, log 183). -/
def State.moveFrame (s : State) (c old : Nat) : State :=
  let n := (s.camTick c old).lines * s.camLineB c
  if n = 0 ∨ old % 4 = 0 then s
  else s.onMemory 0x100 (fun m => copyInto m (s.camSlot c old + 64) m (s.camSlot c 0 + 64) n)

/-- Frames assigned to the tick of the old count belong to tick 0 (R269). -/
def State.rebaseCameras (s : State) (old : Nat) : State :=
  let s := (List.range 4).foldl (fun s c => s.moveFrame c old) s
  { s with host := { s.host with cameras := s.host.cameras.map (fun (x : Camera) => { x with
      ticks := (x.ticks.filter (fun e => e.1 = old)).map (fun e => (0, e.2)),
      receiving := if x.receiving = some old then some 0 else none }) } }

/-- The bells of the last rate-limited entries move with the count (R172, R265). -/
def State.rebaseLogs (s : State) (k : Int) : State :=
  { s with
    mem := { s.mem with corrected := s.mem.corrected.map (fun e => (e.1, e.2.1, e.2.2.map (· - k))) },
    host := { s.host with mailboxes := s.host.mailboxes.map (fun x => { x with lastLog := x.lastLog.map (· - k) }) } }

/-- The bell count restarts at 0; bells that the device keeps move with it (R36, R250). -/
def State.restartCount (s : State) (cause old : Nat) : State :=
  let k : Int := old
  let s : State := { s with
    bell := { s.bell with count := 0, restart := none, syncCounter := 0 },
    plan := { s.plan with
      tierSince := s.plan.tierSince - k, lastSwitch := s.plan.lastSwitch - k, belowSince := s.plan.belowSince.map (· - k),
      stopAt := s.plan.stopAt.map (· - old) },
    tiles := s.tiles.map (fun x => { x with ueBells := x.ueBells.map (· - k), benched := x.benched.map (· - k) }) }
  ((s.clearMarks.rebaseLogs k).rebaseCameras old).raise 0x1004 0x1FF cause

/-- Rollback fuses at the first bell 0 after a boot (R436). -/
def State.blowFuses (s : State) : State :=
  if s.bell.bootBell0 then s
  else { s with
    bell := { s.bell with bootBell0 := true },
    board := { s.board with rollback :=
      if s.boot.deferRollback then s.board.rollback else max s.board.rollback (min 64 s.boot.security) } }

/-- Bell 0 of a load, a re-formation, or a readmission into a device that ran nothing: the tier is the arbitration's result at that
moment, over the demands of the whole domain posted by then, without announcement or dwell (R51, R52, R59); a member's is the one its
marker named. -/
def State.bellZero (s : State) (p : Plan) (cause : Nat) (told : Option Nat) : State :=
  let s : State := s.latchObjects.countDemands
  let k := match told with
    | some e => e
    | none => p.resolve (s.rawTarget p).1
  let old := s.bell.count.toNat + 1
  let s : State := { s.rebaseLogs old with tiles := s.tiles.map (fun x => { x with ueBells := x.ueBells.map (· - (old : Int)) }) }
  let s : State := { s with
    bell := { s.bell with
      state := if s.role = .member then .locked else .source, count := 0, at_ := s.now, restart := none, announced := none,
      markerSeen := false, missed := 0, errors := [], inSeen := false, inMissed := 0, inMoved := 0, heldMarkers := [],
      syncCounter := 0 },
    plan := { s.plan with
      status := 3, running := true, awaitBell0 := false, restartCause := 1, effective := k, domainTier := k, pending := none,
      tierSince := 0, lastSwitch := 0, belowSince := none, stopAt := none, fastPath := false, raiseFailed := none,
      overrunDemand := 0, cleanTicks := 0, sentWord := 0 },
    angle := { s.angle with haltForced := false },
    parts := s.parts.map (fun x => { x with overrun := false, failed := false, prevBad := false, prevSkip := false }) }
  let s := ((s.clearMarks.rebaseCameras 1).raise 0x1004 0x1FF cause).blowFuses
  let s := s.safeLeave.mandiblesFresh.disarmUnbound true
  let s : State := if s.idleUnder p k ∨ 5 ≤ s.power.stage then s.safeEntry else s
  let s := s.stepVdd none
  ({ s with power := { s.power with raise := none } }).startTick p [] none none

/-! ## Holdover and orphaning (R26 to R29) -/

/-- Number of the primary port, for event sources. -/
def State.primaryPort (s : State) : Nat := s.bell.primary.elim 0 (fun p => p.val)

/-- The member becomes ORPHANED (R28). The tier changes at its bell. -/
def State.orphan (s : State) : State :=
  let s : State := { s with bell := { s.bell with state := .orphaned, restart := none, markerSeen := false },
                            plan := { s.plan with pending := none } }
  (s.raise 0x1003 (0x100 + s.primaryPort) 0).safeEntry

/-- A member at a bell: its marker has come, or it runs on its own timer; after eight bells without one it is orphaned (R26, R28). A bell
without a marker measures no error (R13). -/
def State.memberBell (s : State) : State :=
  match s.bell.state with
  | .locked | .holdover =>
    if 8 ≤ s.bell.missed then s.orphan
    else if s.bell.markerSeen then { s with bell := { s.bell with markerSeen := false } }
    else
      let s : State := if s.bell.state = .locked then s.raise 0x1002 (0x100 + s.primaryPort) 0 else s
      { s with bell := { s.bell with state := .holdover, missed := s.bell.missed + 1, errors := (0 :: s.bell.errors).take 1000 } }
  | .orphaned => { s with bell := { s.bell with errors := (0 :: s.bell.errors).take 1000 } }
  | .stopped | .source => s

/-- Received demand words age by a bell and are dropped when not refreshed for two (R241). -/
def State.ageDemands (s : State) : State :=
  { s with plan := { s.plan with received :=
      (s.plan.received.map (fun r => (r.1, r.2.1, r.2.2.1, r.2.2.2 + 1))).filter (fun r => decide (r.2.2.2 ≤ 2)) } }

/-- BELL_IN at a bell: one more bell without an accepted edge, unless one came (R34). -/
def State.bellInCount (s : State) : State :=
  { s with bell := { s.bell with inSeen := false, inMoved := 0,
                                 inMissed := if s.bell.inSeen then 0 else if s.bell.inMissed < 8 then s.bell.inMissed + 1 else s.bell.inMissed } }

/-! ## The bell -/

/-- An upset of a memory word: a flipped bit in a poison word, or a second one in another word, makes it uncorrectable (R170; two flips in
a poison word are DEDUCED, log 166). -/
def State.upset (s : State) (u : Upset) : State :=
  s.onMemory u.memory (fun m => match m.mark u.word with
    | some _ => m.setMark u.word (some .uncorrectable)
    | none => m.setMark u.word (some (if u.double then .uncorrectable else .correctable)))

/-- A stop takes effect: sinks safe, everything stopped, and formation where a re-formation asked for it (R47, R240). -/
def State.stopNow (s : State) : State :=
  let s := s.safeEntry.stopPlan
  if s.plan.reformAfterStop then s.startFormation else s

/-- The domain takes its readmitted members back (R250). -/
def State.readmitted3 (s : State) : State :=
  { s with drove := { s.drove with
    returning := [],
    lost := s.drove.returning.foldl (fun (l : BitVec 128) m => l &&& ~~~(BitVec.ofNat 128 (2 ^ m))) s.drove.lost } }

/-- Step 1 of Table BELL-3: the count, or the restart, which brings an orphaned member back on the domain's tier (R29, R250). -/
def State.countStep (s : State) (p : Plan) : State :=
  let old := s.bell.count.toNat + 1
  match s.restartDue with
  | some c =>
    let back := decide (s.bell.state = .orphaned)
    let e := s.toldTier
    let s := (s.restartCount c old).readmitted3
    let s : State := { s with bell := { s.bell with at_ := s.now, announced := none } }
    if back then
      let s : State := { s with bell := { s.bell with state := .locked, missed := 0, markerSeen := true },
                                plan := { s.plan with domainTier := e } }
      let s : State := if s.power.stage < 5 ∧ ¬ s.idleUnder p e then s.safeLeave else s
      s.changeTier p e
    else s
  | none =>
    { s with bell := { s.bell with count := s.bell.count + 1, at_ := s.now,
                                   restart := s.bell.restart.map (fun r => (r.1, r.2 - 1)) } }

/-- A member changes to the image that it verified while it was orphaned: its old run ends, and bell 0 of the new one falls (R29, R251;
log 156). -/
def State.changeImage (s : State) (i : Image × Bool) (cause told : Nat) : State :=
  (s.safeEntry.stopPlan.adoptImage i.1 i.2).bellZero (readPlan i.1) cause (some told)

/-- A bell of a device that runs a plan (R16, Table BELL-3). The demands posted before it count (R55). -/
def State.ringBell (s : State) (p : Plan) (stuck : List TileNo) : State :=
  let before := s.plan.effective
  let s : State := (((s.ageTallies s.tickCycles).endTick).latchObjects.ageDemands.countDemands.countStep p).bellInCount
  let s : State := if s.role = .member then s.memberBell else s
  if s.plan.stopAt.any (fun b => decide (b ≤ s.bell.count.toNat)) then s.stopNow
  else
    let s := s.tierStep p
    (s.startTick p stuck (some before) (some before)).judgeStage

/-! ## Markers taken (R12, R27, R228, R229, R242) -/

/-- Low 32 bits of the bell count that a member expects next. -/
def State.expectedCount (s : State) : Nat :=
  if s.restartDue.isSome then 0 else (s.bell.count.toNat + 1) % 2 ^ 32

/-- The tier that the domain runs from the next bell on, as this device knows it (R27, R53). -/
def State.domainNext (s : State) : Nat :=
  match s.plan.pending with
  | some w => if w.bell ≤ s.bell.count.toNat + 1 then w.tier else s.plan.domainTier
  | none => s.plan.domainTier

/-- The marker goes on, once per bell: a hop more, and the delay of the receiving port and of the wait added (R228; the wait is open,
at most what R224 leaves, log 84). -/
def State.forwardMarker (s : State) (port : PortNo) (m : Marker) : State :=
  if 8 ≤ m.hops.toNat then s
  else
    let (w, s) := s.takeFree
    let d := m.pathDelayNs.toNat + (s.port port).hopPs / 1000 + w.toNat % 141
    s.markersOn { m with hops := m.hops + 1, pathDelayNs := BitVec.ofNat 16 d } (some port)

/-- A switch named by a marker for bell `b` becomes pending. Its cause is not in the marker (R54; log 52). -/
def State.learnSwitch (s : State) (tier b : Nat) : State :=
  if s.plan.pending.any (fun w => w.tier = tier && w.bell = b) then s
  else
    let (v, s) := s.takeFree
    { s with plan := { s.plan with pending := some { tier := tier, bell := b, cause := v.toNat % 8 } } }

/-- A restart named by a marker: it falls so many bells after the marker's own. -/
def State.learnRestart (s : State) (m : Marker) : State :=
  { s with bell := { s.bell with restart := some (3, m.bellsToTarget.toNat + 1),
                                 announced := some (m.tier.toNat, m.bellsToTarget.toNat) } }

/-- What the marker announces for the bells to come (R242). -/
def State.learn (s : State) (m : Marker) : State :=
  let b := (if s.restartDue.isSome then 0 else s.bell.count.toNat + 1) + m.bellsToTarget.toNat
  let s : State := if m.switch then s.learnSwitch m.target.toNat b else s
  let s : State := if m.stop then { s with plan := { s.plan with stopAt := some b, status := 5 } } else s
  if m.restart then s.learnRestart m else s

/-- A valid marker steers the bell timer (R12, R13, R229). -/
def State.steer (s : State) (port : PortNo) (m : Marker) (errNs : Int) : State :=
  { s with bell := { s.bell with
      markerSeen := true, markerPort := some port, hops := m.hops.toNat, pathDelayNs := m.pathDelayNs.toNat, heldMarkers := [],
      phaseNs := s.bell.phaseNs + errNs, rate := Config.rateUpdate s.bell.rate errNs,
      errors := (errNs.natAbs :: s.bell.errors).take 1000 } }

/-- A valid marker is taken: LOCKED again when its tier is the member's own, ORPHANED when it is another (R27). -/
def State.takeMarker (s : State) (port : PortNo) (m : Marker) (errNs : Int) : State :=
  let moved := s.bell.markerPort ≠ some port
  let own := s.domainNext
  let s := s.steer port m errNs
  if s.bell.state = .holdover ∧ m.tier.toNat ≠ own then s.orphan
  else
    let s : State := { s with bell := { s.bell with state := .locked, missed := 0 } }
    let s := (s.learn m).forwardMarker port m
    if moved then s.sendDemand else s

/-- A valid marker of another port than the primary waits for the predicted instant (R229). -/
def State.holdMarker (s : State) (port : PortNo) (m : Marker) (errNs : Int) : State :=
  { s with bell := { s.bell with
      heldMarkers := s.bell.heldMarkers.filter (fun h => h.1 ≠ port) ++ [(port, m, errNs)] } }

/-- The held marker of the lowest port. -/
def State.heldMarker (s : State) : Option (PortNo × Marker × Int) :=
  (List.finRange 8).findSome? (fun p => s.bell.heldMarkers.find? (fun h => h.1 = p))

/-- At the predicted instant a member that has no marker from its primary port takes the held one of the lowest port (R229). -/
def State.takeHeld (s : State) : State :=
  match s.heldMarker with
  | some (p, m, e) => if s.role ≠ .member ∨ s.bell.markerSeen ∨ 8 ≤ s.bell.missed then s else s.takeMarker p m e
  | none => s

/-- A device that runs nothing, or is orphaned, waits for the restart of a readmission (R29, R250). -/
def State.awaitRestart (s : State) (port : PortNo) (m : Marker) : State :=
  if m.restart then s.learnRestart m
  else if s.restartDue.isSome ∧ m.count = 0 then s.steer port m 0
  else s

/-- A marker of the bell 0 of a load or a re-formation. -/
def State.startsRun (s : State) (m : Marker) : Bool := m.count = 0 && !m.restart && s.bell.restart.isNone

/-- A member's bell 0, at its marker (R52; log 64). -/
def State.memberStart (s : State) (p : Plan) (port : PortNo) (m : Marker) : State :=
  ((s.steer port m 0).forwardMarker port m).bellZero p s.plan.restartCause (some m.tier.toNat)

/-! ## The bell -/

/-- A bell of a device that runs a plan: a member takes the marker of this bell that it holds; an orphaned one may change its image. -/
def State.bellFires (s : State) (p : Plan) (stuck : List TileNo) : State :=
  let s := s.takeHeld
  match s.restartDue, s.plan.incoming with
  | some c, some i => if s.bell.state = .orphaned then s.changeImage i c s.toldTier else s.ringBell p stuck
  | _, _ => s.ringBell p stuck

/-- The bell of a device that runs nothing: a member that waits for readmission counts its domain's, and takes the bell 0 that another
port than its primary brought (R52, R229, R250). -/
def State.idleBell (s : State) (p : Plan) : State :=
  match s.bell.restart, s.heldMarker with
  | some (c, k), _ =>
    if k ≤ 1 then s.bellZero p c (s.bell.announced.map (fun a => a.1))
    else { s with bell := { s.bell with restart := some (c, k - 1) } }
  | none, some (q, m, _) => if s.plan.status = 1 then s.memberStart p q m else s
  | none, none => s

/-- BELL (R2, R16, R26, R36, R53). -/
def execBell (t : Nat) (stuck : List TileNo) (upsets : List Upset) (s : State) : Result :=
  runLive (fun s =>
    let s := upsets.foldl State.upset (s.clock t)
    match s.plan.plan with
    | none => s
    | some p => if s.running then s.bellFires p stuck else s.idleBell p) s

/-- BELL_ORPHANED (R28): bell h+8, after eight bells without a valid marker. -/
def execBellOrphaned (t : Nat) (s : State) : Result :=
  runLive (fun s =>
    match s.plan.plan with
    | some p =>
      if s.role = .member ∧ s.bell.state = .holdover ∧ 8 ≤ s.bell.missed ∧ s.restartDue.isNone then (s.clock t).bellFires p []
      else s
    | none => s) s

/-! ## Markers in (R12, R29, R229) -/

/-- A valid marker of a running member: the primary port's is taken at once, another port's is held (R229). -/
def State.markerIn (s : State) (port : PortNo) (m : Marker) (errNs : Int) : State :=
  if m.count.toNat ≠ s.expectedCount ∨ 40 < errNs.natAbs ∨ 8 ≤ s.bell.missed ∨ s.bell.markerSeen then s
  else if s.bell.primary = some port ∨ s.bell.primary.isNone then s.takeMarker port m errNs
  else s.holdMarker port m errNs

/-- A marker reaches an orphaned member: a bell restart takes it back, announced by a readmission, or the bell 0 of a re-formed domain for
which it holds a new image (R29). -/
def State.orphanMarker (s : State) (port : PortNo) (m : Marker) : State :=
  match s.plan.incoming with
  | some i => if s.startsRun m then
      let s := ((s.steer port m 0).forwardMarker port m)
      s.changeImage i (if i.2 then 2 else 1) m.tier.toNat
    else s.awaitRestart port m
  | none => s.awaitRestart port m

/-- BELL_MARKER_RECEIVED (R12, R27, R228, R229, R242). The first marker of a domain's bell 0 starts a member whose plan is verified (R52;
log 64). -/
def execBellMarkerReceived (port : PortNo) (m : Marker) (crcOk : Bool) (errNs : Int) (s : State) : Result :=
  runLive (fun s =>
    if s.role ≠ .member ∨ !crcOk ∨ (s.port port).mode ≠ .eligible then s
    else match s.bell.state, s.plan.plan with
      | .stopped, some p =>
        if s.plan.status ≠ 1 then s
        else if !s.startsRun m then s.awaitRestart port m
        else if s.bell.primary = some port ∨ s.bell.primary.isNone then s.memberStart p port m
        else s.holdMarker port m errNs
      | .orphaned, some _ => s.orphanMarker port m
      | .locked, some _ | .holdover, some _ => s.markerIn port m errNs
      | _, _ => s) s

/-! ## BELL_IN and BELL_OUT (R31 to R34) -/

/-- BELL_IN disciplines the bell timer (R32). -/
def State.disciplined (s : State) : Bool := s.role ≠ .member && bitsOf (s.obj 0x2100 8) 2 2 = 1

/-- The plan is verified everywhere and bell 0 falls now, on a bellwether or standalone device (R33, R52). -/
def State.startPlan (s : State) : State :=
  match s.plan.plan with
  | some p => s.bellZero p s.plan.restartCause none
  | none => s

/-- BELL_IN_EDGE (R32, R33): the edges of one bell move the grid by at most 10 ns. -/
def execBellInEdge (widthNs : Nat) (errNs : Int) (t : Nat) (s : State) : Result :=
  runLive (fun s =>
    let s := s.clock t
    if !s.disciplined ∨ widthNs < 100 then s
    else if s.plan.awaitBell0 then s.startPlan
    else if s.running ∧ errNs.natAbs ≤ 1000 then
      let step := max (-10 - s.bell.inMoved) (min (10 - s.bell.inMoved) errNs)
      { s with bell := { s.bell with inSeen := true, inMissed := 0, inMoved := s.bell.inMoved + step,
                                     phaseNs := s.bell.phaseNs + step } }
    else s) s

/-- BELL_IN_LOSS (R34): logged once for each loss. -/
def execBellInLoss (s : State) : Result :=
  runLive (fun s =>
    if s.disciplined ∧ s.running ∧ s.bell.inMissed = 8 then
      ({ s with bell := { s.bell with inMissed := 9 } }).raise 0x1002 0x1F0 0
    else s) s

/-- BELL_IN_START_TIMEOUT (R33). -/
def execBellInStartTimeout (t : Nat) (s : State) : Result :=
  runLive (fun s => if s.plan.awaitBell0 then (s.clock t).startPlan.raise 0x1002 0x1F0 0 else s) s

/-- BELL_OUT_PULSE_END (R31). -/
def execBellOutPulseEnd (s : State) : Result := runLive (fun s => { s with bell := { s.bell with out := false } }) s

/-- REFERENCE_CLOCK_FAILURE (R30): a bellwether stops emitting markers. -/
def execReferenceClockFailure (s : State) : Result := runLive (fun s => { s with bell := { s.bell with refOk := false } }) s

/-! ## Verification ends (R50 to R52, R251) -/

/-- A member discards its image (R50). -/
def State.discard (s : State) : State :=
  { s with plan := { s.plan with status := 4, plan := none }, tiles := s.tiles.map TileState.stop }

/-- A readmitted member's image was verified, or rejected, while the plan runs (R251). -/
def State.resendDone (s : State) (m : Nat) (rejected : Option (Fin 128 × U16 × Byte)) : State :=
  let s : State := { s with drove := { s.drove with resend := s.drove.resend.filter (fun r => r.1 ≠ m) } }
  match rejected with
  | some (_, ev, det) => s.raise ev.toNat m det.toNat
  | none => { s with drove := { s.drove with readmit := s.drove.readmit ++ [m] } }

/-- Every device has answered: bell 0, at once or at the first BELL_IN edge; or the set is rejected (R33, R50, R52). -/
def State.verified (s : State) (rejected : Option (Fin 128 × U16 × Byte)) : State :=
  match s.plan.plan, rejected with
  | some p, none =>
    let s := s.commitLoad p
    if s.disciplined then { s with plan := { s.plan with awaitBell0 := true } } else s.startPlan
  | some _, some (m, ev, det) => s.rejectSet m.val ev.toNat det.toNat
  | none, _ => s

/-- PLAN_VERIFICATION_DONE (R50, R52, R251). -/
def execPlanVerificationDone (rejected : Option (Fin 128 × U16 × Byte)) (t : Nat) (s : State) : Result :=
  runLive (fun s =>
    let s := s.clock t
    if s.running then
      (match s.drove.resend with
        | m :: _ => s.resendDone m.1 rejected
        | [] => s)
    else if s.plan.status ≠ 1 ∧ s.plan.status ≠ 2 ∨ s.plan.awaitBell0 then s
    else if s.role = .member then (if rejected.isSome then s.discard else s)
    else s.verified rejected) s

end Sys2Proof.Machine
end

