-- ==== Sys2Proof/Machine/Radio.lean ====
section
/-!
DEFINITION. The Cicada radio (19): slots and channels, the check of a received frame, messages, beacons and acknowledgements,
dwell and duty. Transmissions and windows are timed on the model's clock, slots on the calendar.
-/
namespace Sys2Proof.Machine

def State.onRadio (s : State) (f : Radio → Radio) : State := { s with radio := f s.radio }

/-- R418, by the values in force since the last slot boundary (R424). -/
def Radio.running (r : Radio) : Bool :=
  (r.region = 1 || r.region = 2) && r.key.isSome && decide (r.panId ≠ 0xFFFF) && decide (r.address ≠ 0xFFFF)
  && decide (r.address ≠ 0xFFFE)

/-- The slot channel (Table RADIO-1). -/
def slotChannel (region pan k : Nat) : Nat := if region = 1 then (17 * k + pan) % 129 else (k + pan) % 3

/-- Milliseconds of the calendar since 2000-01-01 (R419). -/
def State.calendarMs (s : State) : Nat :=
  s.calendarNow.totalSeconds * 1000 + s.calendarNow.sub * 1000 / 32768

/-- A slot boundary: the written values take effect (R424), and the slot that begins, or the one in which a reception that
crossed its start ends, names its channel (R419). -/
def State.takeSlot (s : State) : State :=
  s.onRadio (fun r =>
    let interval := s.obj 0x2C00 5
    let region := s.obj 0x2C00 1
    let pan := s.obj 0x2C00 2
    let k := (if r.crossed then s.calendarMs / interval else cdiv s.calendarMs interval)
    { r with region := region, panId := pan, address := s.obj 0x2C00 3, interval := interval,
             slot := k, channel := slotChannel region pan k, crossed := false })

/-! ## Dwell and duty (R430, R431) -/

/-- Milliseconds of a transmission (its end, its length) that lie after instant `a`. -/
def overlapMs (a stop ms : Nat) : Nat := min ms (stop - a)

/-- Milliseconds counted on one channel key in the 20 s up to `t`. -/
def Radio.channelMs (r : Radio) (key t : Nat) : Nat :=
  (r.record.map (fun (e : Nat × Nat × Nat) => if e.2.1 = key then overlapMs (t - 20000) e.1 e.2.2 else 0)).sum

/-- Milliseconds counted over the sub-band of region E in the hour up to `t`, which slides in steps of 1 s (log 91). -/
def Radio.bandMs (r : Radio) (t : Nat) : Nat :=
  (r.record.map (fun (e : Nat × Nat × Nat) =>
    if e.2.1 / 256 = 2 then overlapMs ((t - 3600000) / 1000 * 1000) e.1 e.2.2 else 0)).sum

/-- 0x2C10:01 (R430). -/
def State.busiest (s : State) : Nat :=
  (s.radio.record.map (fun (e : Nat × Nat × Nat) => s.radio.channelMs e.2.1 (s.now / 1000000))).foldl max 0

/-- Milliseconds of the sub-band in the last hour; 0x2C10:02 shows them in ‰. -/
def State.dutyMs (s : State) : Nat := s.radio.bandMs (s.now / 1000000)

/-- A transmission of `ms` that starts at `t` on `channel` stays within the limits of its region (R430). -/
def Radio.mayTransmit (r : Radio) (channel ms t : Nat) : Bool :=
  if r.region = 1 then decide (r.channelMs (256 + channel) (t + ms) + ms ≤ 400)
  else decide (r.bandMs (t + ms) + ms ≤ 36000)

/-- A transmission refused: counted, shown, and logged at most once a second (R431). -/
def State.refuseTransmit (s : State) (type channel ms : Nat) : State :=
  let s := s.onRadio (fun r => { r with refusals := satAdd 32 r.refusals 1, refused := true })
  let due := match s.radio.refusedLog with
    | none => true
    | some l => decide (l + 1000000000 ≤ s.now)
  if due && s.live then
    (s.onRadio (fun r => { r with refusedLog := some s.now })).raise 0xB001 0x1E0
      (type * 2 ^ 24 + channel * 2 ^ 16 + ms)
  else s

/-- A transmission is counted (R430); what no window reaches any more is forgotten. -/
def State.countTransmit (s : State) (channel ms : Nat) : State :=
  let t := s.now / 1000000
  s.onRadio (fun r => { r with
    record := (t + ms, r.region * 256 + channel, ms) :: r.record.filter (fun e => decide (t < e.1 + 3602000)) })

/-- A transmission is made or refused (R431). -/
def State.transmit (s : State) (type channel ms : Nat) (send : State → State) : State :=
  if s.radio.mayTransmit channel ms (s.now / 1000000) then (send s).countTransmit channel ms
  else s.refuseTransmit type channel ms

/-! ## Beacons (R421, R422, R428) -/

/-- Payload of a status beacon (Table RADIO-3). -/
def State.statusPayload (s : State) (rssi : Byte) : List Byte :=
  4 :: toLE 8 s.calendarNow.pack ++ toLE 4 s.chrysalisStatus ++ toLE 2 s.island.storeMv ++ [rssi]

/-- Payload of a fault beacon: the wake record, the calendar, the status (Table RADIO-3). -/
def State.faultPayload (s : State) : List Byte :=
  5 :: toLE 8 (octets (s.obj 0x2B20 0) 0x28 8) ++ toLE 8 s.calendarNow.pack ++ toLE 4 s.chrysalisStatus

/-- Header of a beacon (R421): frame control with security, version 0b01 and an extended source address; a sequence number that
the manual leaves open; PAN ID and address; the security header of level 6; superframe 0x00FF, GTS 0, pending address 0. -/
def State.beaconHeader (s : State) (sequence : Nat) : List Byte :=
  toLE 2 0xD008 ++ toLE 1 sequence ++ toLE 2 s.radio.panId ++ toLE 8 (0x4A4B2560 * 2 ^ 32 + s.board.serial.toNat)
  ++ 6 :: toLE 4 s.radio.counter.toNat ++ toLE 2 0x00FF ++ [0, 0]

/-- A secured frame goes out: the payload is protected and the counter rises (R422). -/
def State.sendSecured (s : State) (type channel : Nat) (payload : List Byte) : State :=
  let s' := s.takeFree.2
  (s'.emit (.radioBeacon channel type (Config.aesCcm (s.radio.key.getD 0) s.radio.counter
      (s.beaconHeader s.takeFree.1.toNat) payload))).onRadio (fun r => { r with counter := r.counter + 1 })

/-- The radio sends a beacon on the slot's channel, unless the frame counter is spent (R422) or a limit refuses it (R431). A
status beacon lasts 9 ms, a fault beacon 10 ms (R420, R430). -/
def State.sendBeacon (s : State) (type : Nat) (rssi : Byte) : State :=
  if !s.radio.running || s.radio.counter = 0xFFFFFFFF then s
  else s.transmit type s.radio.channel (if type = 4 then 9 else 10)
    (fun s => s.sendSecured type s.radio.channel (if type = 4 then s.statusPayload rssi else s.faultPayload))

/-- A beacon is due: it waits while a reception lasts (R428). -/
def State.beaconNow (s : State) (type : Nat) (rssi : Byte) : State :=
  if s.radio.rx then s.onRadio (fun r => { r with beaconWaits := r.beaconWaits ++ [(type, rssi)] })
  else s.sendBeacon type rssi

/-- The beacons that a slot start sends (R428). -/
def State.slotBeacons (s : State) : State :=
  let s := if s.radio.chrysalisBeacon then
      (s.onRadio (fun r => { r with chrysalisBeacon := false })).beaconNow 4 0x80
    else s
  if s.radio.faultBeacon && s.island.state = .wakeFailed && s.obj 0x2C00 7 = 1 then
    (s.onRadio (fun r => { r with faultBeacon := false })).beaconNow 5 0x80
  else s

/-- SNIFF_SLOT (R419, R424): the radio listens for 1.2 ms on the slot's channel; activity holds it in receive. -/
def execSniffSlot (activity : Bool) (t : Nat) (s : State) : Result :=
  runIsland (fun s => let s := s.clock t
    if s.radio.rx then (s.onRadio (fun r => { r with crossed := true })).slotBeacons
    else
      let s := s.takeSlot
      if s.radio.running then
        ((s.emit (.radioListen s.radio.channel)).onRadio (fun r => { r with rx := activity })).slotBeacons
      else s) s

/-- RADIO_RX_IDLE_TIMEOUT (R424): the reception ends; a slot boundary that fell in it takes effect, and what waited is sent. -/
def execRadioRxIdleTimeout (t : Nat) (s : State) : Result :=
  runIsland (fun s => let s := s.clock t
    if s.radio.rx then
      let s := s.onRadio (fun r => { r with rx := false })
      let s := if s.radio.crossed then s.takeSlot else s
      s.radio.beaconWaits.foldl (fun (s : State) w => s.sendBeacon w.1 w.2) (s.onRadio (fun r => { r with beaconWaits := [] }))
    else s) s

/-! ## Messages (R423, R427, Table RADIO-4) -/

/-- RADIO_WAKE_RECEIVED, which only a running DMF logs. -/
def State.logRequest (s : State) (source : U64) (rssi : Byte) (type : Nat) : State :=
  s.raise 0xB002 0x1E0 (source.toNat % 65536 * 65536 + rssi.toNat * 256 + type)

/-- An accepted wake request: wake source 2 (R416, R427). -/
def State.wakeRequest (s : State) (source : U64) (rssi : Byte) : State :=
  let s := s.logRequest source rssi 1
  if s.wakeEnabled 1 then s.wakeFire 1 2 else s

/-- An accepted advisory halt: a status bit, and nothing else. -/
def State.haltRequest (s : State) (source : U64) (rssi : Byte) : State :=
  (s.logRequest source rssi 2).onRadio (fun r => { r with halt := true })

/-- An accepted locate: a status beacon is due (R428). -/
def State.locate (s : State) (source : U64) (rssi : Byte) : State :=
  (s.logRequest source rssi 3).onRadio (fun r => { r with beaconDue := r.beaconDue ++ [rssi] })

/-- A unicast frame that asked for it is acknowledged on the channel of the frame (R426). -/
def State.ackLater (s : State) (asked : Bool) : State :=
  if asked then s.onRadio (fun r => { r with ackDue := some r.channel }) else s

/-- Payload length of a message type (Table RADIO-3). -/
def messageLength (type : Nat) : Option Nat :=
  if type = 1 ∨ type = 3 then some 5 else if type = 2 then some 6 else none

/-- Counter of the last frame accepted from a source. -/
def replayOf (source : U64) (table : List (U64 × U32)) : Option U32 := (table.find? (fun e => e.1 = source)).map Prod.snd

/-- An accepted frame enters the replay table: most recent first, eight entries (R423). -/
def replayPut (source : U64) (counter : U32) (table : List (U64 × U32)) : List (U64 × U32) :=
  ((source, counter) :: table.filter (fun e => decide (e.1 ≠ source))).take 8

/-- The frame's destination is this device: its own address, or the broadcast address for a halt without AR (Table RADIO-2). -/
def Radio.destined (r : Radio) (f : RadioFrame) : Bool :=
  decide (f.panId.toNat = r.panId) &&
  (decide (f.dest.toNat = r.address) || (decide (f.dest = 0xFFFF) && decide (f.payload.head? = some 2) && !f.ackReq))

/-- The payload's timestamp is within 60 s of the calendar. -/
def State.stampOk (s : State) (f : RadioFrame) : Bool :=
  let ts := leNat ((f.payload.drop 1).take 4)
  let now := s.calendarNow.totalSeconds
  decide (5 ≤ f.payload.length) && decide (ts ≤ now + 60) && decide (now ≤ ts + 60)

/-- A frame passes every check of R423. -/
def State.acceptFrame (s : State) (f : RadioFrame) : Bool :=
  f.fcsOk && (f.isData && f.version1 && f.panCompressed) && s.radio.destined f && (decide (f.secLevel = 6) && decide (f.keyMode = 0))
  && (match replayOf f.source s.radio.replay with
      | none => true
      | some c => decide (c < f.counter))
  && f.micOk && s.stampOk f
  && decide (messageLength ((f.payload.head?.getD 0).toNat) = some f.payload.length)

/-- What an accepted frame does. -/
def State.frameActs (s : State) (f : RadioFrame) : State :=
  let s := s.onRadio (fun r => { r with replay := replayPut f.source f.counter r.replay })
  let s := s.ackLater (f.ackReq && decide (f.dest ≠ 0xFFFF))
  match (f.payload.head?.getD 0).toNat with
  | 1 => s.wakeRequest f.source f.rssi
  | 2 => s.haltRequest f.source f.rssi
  | _ => s.locate f.source f.rssi

/-- RADIO_FRAME_RECEIVED (R423): dropped silently at the first check that fails. -/
def execRadioFrameReceived (f : RadioFrame) (t : Nat) (s : State) : Result :=
  runIsland (fun s => let s := s.clock t
    if s.radio.rx && s.radio.running && s.acceptFrame f then s.frameActs f else s) s

/-- RADIO_WAKE_REQUEST (R427): one accepted request (log 90). -/
def execRadioWakeRequest (source : U64) (rssi : Byte) (t : Nat) (s : State) : Result :=
  runIsland (fun s => let s := s.clock t
    if s.radio.running then s.wakeRequest source rssi else s) s

/-- RADIO_HALT_REQUEST (R427). -/
def execRadioHaltRequest (source : U64) (rssi : Byte) (s : State) : Result :=
  runIsland (fun s => if s.radio.running then s.haltRequest source rssi else s) s

/-- RADIO_LOCATE (R428). -/
def execRadioLocate (source : U64) (rssi : Byte) (ackReq : Bool) (s : State) : Result :=
  runIsland (fun s => if s.radio.running then (s.ackLater ackReq).locate source rssi else s) s

/-- RADIO_ACK_SEND (R426): 5 octets, 2.08 ms, counted as 3 ms; refused it is lost (R431). -/
def execRadioAckSend (t : Nat) (s : State) : Result :=
  runIsland (fun s => let s := s.clock t
    match s.radio.ackDue with
    | none => s
    | some c => (s.onRadio (fun r => { r with ackDue := none })).transmit 0 c 3 (fun s => s.emit (.radioAck c))) s

/-- STATUS_BEACON_SEND (R428): the beacon of the oldest locate. -/
def execStatusBeaconSend (t : Nat) (s : State) : Result :=
  runIsland (fun s => let s := s.clock t
    match s.radio.beaconDue with
    | [] => s
    | rssi :: more => (s.onRadio (fun r => { r with beaconDue := more })).beaconNow 4 rssi) s

/-- FAULT_BEACON_TIMER (R428): every 600 s in WAKE_FAILED. -/
def execFaultBeaconTimer (t : Nat) (s : State) : Result :=
  runIsland (fun s => let s := s.clock t
    if s.island.state = .wakeFailed ∧ s.obj 0x2C00 7 = 1 then s.beaconNow 5 0x80 else s) s

/-- NETWORK_KEY_WRITE (R422, R423): the counter starts at 0 and the replay table is empty. -/
def execNetworkKeyWrite (p : Principal) (key : BitVec 128) (s : State) : Result :=
  runLive (State.ownWrite p 0x2C00 6 16 key.toNat (fun s =>
    .ok (s.onRadio (fun r => { r with key := some key, counter := 0, replay := [] })))) s

/-- The radio status word. -/
def State.radioStatus (s : State) : Nat :=
  (if s.radio.running then 1 else 0) + (if s.radio.halt then 4 else 0) + (if s.radio.refused then 8 else 0)
  + (if s.radio.counter = 0xFFFFFFFF then 16 else 0)

/-- RADIO_STATUS_READ (R427): the read clears [2]. -/
def execRadioStatusRead (p : Principal) (s : State) : Result :=
  runLive (fun s => s.answerRead p 0x2C00 8 State.radioStatus (fun s => s.onRadio (fun r => { r with halt := false }))) s

end Sys2Proof.Machine
end

