-- ==== Sys2Proof/Machine/Boot.lean ====
section
/-!
DEFINITION. Startup (20): the flash descriptor, the selection of a DMF image, recovery, the start of DMF with its deferred events,
and LP5X training.
-/
namespace Sys2Proof.Machine

def State.onBoot (s : State) (f : Boot → Boot) : State := { s with boot := f s.boot }

/-! ## Flash descriptor (R434) -/

/-- One bit of the CRC-32 of IEEE 802.3, in its reflected form (PRESUMED, log 92). -/
def crcBit (c : Nat) : Nat := if c % 2 = 1 then c / 2 ^^^ 0xEDB88320 else c / 2

/-- One byte. -/
def crcByte (c : Nat) (b : Byte) : Nat :=
  crcBit (crcBit (crcBit (crcBit (crcBit (crcBit (crcBit (crcBit (c ^^^ b.toNat))))))))

/-- CRC-32 with polynomial 0x04C1_1DB7 over bytes (log 92). -/
def crc32 (bs : List Byte) : Nat := bs.foldl crcByte 0xFFFFFFFF ^^^ 0xFFFFFFFF

/-- What Table BOOT-2 tells the boot ROM. -/
structure FlashDescriptor where
  preferB : Bool := false
  autoload : Bool := false
  deferRollback : Bool := false
  stagingOffset : Nat := 0
  planLength : Nat := 0
deriving DecidableEq, Repr

/-- A descriptor as its 256 bytes give it: with a wrong magic, version or CRC, image A and every flag clear (R434). -/
def readDescriptor (d : Image) : FlashDescriptor :=
  if u32 d 0 = 0x44464B4A ∧ u16 d 4 = 1 ∧ u32 d 0xFC = crc32 (d.take 0xFC) then
    { preferB := u8 d 6 = 1, autoload := bitOf (u8 d 7) 0, deferRollback := bitOf (u8 d 7) 1, stagingOffset := u32 d 8,
      planLength := u32 d 0xC }
  else {}

/-! ## Image selection (R435) -/

/-- Start of DMF image A or B (Table BOOT-3). -/
def imageBase (b : Bool) : Nat := if b then 0x1100000 else 0x100000

/-- Magic, version, lengths, part code and silicon revision of a header of 64 bytes, and of its signature block. -/
def headerOk (silicon : Nat) (h block : Image) : Bool :=
  u32 h 0 = 0x4D444B4A && u16 h 4 = 1 && u16 h 6 = 64 && u32 h 8 % 16 = 0 && decide (208 ≤ u32 h 8 ∧ u32 h 8 ≤ 2 ^ 24)
  && u32 h 0x14 = 0x2560 && decide (u16 h 0x18 ≤ silicon) && u32 block 0 = 0x31474953 && u32 block 8 = u32 h 8 - 144

/-- The firmware key slot that a signature block names, where it is programmed and not revoked. -/
def firmwareKey (keys : Vector KeySlot 4) (block : Image) : Option KeySlot :=
  if u8 block 4 < 4 then
    let k := vget keys (u8 block 4) {}
    if k.programmed && !k.revoked then some k else none
  else none

/-- What the verification of one image gives. -/
inductive Verdict where
  | rejected (detail : Nat)
  | refused (security : Nat)
  | accepted (version security : Nat)
deriving DecidableEq, Repr

/-- The verification of image A or B (R435). -/
def State.verifyImage (s : State) (b : Bool) : Verdict :=
  let base := imageBase b
  let h := s.flashRead base 64
  let block := s.flashRead (base + (u32 h 8 - 144)) 144
  if !headerOk s.board.silicon.toNat h block then .rejected 1
  else match firmwareKey s.board.fwKeys block with
    | none => .rejected 2
    | some k =>
      let key := (block.drop 0x10).take 64
      if Config.sha256 key ≠ k.digest then .rejected 3
      else if u8 block 5 ≠ 1 ∨ !Config.ecdsaP256 key (Config.sha256 (s.flashRead base (u32 h 8 - 144))) ((block.drop 0x50).take 64)
      then .rejected 4
      else if u32 h 0x10 < s.board.rollback then .refused (u32 h 0x10)
      else .accepted (u32 h 0xC) (u32 h 0x10)

/-- Source of an image's events. -/
def imageSource (b : Bool) : Nat := if b then 0x1F9 else 0x1F8

/-- An image's outcome is kept for the log (R443). -/
def State.keepOutcome (s : State) (code : Nat) (b : Bool) (detail : Nat) : State :=
  s.onBoot (fun x => { x with outcomes := x.outcomes ++ [(code, imageSource b, detail)] })

/-- DMF starts from an image. -/
def State.startImage (s : State) (b : Bool) (version security : Nat) : State :=
  s.onBoot (fun x => { x with phase := .starting, dmfVersion := BitVec.ofNat 32 version, security := security,
                              image := if b then 1 else 0 })

/-- Recovery (R437): FAULT_N is driven low. -/
def State.enterRecovery (s : State) : State :=
  (s.onBoot (fun x => { x with phase := .recovery, recStatus := 0, recOffset := 0, recData := 0 })).onIsland
    (fun i => { i with faultN := true })

/-- The images are tried in order; without one that is accepted the ROM enters recovery. -/
def State.tryImages (s : State) : List Bool → State
  | [] => s.enterRecovery
  | b :: more =>
    let s := s.askFlash (imageBase b)
    match s.verifyImage b with
    | .rejected d => State.tryImages (s.keepOutcome 0xC001 b d) more
    | .refused sec => State.tryImages (s.keepOutcome 0xC002 b (sec % 256 * 256 + s.board.rollback)) more
    | .accepted v sec => s.startImage b v sec

/-- Step 4 of Table BOOT-1: descriptor, then selection. -/
def State.selectImage (s : State) : State :=
  let d := readDescriptor (s.flashRead 0 256)
  let s := (s.askFlash 0).onBoot (fun x =>
    { x with autoload := d.autoload, deferRollback := d.deferRollback, stagingOffset := d.stagingOffset, planLength := d.planLength })
  s.tryImages [d.preferB, !d.preferB]

/-- A flash that stays silent for 10 ms: every image is rejected with detail 1 (Table BOOT-1). -/
def State.silentFlash (s : State) : State :=
  ((s.keepOutcome 0xC001 false 1).keepOutcome 0xC001 true 1).enterRecovery

/-- The port starts in single mode at 25 MHz; the flash is reset and its SFDP read, which allows a mode of 1, 2 or 4 data lines and a clock
of 25 to 100 MHz: the device's own, so left open (R273; log 185). -/
def State.openFlash (s : State) : State :=
  let s := (s.onBoot (fun x => { x with flashLines := 1, flashMhz := 25 }))
  let s := ((s.emit (.flash 0x66 0)).emit (.flash 0x99 0)).emit (.flash 0x5A 0)
  let (v, s) := s.takeFree
  s.onBoot (fun x => { x with flashLines := [1, 2, 4].getD (v.toNat % 3) 1, flashMhz := 25 + v.toNat / 4 % 76 })

/-- BOOT_ROM_START (R433, R435). -/
def execBootRomStart (flashSilent : Bool) (s : State) : Result :=
  run (fun s =>
    if s.boot.phase = .rom ∧ s.boot.released then (if flashSilent then s.silentFlash else s.openFlash.selectImage) else s) s

/-! ## Recovery (R437, Table BOOT-5) -/

/-- A recovery command runs in recovery only; it ends ready or refused. -/
def inRecovery (ok : State → Bool) (f : State → State) (s : State) : State :=
  if s.boot.phase = .recovery then
    (if ok s then (f s).onBoot (fun x => { x with recStatus := 0 }) else s.onBoot (fun x => { x with recStatus := 1 }))
  else s

/-- The flash offset of the window. -/
def State.recAt (s : State) : Nat := s.boot.recOffset.toNat

/-- The offset names a word of the flash device (log 93). -/
def State.recWord (s : State) : Bool := s.recAt % 4 = 0 && decide (s.recAt + 4 ≤ s.board.flashBytes)

/-- A flash byte is stored; erased bytes stand unlisted. -/
def setFlash (a : Nat) (b : Byte) (fl : List Host.Cell) : List Host.Cell :=
  if b = erasedByte then assocDel a fl else assocPut a b fl

def State.onFlash (s : State) (f : List Host.Cell → List Host.Cell) : State :=
  { s with board := { s.board with flash := f s.board.flash } }

/-- A flash command that changes the flash goes out between write enable and a read of the status (R273). -/
def State.changeFlash (s : State) (command : Nat) : State :=
  ((s.emit (.flash 0x06 0)).emit (.flash command s.recAt)).emit (.flash 0x05 0)

/-- Command 1: the 64 KiB erase. -/
def State.eraseBlock (s : State) : State :=
  (s.changeFlash 0xDC).onFlash (fun fl => fl.filter (fun c => decide (c.1 / 65536 ≠ s.recAt / 65536)))

/-- Command 2: programming clears bits (NOR flash, PRESUMED, log 93). -/
def State.programWord (s : State) : State :=
  (List.range 4).foldl (fun (s : State) k =>
    let a := s.recAt + k
    let old := (assocGet a s.board.flash).getD erasedByte
    s.onFlash (setFlash a (old &&& BitVec.ofNat 8 (octet s.boot.recData.toNat k)))) (s.changeFlash 0x12)

/-- Command 3. -/
def State.readFlashWord (s : State) : State :=
  let v := leNat (s.flashRead s.recAt 4)
  (s.askFlash s.recAt).onBoot (fun x => { x with recData := BitVec.ofNat 32 v })

/-- Key slot k: 0 to 3 firmware, 4 to 7 plan. -/
def State.keySlot (s : State) (k : Nat) : KeySlot := if k < 4 then vget s.board.fwKeys k {} else vget s.board.planKeys (k - 4) {}

def State.onKeySlot (s : State) (k : Nat) (f : KeySlot → KeySlot) : State :=
  if k < 4 then { s with board := { s.board with fwKeys := vmod s.board.fwKeys k f } }
  else { s with board := { s.board with planKeys := vmod s.board.planKeys (k - 4) f } }

/-- Command 4: the digest is the 32 bytes at flash offset 0x000F_F000. -/
def State.programKey (s : State) : State :=
  let d := beNat (s.flashRead 0xFF000 32)
  (s.askFlash 0xFF000).onKeySlot (s.recAt % 8) (fun k => { k with programmed := true, digest := BitVec.ofNat 256 d })

/-- Command 5. -/
def State.revokeKey (s : State) : State := s.onKeySlot (s.recAt % 8) (fun k => { k with revoked := true })

/-- Command 6: the selection runs again, and the results of the failed one stay (R437). -/
def State.restartSelection (s : State) : State := (s.onIsland (fun i => { i with faultN := false })).selectImage

/-- The commands of 0xC, by their number. -/
def State.recoveryCommand (s : State) (n : Nat) : State :=
  if n = 1 then inRecovery State.recWord State.eraseBlock s
  else if n = 2 then inRecovery State.recWord State.programWord s
  else if n = 3 then inRecovery State.recWord State.readFlashWord s
  else if n = 4 then inRecovery (fun s => !(s.keySlot (s.recAt % 8)).programmed) State.programKey s
  else if n = 5 then inRecovery (fun _ => true) State.revokeKey s
  else if n = 6 then (if s.boot.phase = .recovery then s.restartSelection else s)
  else inRecovery (fun _ => false) id s

/-- RECOVERY_ERASE. -/
def execRecoveryErase (s : State) : Result := run (fun s => s.recoveryCommand 1) s

/-- RECOVERY_PROGRAM_WORD. -/
def execRecoveryProgramWord (s : State) : Result := run (fun s => s.recoveryCommand 2) s

/-- RECOVERY_READ_WORD. -/
def execRecoveryReadWord (s : State) : Result := run (fun s => s.recoveryCommand 3) s

/-- RECOVERY_PROGRAM_KEY_SLOT. -/
def execRecoveryProgramKeySlot (s : State) : Result := run (fun s => s.recoveryCommand 4) s

/-- RECOVERY_REVOKE_KEY_SLOT. -/
def execRecoveryRevokeKeySlot (s : State) : Result := run (fun s => s.recoveryCommand 5) s

/-- RECOVERY_RESTART. -/
def execRecoveryRestart (s : State) : Result := run (fun s => s.recoveryCommand 6) s

/-- A word of the recovery window (Table BOOT-5). -/
def State.recoveryWord (s : State) (offset : Nat) : Option U32 :=
  if offset = 0 then some s.boot.recStatus else if offset = 4 then some s.boot.recOffset
  else if offset = 8 then some s.boot.recData else if offset = 0xC then some 0 else none

/-! ## DMF start (R443, Table BOOT-8) -/

/-- The role that straps name (R236). -/
def roleOf (straps : BitVec 2) : Role := if straps = 1 then .bellwether else if straps = 2 then .member else .standalone

/-- Bytes of the records in the backup bytes. -/
def State.backup (s : State) (o n : Nat) : Nat := octets (s.obj 0x2B20 0) o n

/-- Events of the shutdown record (Table POWER-4). -/
def State.logShutdown (s : State) : State :=
  let cause := s.backup 0x30 1
  if s.backup 0x38 8 = 2 ^ 64 - 1 then s
  else if cause = 6 then s.raise 0x8001 0x1B3 (s.backup 0x34 4 / 10 % 65536 * 65536 + 0xFF06)
  else if 0xF0 ≤ cause ∧ cause ≤ 0xF5 then s.raise 0x8004 (0x1C0 + (cause - 0xF0)) 0
  else s

/-- The event of the wake record (R382). -/
def State.logWakeFail (s : State) : State :=
  let n := s.backup 0x2B 1
  if n = 0 then s
  else if s.backup 0x28 2 = 0x8003 then s.raise 0x8003 0x1C8 n
  else s.raise 0x8002 (0x1C0 + s.backup 0x2A 1) n

/-- SLEEP_WAKE_AFTER_PNR (R299). -/
def State.logWakeAfterPnr (s : State) : State :=
  match s.field.wakeAfterPnr with
  | some (c, us) => { s.raise 0x6004 (0x140 + c) us with field := { s.field with wakeAfterPnr := none } }
  | none => s

/-- Crystal fault (R407), cutoff latch and low warning (R399). -/
def State.logIsland (s : State) : State :=
  let s := if s.island.crystalFaultLog then s.raise 0xA001 0x1D0 0x100 else s
  let s := if s.island.cutoffLatch then s.raise 0xA003 0x1D1 2 else s
  let s := if s.island.lowWarningLog then s.raise 0xA003 0x1D1 1 else s
  s.onIsland (fun i => { i with crystalFaultLog := false, cutoffLatch := false, lowWarningLog := false })

/-- Pending bit of a wake source code (Table CHRY-9): codes 1 to 7 are bits 0 to 6. -/
def wakeMask (code : Nat) : Nat := if 1 ≤ code ∧ code ≤ 7 then 2 ^ (code - 1) else 0

/-- WAKE_SOURCE, and the pending bits clear (R417). -/
def State.logWakeSource (s : State) : State :=
  let i := s.island
  let others := i.pendingWakes.toNat &&& (127 - wakeMask i.lastWake)
  (s.raise 0xA004 0x1D3 (others * 2 ^ 24 + i.attempts * 256 + i.lastWake)).onIsland (fun i => { i with pendingWakes := 0 })

/-- Radio refusals while the main domain was down (R431). -/
def State.logRefusals (s : State) : State :=
  let n := s.radio.refusals.toNat - s.radio.refusalsDown.toNat
  let s := if n = 0 then s else s.raise 0xB001 0x1E0 (0xFF000000 + min n 0xFFFF)
  s.onRadio (fun r => { r with refusalsDown := r.refusals })

/-- Outcomes of the selection, and straps that read 0b11 (R435, R236; its source is DEDUCED, log 94). -/
def State.logOutcomes (s : State) (straps : BitVec 2) : State :=
  let s := s.boot.outcomes.foldl (fun (s : State) (e : Nat × Nat × Nat) => s.raise e.1 e.2.1 e.2.2) s
  let s := if straps = 3 then s.raise 0xC001 (imageSource (s.boot.image = 1)) 0xFF else s
  s.onBoot (fun x => { x with outcomes := [] })

/-- The deferred events, and the records consumed (R443). -/
def State.deferredEvents (s : State) (straps : BitVec 2) : State :=
  let s := (s.logShutdown.logWakeFail.logWakeAfterPnr.logIsland.logWakeSource.logRefusals).logOutcomes straps
  (s.writeBackup 0x38 (List.replicate 8 0xFF)).writeBackup 0x2B [0]

/-- The role takes effect: a standalone device holds every port DISABLED, a member waits for its number (R236, R237). -/
def State.takeRole (s : State) (r : Role) : State :=
  { s with role := r, drove := { s.drove with
      memberId := if r = .member then 0xFF else 0,
      ports := s.drove.ports.map (fun x => { x with mode := if r = .standalone then .disabled else .down }) } }

/-- Tiles whose self-test failed at the cold reset are quarantined, as the first DMF after it finds (Table TILE-7 detail 1; the moment is a
DESIGN CHOICE, log 169). -/
def State.selfTests (s : State) (failed : List TileNo) : State :=
  failed.foldl (fun (s : State) (k : TileNo) => if (s.tile k).mode = .gatedOff then s.quarantine k 1 else s) s

/-- DMF_START (R433 step 5, R443, R281): straps, which hold from the first boot after a cold reset (R236), deferred events, self-tests, the
CANopen node, pins as configured (R451). -/
def execDmfStart (reads : StartReads) (s : State) : Result :=
  run (fun s =>
    if s.boot.phase = .starting then
      let first := s.boot.straps.isNone
      let straps := s.boot.straps.getD reads.straps
      let s := (s.onBoot (fun x => { x with phase := .dmf, straps := some straps })).takeRole (roleOf straps)
      let s := if first then s.selfTests reads.failed else s
      let s := s.deferredEvents straps
      let s := { s with angle := { s.angle with haltForced := false }, field := { s.field with standby := 0 } }
      ((s.integrate 0).integrate 1).nodeStart
    else s) s

/-! ## LP5X training (R438, R439) -/

/-- What follows step 6: autoload on a standalone device, formation on a bellwether. -/
def State.afterTraining (s : State) : State :=
  match s.role with
  | .standalone => s.autoload
  | .bellwether => s.startFormation
  | .member => s

/-- LP5X_TRAINING_DONE (R438): the channels that failed twice. -/
def execLp5xTrainingDone (failed : List (Fin 4)) (s : State) : Result :=
  runLive (fun s =>
    if s.boot.lp5xOk ∨ s.boot.lp5xFailed then s
    else
      let s := failed.foldl (fun (s : State) c => s.raise 0x3006 (0x100 + c.val) 2) s
      (s.onBoot (fun x => { x with lp5xOk := failed.isEmpty, lp5xFailed := !failed.isEmpty })).afterTraining) s

end Sys2Proof.Machine
end

