-- ==== Sys2Proof/Machine/Access.lean ====
section
/-!
DEFINITION. The object dictionary served (13 R300 to R314): what every object reads as, what a write does, the PCIe mirror (11 R256 to
R258; R308) and the indirect window (R309).
-/
namespace Sys2Proof.Machine

/-! ## What an object reads as -/

/-- 0x1018 and 0x2000. -/
def State.readIdentity (s : State) (idx sub : Nat) : Nat :=
  if idx = 0x1018 then
    (if sub = 1 then 0xD4E else if sub = 2 then 0x2560
     else if sub = 3 then s.board.silicon.toNat * 65536 + s.boot.dmfVersion.toNat % 65536 else s.board.serial.toNat)
  else if sub = 1 then 0x2560 else if sub = 2 then s.board.silicon.toNat else if sub = 3 then s.role.code
  else if sub = 4 then s.drove.memberId else s.boot.dmfVersion.toNat

/-- 0x2200 (Table PLAN-8). -/
def State.readPlan (s : State) (sub : Nat) : Nat :=
  if sub = 4 then s.plan.status
  else if sub = 7 then s.plan.rejection.toNat
  else match s.loaded with
    | none => 0
    | some p => if sub = 1 then p.header.planId else if sub = 2 then p.present.length else p.header.tierMask

/-- 0x2300 + p (Table PART-6). -/
def State.readPart (s : State) (p sub : Nat) : Nat :=
  let x := vget s.parts p {}
  let e := s.partEntry p
  if sub = 1 then (if e.present then e.cls else 0xFF)
  else if sub = 2 then (if !e.present then 0 else if s.inTier p then 2 else 1)
  else if sub = 3 then x.overruns else if sub = 4 then x.completed.toNat else if sub = 5 then e.tallyBase
  else if sub = 6 then e.tallyCount else if sub = 7 then x.lastNotified else x.notices.toNat

/-- 0x2600, 0x2610 and 0x2620 (08, 03); the tile and the region are the reader's own selection (R307). -/
def State.readMemory (s : State) (p : Principal) (idx sub : Nat) : Nat :=
  if idx = 0x2600 then
    (if sub = 1 then s.mem.sramCorrected.toNat else if sub = 2 then s.mem.sramUncorrectable.toNat
     else if sub = 3 then s.mem.poisonConsumed.toNat else if sub = 4 then s.mem.lp5xCorrected.toNat
     else if sub = 5 then s.mem.lp5xUncorrectable.toNat else s.mem.forcedRefresh.toNat)
  else if idx = 0x2610 then
    (if sub = 4 then s.mem.sramPasses.toNat else if sub = 5 then s.mem.lp5xPasses.toNat else s.mem.reload.length)
  else
    let c := s.copyOf p
    let x := s.tile c.tileSelect.val
    let r := x.regions.getD c.regionSelect {}
    if sub = 1 then c.tileSelect.val else if sub = 4 then c.regionSelect
    else if sub = 2 then x.mode.code + 256 * (x.failCount % 4)
    else if sub = 5 then r.base else if sub = 6 then r.length else if sub = 7 then r.owner + 256 * r.attrs
    else if sub = 8 then r.golden else x.ueCount.toNat

/-- 0x2700 + p (10). -/
def State.readPort (s : State) (p sub : Nat) : Nat :=
  let x := s.port p
  if sub = 1 then x.mode.code else if sub = 2 then x.peer.toNat else if sub = 3 then x.hopPs % 2 ^ 32
  else if sub = 4 then x.crcFails.toNat else if sub = 5 then x.retries.toNat else if sub = 6 then x.lost.toNat
  else if sub = 7 then x.probationFails else x.probation

/-- 0x2710 (10); the gateway is the reader's own (Table DROVE-7). -/
def State.readDomain (s : State) (p : Principal) (sub : Nat) : Nat :=
  let d := s.drove
  let g := (s.copyOf p).gateway
  if sub = 1 then d.domain else if sub = 2 then d.topology else if sub = 7 then d.present.toNat % 2 ^ 64
  else if sub = 8 then d.present.toNat / 2 ^ 64 else if sub = 9 then d.lost.toNat % 2 ^ 64
  else if sub = 0xA then d.lost.toNat / 2 ^ 64 else if sub = 0xB then d.depth else if sub = 0xE then d.failure
  else if sub = 0x10 then g.target else if sub = 0x11 then g.object else if sub = 0x12 then g.low.toNat
  else if sub = 0x13 then g.high.toNat else if sub = 0x15 then g.status else g.abort.toNat

/-- 0x2B00, 0x2B10, 0x2B30, 0x2C00 and 0x2C10 (18, 19). -/
def State.readIsland (s : State) (idx sub : Nat) : Nat :=
  let i := s.island
  if idx = 0x2B00 then
    (if sub = 1 then s.chrysalisStatus else if sub = 2 then i.lastWake else if sub = 3 then i.failCode
     else if i.onAux then 1 else 0)
  else if idx = 0x2B10 then s.calendarNow.pack
  else if idx = 0x2B30 then
    (if sub = 1 then i.storeMv else if sub = 3 then i.pvMv else if sub = 4 then i.tegMv else if sub = 5 then i.harvested
     else if sub = 6 then unsignedOf 16 i.storeTemp else s.storeStatus)
  else if idx = 0x2C00 then s.radioStatus
  else if sub = 1 then min 0xFFFF s.busiest
  else if sub = 2 then (readout 0x2C10 s.dutyMs ((s.dutyMs : Rat) / 3600)).toNat
  else s.radio.refusals.toNat

/-- 0x2D00 + m (Table HOST-3). -/
def State.readMailbox (s : State) (m sub : Nat) : Nat :=
  let x := s.mailbox m
  if sub = 1 then x.generation.toNat else if sub = 2 then x.flags else if sub = 3 then x.length
  else if sub = 4 then x.skips.toNat else if sub = 5 then x.drops.toNat else (s.mailboxOwner m).getD 0xFF

/-- A log entry (Table OD-12). -/
def LogEntry.read (e : LogEntry) (sub : Nat) : Nat :=
  if sub = 1 then e.code % 65536 * 65536 + e.source % 65536 else if sub = 2 then e.detail % 2 ^ 32 else e.count.toNat

/-- 0x2E00, 0x2E01 and 0x2F00 to 0x2F4F. -/
def State.readTail (s : State) (p : Principal) (idx sub : Nat) : Nat :=
  let c := s.copyOf p
  if idx = 0x2E00 then c.tallySelect
  else if idx = 0x2E01 then
    (if sub = 1 then (s.tally c.tallySelect).value.toNat else if sub = 4 then s.tallyWord c.tallySelect
     else (s.tallyConfig c.tallySelect).target)
  else if idx = 0x2F00 then (if sub = 1 then s.log.sinceClear.toNat else s.log.sinceReset.toNat)
  else if idx = 0x2F01 then s.log.last.read sub
  else if idx = 0x2F02 then
    (if sub = 1 then c.indirect.target.toNat else if sub = 3 then c.indirect.status else if sub = 4 then c.indirect.abort.toNat
     else if sub = 5 then c.indirect.length else (c.indirect.data.getD (sub - 0x10) 0).toNat)
  else (vget s.log.entries (idx - 0x2F10) {}).read sub

/-- The objects that the device sets, and those that have a home of their own. -/
def State.readSet (s : State) (p : Principal) (idx sub : Nat) : Nat :=
  if idx = 0x1001 then s.field.errorReg.toNat
  else if idx = 0x1006 then s.obj 0x2100 1 * s.obj 0x2100 5
  else if idx = 0x1018 ∨ idx = 0x2000 then s.readIdentity idx sub
  else if idx = 0x2100 then s.readBell sub
  else if idx = 0x2200 then s.readPlan sub
  else if idx = 0x2210 then s.readTier sub
  else if idx = 0x2300 ∧ (sub = 0x28 ∨ sub = 0x29) then (s.can (sub - 0x28)).status
  else if idx = 0x2300 ∧ sub = 0x35 then s.field.sleep.code
  else if 0x2300 ≤ idx ∧ idx ≤ 0x231F then s.readPart (idx - 0x2300) sub
  else if 0x2400 ≤ idx ∧ idx ≤ 0x2510 then s.readPower idx sub
  else if 0x2600 ≤ idx ∧ idx ≤ 0x2620 then s.readMemory p idx sub
  else if 0x2700 ≤ idx ∧ idx ≤ 0x2707 then s.readPort (idx - 0x2700) sub
  else if idx = 0x2710 then s.readDomain p sub
  else if 0x2800 ≤ idx ∧ idx ≤ 0x2810 then s.readMandible idx sub
  else if 0x2900 ≤ idx ∧ idx ≤ 0x2A27 then s.readAngle idx sub
  else if 0x2B00 ≤ idx ∧ idx ≤ 0x2C10 then s.readIsland idx sub
  else if 0x2D00 ≤ idx ∧ idx ≤ 0x2D3F then s.readMailbox (idx - 0x2D00) sub
  else s.readTail p idx sub

/-- Objects of a stored class that are not kept in the dictionary's store: the copies of R307 and the calendar. -/
def ownHome (idx sub : Nat) : Bool :=
  idx = 0x2B10 || (idx = 0x2620 && (sub = 1 || sub = 4)) || (idx = 0x2710 && 0x10 ≤ sub) || idx = 0x2E00 || idx = 0x2F02

/-- The bytes of an object, as a number, as a principal reads them (R301, R307). -/
def State.readObject (s : State) (p : Principal) (r : OdRow) (idx sub : Nat) : Nat :=
  let stored := r.acc = .rw || r.acc = .rwb || r.acc = .rwl || (r.acc = .const && idx < 0x2000 && idx ≠ 0x1018)
  if stored && !ownHome idx sub then s.objW idx sub else s.readSet p idx sub

/-- What a read of an object clears (R402, R427, Table CHRY-2). Whether VDD_AUX has been good for 10 ms is the supply's: a free
value here, an operand of CHRYSALIS_STATUS_READ. -/
def State.readClears (s : State) (idx sub : Nat) : State :=
  if idx = 0x2B00 ∧ sub = 1 then
    let (v, s) := s.takeFree
    s.onIsland (fun i => { i with alarmFired := false, invalidDate := false, locked := i.locked && !v.getLsbD 0 })
  else if idx = 0x2B30 ∧ sub = 7 then s.onIsland (fun i => { i with overcurrent := false })
  else if idx = 0x2C00 ∧ sub = 8 then s.onRadio (fun r => { r with halt := false })
  else s

/-- A whole read, judged and answered: its value and its length (R300, R304, R306). -/
def State.serveRead (s : State) (p : Principal) (idx sub : Nat) : Except Nat (Nat × Nat × State) :=
  match s.checkRead p idx sub with
  | .error e => .error e
  | .ok r => .ok (s.readObject p r idx sub % 256 ^ r.bytes, r.bytes, s.readClears idx sub)

/-! ## What a write does -/

/-- The six thresholds of an object as last written, with `v` for stage `k`. -/
def State.stages (s : State) (idx k v : Nat) : List Nat :=
  (List.range 6).map (fun j => if j + 1 = k then v else s.objW idx (j + 1))

/-- The orders of R310. -/
def thresholdsOk (fall rise : List Nat) : Bool :=
  (List.zipWith (fun f r => decide (f < r)) fall rise).all id
  && (List.zipWith (fun f g => decide (g < f)) fall (fall.drop 1)).all id
  && (List.zipWith (fun r q => decide (q ≤ r)) rise (rise.drop 1)).all id

/-- Every entry that RPDO `n` maps names a mappable object, all of it (R291). -/
def State.mappable (s : State) (n : Nat) : Bool :=
  (List.range (s.objW (0x1600 + n) 0)).all (fun k =>
    let e := s.objW (0x1600 + n) (k + 1)
    match odRow? (bitsOf e 16 16) (bitsOf e 8 8) with
    | some r => r.pdo && bitsOf e 0 8 = 8 * r.bytes
    | none => false)

/-- The rule that joins an object to others (R275, R305, R45, R291, R310, R316, R341, R360): the partner of a bridge is configured 0, a wheel has M < N/2, a limit used as
home is one of its axis's inputs, an RPDO without an owner maps mappable objects only. With no plan loaded there is no present tier that a write of the shed
map could name, and it breaks the rule (DESIGN CHOICE, log 182). -/
def State.joined (s : State) (idx sub v : Nat) : Except Nat Unit :=
  if idx = 0x2300 ∧ (sub = 0x20 ∨ sub = 0x22) then
    (if dataOk v (s.objW 0x2300 (sub + 1)) then .ok () else .error abortRange)
  else if idx = 0x2300 ∧ (sub = 0x21 ∨ sub = 0x23) then
    (if dataOk (s.objW 0x2300 (sub - 1)) v then .ok () else .error abortRange)
  else if idx = 0x2300 ∧ 0x60 ≤ sub ∧ sub ≤ 0x7F ∧ bitsOf v 24 8 = 0xFF then
    (if s.mappable (sub - 0x60) then .ok () else .error abortRule)
  else if 0x2800 ≤ idx ∧ idx ≤ 0x2807 ∧ sub = 1 then
    (if idx % 2 = 0 ∧ bitOf v 1 ∧ s.objW (idx + 1) 1 ≠ 0 ∨ idx % 2 = 1 ∧ v ≠ 0 ∧ bitOf (s.objW (idx - 1) 1) 1 then .error abortRule
     else .ok ())
  else if 0x2900 ≤ idx ∧ idx ≤ 0x2901 ∧ (sub = 1 ∨ sub = 2) then
    (if 2 * (if sub = 2 then v else s.objW idx 2) < (if sub = 1 then v else s.objW idx 1) then .ok () else .error abortRule)
  else if 0x2A20 ≤ idx ∧ idx ≤ 0x2A27 ∧ (sub = 2 ∨ sub = 3 ∨ sub = 7) then
    (let now (k : Nat) : Nat := if sub = k then v else s.objW idx k
     if bitOf (now 7) 0 ∧ ¬ (now 2 < 16 ∧ bitOf (now 3) (now 2)) then .error abortRule else .ok ())
  else if idx = 0x2401 then
    (if thresholdsOk (s.stages 0x2401 sub v) (s.stages 0x2402 0 0) then .ok () else .error abortRule)
  else if idx = 0x2402 then
    (if thresholdsOk (s.stages 0x2401 0 0) (s.stages 0x2402 sub v) then .ok () else .error abortRule)
  else if idx = 0x2404 then
    (match s.loaded with
      | none => .error abortRule
      | some p => if p.shedOk ((List.range 4).map (fun j => if j + 1 = sub then v else s.objW 0x2404 (j + 1))) then .ok ()
        else .error abortRule)
  else .ok ()

/-- A mapping entry names what it may (R285, R291; CiA 301, log 20): the entries of an RPDO with an owner only give its length. -/
def State.entryOk (s : State) (idx e : Nat) : Except Nat Unit :=
  match odRow? (bitsOf e 16 16) (bitsOf e 8 8) with
  | none => .error (absent (bitsOf e 16 16))
  | some r =>
    if 0x1600 ≤ idx ∧ idx ≤ 0x161F ∧ (s.rpdoOwner (idx - 0x1600)).isSome then
      (if bitsOf e 0 8 = 0 then .error abortNotMappable else .ok ())
    else if r.pdo && bitsOf e 0 8 = 8 * r.bytes then .ok ()
    else .error abortNotMappable

/-- A write of a mapping object (R285): entries change while the count is 0; a count is accepted with valid entries of at most 64
bytes (CiA 301, log 20). -/
def State.mappingOk (s : State) (idx sub v : Nat) : Except Nat Unit :=
  if sub ≠ 0 then
    (if s.objW idx 0 ≠ 0 then .error abortState else if v = 0 then .ok () else s.entryOk idx v)
  else
    let es := (List.range v).map (fun k => s.objW idx (k + 1))
    match es.findSome? (fun e => match s.entryOk idx e with
      | .error c => some c
      | .ok _ => none) with
    | some c => .error c
    | none => if 512 < (es.map (fun e => bitsOf e 0 8)).sum then .error abortPdoLength else .ok ()

/-- An index of the PDO mappings. -/
def isMapping (idx : Nat) : Bool := (0x1600 ≤ idx && idx ≤ 0x161F) || (0x1A00 ≤ idx && idx ≤ 0x1A1F)

/-- The log is cleared (R313). -/
def State.clearLog (s : State) : State :=
  { s with log := { sinceReset := s.log.sinceReset } }

/-- 0x2300:2C: aborts and the clear of the error register. -/
def State.controllerCommand (s : State) (v : Nat) : State :=
  let s := if bitOf v 0 then s.onCan 0 (·.abort (fun _ => true) 3) else s
  let s := if bitOf v 1 then s.onCan 1 (·.abort (fun _ => true) 3) else s
  if bitOf v 4 then s.clearErrors else s

/-- 0x2C00:06. -/
def State.setNetworkKey (s : State) (v : Nat) : State :=
  s.onRadio (fun r => { r with key := some (BitVec.ofNat 128 v), counter := 0, replay := [] })

/-- A write into a copy of R307. -/
def State.writeCopy (s : State) (p : Principal) (idx sub v : Nat) : State :=
  s.setCopy p (fun c =>
    if idx = 0x2620 then (if sub = 1 then { c with tileSelect := Fin.ofNat 256 v } else { c with regionSelect := v })
    else if idx = 0x2E00 then { c with tallySelect := v }
    else if idx = 0x2710 then
      { c with gateway :=
        if sub = 0x10 then { c.gateway with target := v }
        else if sub = 0x11 then { c.gateway with object := v / 256 * 256 }
        else if sub = 0x12 then { c.gateway with low := BitVec.ofNat 32 v }
        else { c.gateway with high := BitVec.ofNat 32 v } }
    else
      { c with indirect :=
        if sub = 1 then { c.indirect with target := BitVec.ofNat 32 v }
        else { c.indirect with data := c.indirect.data.set (sub - 0x10) (BitVec.ofNat 32 v) } })

/-- The write-only objects act (R301); none for an object that is none of them. The indirect command stands apart. -/
def State.actObject (p : Principal) (idx sub v : Nat) (s : State) : Option (Except Nat State) :=
  if idx = 0x2200 ∧ sub = 3 then
    some (if v = 1 then s.loadOne else if v = 2 then s.loadTwo else s.stopCommand)
  else if 0x2300 ≤ idx ∧ idx ≤ 0x231F ∧ sub = 8 then some (s.askReset (idx - 0x2300))
  else if idx = 0x2300 ∧ sub = 0x2C then some (.ok (s.controllerCommand v))
  else if idx = 0x2300 ∧ sub = 0x30 then
    some (if bitOf v 0 then s.vote (BitVec.ofNat 2 (v / 2)) else s.cancelVote)
  else if idx = 0x2600 then some (.ok s.clearCounters)
  else if idx = 0x2620 ∧ sub = 3 then some (s.tileCommand p v)
  else if 0x2700 ≤ idx ∧ idx ≤ 0x2707 ∧ sub = 9 then
    let q : PortNo := Fin.ofNat 8 (idx - 0x2700)
    some (if v = 1 then s.portCommand q (·.startTraining q) else s.portCommand q (·.linkLost q 4))
  else if idx = 0x2710 ∧ sub = 0xC then some (if v = 1 then s.formCommand else s.reformCommand)
  else if idx = 0x2710 ∧ sub = 0x14 then some (s.gatewayAsk p (v = 2))
  else if 0x2800 ≤ idx ∧ idx ≤ 0x2807 ∧ sub = 5 then
    some (if v = 0 then s.directOff (idx - 0x2800) else if v = 1 then s.directStart (idx - 0x2800)
      else s.directSafe (idx - 0x2800))
  else if 0x2800 ≤ idx ∧ idx ≤ 0x2807 ∧ sub = 0x10 then some (s.faultClear (idx - 0x2800))
  else if 0x2A00 ≤ idx ∧ idx ≤ 0x2A0F ∧ sub = 7 then some (s.clearTrip (idx - 0x2A00))
  else if 0x2A20 ≤ idx ∧ idx ≤ 0x2A27 ∧ sub = 8 then
    some (if v = 1 then s.homingBegin (idx - 0x2A20) else s.homingCommand (idx - 0x2A20))
  else if idx = 0x2B10 then some (s.writeCalendar v)
  else if idx = 0x2C00 ∧ sub = 6 then some (.ok (s.setNetworkKey v))
  else if 0x2D00 ≤ idx ∧ idx ≤ 0x2D3F ∧ sub = 6 then some (s.ack (idx - 0x2D00) (BitVec.ofNat 32 v))
  else if 0x2D00 ≤ idx ∧ idx ≤ 0x2D3F ∧ sub = 8 then some (s.setView p (Fin.ofNat 64 (idx - 0x2D00)))
  else if idx = 0x2E01 ∧ sub = 2 then some (.ok (s.incTally (s.copyOf p).tallySelect v none))
  else if idx = 0x2E01 ∧ sub = 3 then some (.ok (s.clearTally (s.copyOf p).tallySelect))
  else if idx = 0x2F00 then some (.ok s.clearLog)
  else none

/-- A value within its own range is stored, when no joining rule forbids it (R301, R302, R305). A channel that is switched off opens its
switches (R315); a wheel that is switched on or off searches (R345). -/
def State.store (p : Principal) (r : OdRow) (idx sub v : Nat) (s : State) : Except Nat State :=
  match (if isMapping idx then s.mappingOk idx sub v else s.joined idx sub v) with
  | .error e => .error e
  | .ok _ =>
    if ownHome idx sub then .ok (s.writeCopy p idx sub v)
    else if r.acc = .rwb then
      let s := s.setObjB idx sub v
      .ok (if idx ∈ [0x2401, 0x2402, 0x2405] ∧ ¬ s.running then s.judgeStage else s)
    else if 0x2800 ≤ idx ∧ idx ≤ 0x2807 ∧ sub = 1 ∧ ¬ bitOf v 0 then .ok ((s.setObj idx sub v).idleOpen (idx - 0x2800))
    else if 0x2900 ≤ idx ∧ idx ≤ 0x2901 ∧ sub = 4 ∧ ¬ (bitOf v 0 ∧ s.wheelOn (idx - 0x2900)) then
      .ok ((s.wheelRestart (idx - 0x2900)).setObj idx sub v)
    else .ok (s.setObj idx sub v)

/-- A whole write of any object but the indirect command (R300 to R306). -/
def State.writeObject (p : Principal) (idx sub len v : Nat) (s : State) : Except Nat State :=
  match s.checkWrite p idx sub len v with
  | .error e => .error e
  | .ok (r, v) => (s.actObject p idx sub v).getD (s.store p r idx sub v)

/-! ## Indirect window (R309) -/

def State.onIndirect (s : State) (p : Principal) (f : Indirect → Indirect) : State :=
  s.setCopy p (fun c => { c with indirect := f c.indirect })

/-- Index and subindex of the target. -/
def State.target_ (s : State) (p : Principal) : Nat × Nat :=
  let t := (s.copyOf p).indirect.target.toNat
  (t / 65536, t / 256 % 256)

/-- An indirect access ends with an abort. -/
def State.indirectAborts (s : State) (p : Principal) (e : Nat) : State :=
  s.onIndirect p (fun x => { x with status := 3, abort := BitVec.ofNat 32 e })

/-- Command 1: the target is copied into the data words, its length into :05. -/
def State.indirectReads (p : Principal) (s : State) : State :=
  let (idx, sub) := s.target_ p
  match s.serveRead p idx sub with
  | .error e => s.indirectAborts p e
  | .ok (v, n, s') => s'.onIndirect p (fun x => { x with
      status := 2, abort := 0, length := n,
      data := (List.range 16).map (fun j => if 4 * j < n then BitVec.ofNat 32 (octets v (4 * j) 4) else x.data.getD j 0) })

/-- Command 2: the first bytes of the data words are written, as many as the target has. A target that is the window's own
command is refused (log 95). -/
def State.indirectWrites (p : Principal) (s : State) : State :=
  let (idx, sub) := s.target_ p
  let n := ((odRow? idx sub).map OdRow.bytes).getD 0
  let bytes := (s.copyOf p).indirect.data.flatMap (fun w => toLE 4 w.toNat)
  if idx = 0x2F02 ∧ sub = 2 then s.indirectAborts p abortRule
  else match s.writeObject p idx sub n (leNat (bytes.take n)) with
    | .error e => s.indirectAborts p e
    | .ok s' => s'.onIndirect p (fun x => { x with status := 2, abort := 0, length := n })

/-- A whole write of any object. -/
def State.serveWrite (p : Principal) (idx sub len v : Nat) (s : State) : Except Nat State :=
  if idx = 0x2F02 ∧ sub = 2 then
    match s.checkWrite p idx sub len v with
    | .error e => .error e
    | .ok (_, v) => .ok (if v = 1 then s.indirectReads p else s.indirectWrites p)
  else s.writeObject p idx sub len v

/-- INDIRECT_READ (R309). -/
def execIndirectRead (p : Principal) (s : State) : Result :=
  runLive (State.ownWrite p 0x2F02 2 1 1 (fun s => .ok (s.indirectReads p))) s

/-- INDIRECT_WRITE (R309). -/
def execIndirectWrite (p : Principal) (s : State) : Result :=
  runLive (State.ownWrite p 0x2F02 2 1 2 (fun s => .ok (s.indirectWrites p))) s

/-- LOG_CLEAR (R313). -/
def execLogClear (p : Principal) (s : State) : Result :=
  runLive (State.ownWrite p 0x2F00 3 1 1 (fun s => .ok s.clearLog)) s

/-! ## Mirror (R256 to R258, R308) -/

/-- Words of an object. -/
def OdRow.words (r : OdRow) : Nat := cdiv r.bytes 4

/-- The object whose word `w` of an index shows, and which of its words (R308). -/
def mirrorWord (idx w : Nat) : Option (OdRow × Nat × Nat) :=
  match odRow? idx w with
  | some r => if w + r.words ≤ 64 then some (r, w, 0) else none
  | none => (List.range w).foldl (fun (best : Option (OdRow × Nat × Nat)) k => match odRow? idx k with
      | some r => if w < k + r.words ∧ k + r.words ≤ 64 then some (r, k, w - k) else best
      | none => best) none

/-- Word `j` of the object at `sub` shows in the mirror. -/
def visible (idx sub j : Nat) : Bool :=
  match mirrorWord idx (sub + j) with
  | some (_, k, i) => k = sub && i = j
  | none => false

/-- A word of the mirror is read by a function (R257, R258). -/
def State.mirrorRead (s : State) (p : Principal) (offset : Nat) : State :=
  let last := (s.copyOf p).latched
  let s := s.spendLatch p
  let idx := offset / 256
  match mirrorWord idx (offset % 256 / 4) with
  | none => s.emit (.unsupported p)
  | some (r, sub, j) =>
    match s.serveRead p idx sub with
    | .error _ => s.emit (.unsupported p)
    | .ok (v, _, s) =>
      let key := odKey idx sub
      let word := octets v (4 * j) 4
      if r.bytes = 8 ∧ visible idx sub 1 then
        (if j = 0 then
          (s.setCopy p (fun c => { c with latched := some (key, BitVec.ofNat 32 (octets v 4 4)) })).emit (.odData p word)
         else s.emit (.odData p (match last with
            | some (k, high) => if k = key then high.toNat else word
            | none => word)))
      else s.emit (.odData p word)

/-- Offset 0x0 of the mirror is read: both abort words clear (R258). -/
def State.readAbort (s : State) (p : Principal) : State :=
  let c := s.copyOf p
  ((s.spendLatch p).setCopy p (fun c => { c with abortCode := 0, abortObject := 0 })).emit (.odData p c.abortCode.toNat)

/-- A read of BAR 0 by a function: in recovery the window of Table BOOT-5 for the PF, else the mirror. Only naturally aligned 4-byte reads
are accepted (R256). -/
def State.barRead (s : State) (p : Principal) (offset size : Nat) : State :=
  let s := s.vfAccess p
  if !isFunction p then s
  else if offset % 4 ≠ 0 ∨ size ≠ 4 then (if s.boot.phase = .recovery ∨ s.live then s.emit (.unsupported p) else s)
  else if s.boot.phase = .recovery then
    (match (if p = .pf then s.recoveryWord offset else none) with
      | some w => s.emit (.odData p w.toNat)
      | none => s.emit (.unsupported p))
  else if !s.live then s
  else if offset = 0 then s.readAbort p
  else if offset = 4 then (s.spendLatch p).emit (.odData p (s.copyOf p).abortObject.toNat)
  else s.mirrorRead p offset

/-- MIRROR_LOW_WORD_READ (R257, R308): a read at any offset of the mirror; the low word of a 64-bit object latches its high word. -/
def execMirrorLowWordRead (p : Principal) (at_ : MirrorAt) (s : State) : Result :=
  run (fun s => s.barRead p at_.offset.toNat at_.size) s

/-- MIRROR_ABORT_READ (R258). -/
def execMirrorAbortRead (p : Principal) (s : State) : Result := run (fun s => s.barRead p 0 4) s

/-- The words held for an object are gone. -/
def State.dropHeld (s : State) (p : Principal) (key : Nat) : State :=
  s.setCopy p (fun c => { c with held := c.held.filter (fun h => decide (h.1 / 16 ≠ key)) })

/-- The value that the held words and the last one give; a word that was not written keeps what the object holds. -/
def State.heldValue (s : State) (p : Principal) (r : OdRow) (key idx sub : Nat) (word : Nat) : Nat :=
  let now := s.readObject p r idx sub
  leNat (((List.range r.words).flatMap (fun j => toLE 4 (
    if j + 1 = r.words then word
    else match assocGet (key * 16 + j) (s.copyOf p).held with
      | some w => w.toNat
      | none => octets now (4 * j) 4))).take r.bytes)

/-- A word of the mirror is written (R256 to R258, R308). The bits of the word that its object does not reach are reserved (R6;
DEDUCED, log 96); words of a longer object are held until its last word is written, and an object with hidden words takes no
write here (log 96). -/
def State.mirrorWrite (p : Principal) (offset word : Nat) (s : State) : State :=
  let s := s.spendLatch p
  let idx := offset / 256
  match mirrorWord idx (offset % 256 / 4) with
  | none => s.answer p idx (offset % 256 / 4) (.error (absent idx))
  | some (r, sub, j) =>
    let key := odKey idx sub
    if r.bytes ≤ 4 then s.answer p idx sub (State.serveWrite p idx sub r.bytes (word % 256 ^ r.bytes) s)
    else if !(List.range r.words).all (visible idx sub) then
      s.answer p idx sub (State.serveWrite p idx sub 4 word s)
    else if j + 1 < r.words then s.setCopy p (fun c => { c with held := assocPut (key * 16 + j) (BitVec.ofNat 32 word) c.held })
    else
      (s.dropHeld p key).answer p idx sub (State.serveWrite p idx sub r.bytes (s.heldValue p r key idx sub word) (s.dropHeld p key))

/-- A word of the recovery window is written (Table BOOT-5). -/
def State.recoveryWrite (s : State) (offset word : Nat) : State :=
  if offset = 4 then s.onBoot (fun x => { x with recOffset := BitVec.ofNat 32 word })
  else if offset = 8 then s.onBoot (fun x => { x with recData := BitVec.ofNat 32 word })
  else if offset = 0xC then s.recoveryCommand word
  else s

/-- A write of BAR 0 by a function; any but a naturally aligned 4-byte write is discarded (R256). -/
def State.barWrite (p : Principal) (offset word size : Nat) (s : State) : State :=
  let s := s.vfAccess p
  if !isFunction p ∨ offset % 4 ≠ 0 ∨ size ≠ 4 then s
  else if s.boot.phase = .recovery then (if p = .pf then s.recoveryWrite offset word else s)
  else if !s.live then s
  else s.mirrorWrite p offset word

/-- A write of any path: through the mirror word by word, or whole (R304). -/
def State.odWrite (s : State) (p : Principal) : WritePath → State
  | .mirror offset word size => State.barWrite p offset.toNat word.toNat size s
  | .whole index sub data =>
    if !s.live then s
    else match State.serveWrite p index.toNat sub.toNat data.length (leNat data) s with
      | .ok s' => s'.emit (.odReply p 0)
      | .error e => s.emit (.odReply p (BitVec.ofNat 32 e))

/-- OD_WRITE (R300 to R306); what it changes may be the event of an unbound TPDO (R288; log 187). -/
def execOdWrite (p : Principal) (path : WritePath) (s : State) : Result := run (fun s => (s.odWrite p path).eventTpdos) s

end Sys2Proof.Machine
end

