-- ==== Sys2Proof/Machine/Node.lean ====
section
/-!
DEFINITION. What comes in and acts on the dictionary: service cells (10 R243) and the CANopen FD node (12 R276, R283 to R285, R288, R289,
R291, R292), its received frames, RPDOs, unbound TPDOs and USDO.
-/
namespace Sys2Proof.Machine

/-! ## Service cells (R243, R225) -/

/-- What a gateway request does on the member, as the principal that made it: the abort code and the data of its answer (R243, R208). -/
def State.serveRequest (s : State) (x : Service) : U32 × U64 × State :=
  let idx := x.object.toNat / 65536
  let sub := x.object.toNat / 256 % 256
  if x.write then
    let n := ((odRow? idx sub).map OdRow.bytes).getD 0
    match State.serveWrite x.principal idx sub n (x.data.toNat % 256 ^ n) s with
    | .ok s' => (0, x.data, s')
    | .error e => (BitVec.ofNat 32 e, 0, s)
  else match s.serveRead x.principal idx sub with
    | .ok (v, _, s') => (0, BitVec.ofNat 64 v, s')
    | .error e => (BitVec.ofNat 32 e, 0, s)

/-- A service cell arrives: it goes on along its path, or is served, and the answer takes the same path back (R243). -/
def State.serviceCell (s : State) (port : PortNo) (x : Service) : State :=
  match x.route with
  | q :: r => if (s.port q).mode = .eligible then s.emit (.service q { x with route := r, back := port :: x.back }) else s
  | [] =>
    if x.answer then (if s.role = .bellwether then s.gatewayAnswer x.principal x.abort x.data else s)
    else
      let (e, v, s) := s.serveRequest x
      s.emit (.service port { x with answer := true, abort := e, data := v, route := x.back, back := [] })

/-- DROVE_CELL_RECEIVED (R225, R232, R233, R243, R249). -/
def execDroveCellReceived (port : PortNo) (slot : Nat) (cell : Cell) (crcOk : Bool) (s : State) : Result :=
  runLive (fun s => match cell.service with
    | some x =>
      if !crcOk then s.planCell port slot cell crcOk
      else if cell.kind = 3 ∧ (s.port port).mode = .eligible ∧ (¬ s.running ∨ cell.parity = s.parity) then s.serviceCell port x
      else s
    | none => s.planCell port slot cell crcOk) s

/-! ## RPDOs (R289, R291) -/

/-- The mapped objects are written in turn from the bytes of a PDO, as the session's principal (R291); a refused write changes
nothing. -/
def State.writeMapped (s : State) (p : Principal) (es : List Nat) (data : List Byte) : State :=
  (es.foldl (fun (acc : State × List Byte) e =>
    let n := bitsOf e 0 8 / 8
    let s := match State.serveWrite p (bitsOf e 16 16) (bitsOf e 8 8) n (leNat (acc.2.take n)) acc.1 with
      | .ok s' => s'
      | .error _ => acc.1
    (s, acc.2.drop n)) (s, data)).1

/-- The principal of a controller's session (R284). -/
def sessionOf (c : Nat) : Principal := .usdo (Fin.ofNat 2 c)

/-- A received RPDO (R283, R289, R291): too short it is not used; with an owner it waits for the bell, without one its objects are
written at reception, whatever its transmission type. -/
def State.rpdoIn (s : State) (n : Nat) (data : List Byte) : State :=
  let l := s.pdoLength 0x1600 n
  if s.field.nmt ≠ .operational ∨ bitOf (s.obj (0x1400 + n) 1) 31 then s
  else if data.length < l then s.emcy 0x8210 (some 4) 0 0
  else
    let s := s.onRpdo n (fun x => { x with timeout := false })
    if (s.rpdoOwner n).isSome then s.onRpdo n (fun x => { x with next := some (data.take l) })
    else s.writeMapped (sessionOf (s.rpdoCan n)) (s.mapping 0x1600 n) (data.take l)

/-- RPDO_RECEIVED (R289). -/
def execRpdoReceived (n : Fin 32) (data : List Byte) (s : State) : Result := runLive (fun s => s.rpdoIn n data) s

/-! ## USDO (R284) -/

/-- Bytes of an answer that still fit one frame (CiA 1301, log 97), and the bytes of one segment. -/
def usdoWhole : Nat := 56
def usdoFirst : Nat := 52
def usdoNext : Nat := 60

/-- An answer of the session of controller `c`: its content, and the FD frame with identifier 0x580 + node-ID that carries it (R276, R284). -/
def State.usdoReply (s : State) (c : Fin 2) (abort : U32) (data : List Byte) : State :=
  (s.emit (.usdo c abort data)).queueFrame c
    { frame := fdFrame (0x580 + s.nodeId) (Config.usdoAnswer abort.toNat data), kind := .usdo }

def State.setTransfer (s : State) (c : Fin 2) (x : Option (Nat × List Byte × Bool)) : State :=
  s.onCan c (fun k => { k with transfer := x })

/-- An upload: whole when it fits one frame, else its first bytes, and the rest stays open. -/
def State.upload (s : State) (c : Fin 2) (idx sub : Nat) : State :=
  match s.serveRead (.usdo c) idx sub with
  | .error e => s.usdoReply c (BitVec.ofNat 32 e) []
  | .ok (v, n, s') =>
    let bytes := toLE n v
    if n ≤ usdoWhole then s'.usdoReply c 0 bytes
    else (s'.setTransfer c (some (odKey idx sub, bytes.drop usdoFirst, true))).usdoReply c 0 (bytes.take usdoFirst)

/-- A download, once all its bytes are there. -/
def State.download (s : State) (c : Fin 2) (idx sub : Nat) (data : List Byte) : State :=
  match State.serveWrite (.usdo c) idx sub data.length (leNat data) s with
  | .error e => s.usdoReply c (BitVec.ofNat 32 e) []
  | .ok s' => s'.usdoReply c 0 []

/-- A download starts: whole in its first frame, or segmented; an object that is not there or has another length is refused at
once. -/
def State.startDownload (s : State) (c : Fin 2) (idx sub size : Nat) (first : List Byte) : State :=
  if size ≤ first.length then s.download c idx sub (first.take size)
  else match odRow? idx sub with
    | none => s.usdoReply c (BitVec.ofNat 32 (absent idx)) []
    | some r => if r.bytes ≠ size then s.usdoReply c (BitVec.ofNat 32 abortLength) []
      else (s.setTransfer c (some (odKey idx sub, first, false))).usdoReply c 0 []

/-- An initiate request; an open transfer is aborted with the general error first (R284). -/
def State.usdoInitiate (s : State) (c : Fin 2) (req : UsdoReq) : State :=
  let s := if (s.can c).transfer.isSome then (s.setTransfer c none).usdoReply c (BitVec.ofNat 32 abortGeneral) [] else s
  match req with
  | .upload idx sub => s.upload c idx.toNat sub.toNat
  | .download idx sub size first => s.startDownload c idx.toNat sub.toNat size first
  | .badSpecifier => s.usdoReply c 0x05040001 []

/-- The next bytes of the open transfer; without one the specifier is not valid (R284). -/
def State.usdoSegment (s : State) (c : Fin 2) (data : List Byte) (last : Bool) : State :=
  match (s.can c).transfer with
  | none => s.usdoReply c 0x05040001 []
  | some (key, bytes, true) =>
    (s.setTransfer c (if bytes.length ≤ usdoNext then none else some (key, bytes.drop usdoNext, true))).usdoReply c 0 (bytes.take usdoNext)
  | some (key, bytes, false) =>
    if last then (s.setTransfer c none).download c (key / 256) (key % 256) (bytes ++ data)
    else (s.setTransfer c (some (key, bytes ++ data, false))).usdoReply c 0 []

/-- USDO_INITIATE (R284). -/
def execUsdoInitiate (c : Fin 2) (req : UsdoReq) (s : State) : Result := runLive (fun s => s.usdoInitiate c req) s

/-- USDO_SEGMENT (R284). -/
def execUsdoSegment (c : Fin 2) (data : List Byte) (last : Bool) (s : State) : Result :=
  runLive (fun s => s.usdoSegment c data last) s

/-- USDO_SEGMENT_TIMEOUT (R284). -/
def execUsdoSegmentTimeout (c : Fin 2) (s : State) : Result :=
  runLive (fun s =>
    if (s.can c).transfer.isSome then (s.setTransfer c none).usdoReply c 0x05040000 [] else s) s

/-! ## Received frames (R276, R282, R298) -/

/-- An NMT command: its specifier and the node it names (CiA 301, log 20). -/
def State.nmtIn (s : State) : List Byte → State
  | cmd :: node :: _ =>
    if cmd = 1 then s.nmtStart node
    else if cmd = 2 then s.nmtStop node
    else if cmd = 128 then s.nmtPreop node
    else if cmd = 129 ∨ cmd = 130 then s.nmtReset node
    else s
  | _ => s

/-- The frame is a drive's: statusword, then position (R357). -/
def State.driveIn (s : State) (ident : Nat) (data : List Byte) : State :=
  (List.range 8).foldl (fun (s : State) a =>
    if s.axisNode a ≠ 0 ∧ ident = 0x280 + s.axisNode a ∧ 6 ≤ data.length then
      s.driveFrame a (leNat (data.take 2)) (leNat ((data.drop 2).take 4))
    else s) s

/-- The RPDOs of a controller whose identifier a frame carries. -/
def State.rpdosIn (s : State) (c ident : Nat) (data : List Byte) : State :=
  (List.range 32).foldl (fun (s : State) n =>
    if s.rpdoCan n = c ∧ s.obj (0x1400 + n) 1 % 2048 = ident then s.rpdoIn n data else s) s

/-- A frame with the USDO request identifier (R284). -/
def State.usdoIn (s : State) (c : Fin 2) (data : List Byte) : State :=
  match Config.usdoRequest data with
  | some (.initiate req) => s.usdoInitiate c req
  | some (.segment bytes last) => s.usdoSegment c bytes last
  | none => s

/-- A frame is dispatched by its identifier (R276, R284; log 90). The counter byte of a SYNC is its first. -/
def State.dispatchFrame (s : State) (c : Fin 2) (f : CanFrame) : State :=
  let ident := f.ident.toNat
  if ident = 0 then s.nmtIn f.data
  else if ident = s.obj 0x1005 0 % 2048 then s.syncIn c (f.data.headD 0).toNat
  else if ident = 0x600 + s.nodeId then s.usdoIn c f.data
  else
    let s := s.rpdosIn c ident f.data
    if c = 0 then s.driveIn ident f.data else s

/-- CAN_FRAME_RECEIVED (R276, R280, R298): 29-bit identifiers and remote frames are ignored; any frame keeps the bus from being quiet and
counts as received without error. -/
def execCanFrameReceived (c : Fin 2) (frame : CanFrame) (t : Nat) (s : State) : Result :=
  runLive (fun s => let s := (s.clock t)
    if (s.can c).off || (s.can c).state = .asleep then s
    else
      let s := (s.receivedWell c).busActive c
      if frame.ext || frame.remote then s
      else (s.wakeCheck c frame.ident.toNat).dispatchFrame c frame) s

end Sys2Proof.Machine
end

