-- ==== Sys2Proof/Machine/Dispatch.lean ====
section
/-!
DEFINITION. What each command does: one arm per row of the table (spec/opcode_table.json), one meaning per arm.
-/
namespace Sys2Proof.Machine

def exec (i : Instr) (s : State) : Host.Outcome State Fault Refusal :=
  match i with
  | .bell t stuck upsets => Sys2Proof.Machine.execBell t stuck upsets s
  | .recoveryStep => Sys2Proof.Machine.execRecoveryStep s
  | .bellOrphaned t => Sys2Proof.Machine.execBellOrphaned t s
  | .maintenanceSlotOpen t => Sys2Proof.Machine.execMaintenanceSlotOpen t s
  | .pmbusPoll faults => Sys2Proof.Machine.execPmbusPoll faults s
  | .vddCoreReadback mv => Sys2Proof.Machine.execVddCoreReadback mv s
  | .overrunGuard t => Sys2Proof.Machine.execOverrunGuard t s
  | .commit binding t => Sys2Proof.Machine.execCommit binding t s
  | .mandibleCmdOff ch setpoint hold => Sys2Proof.Machine.execMandibleCmdOff ch setpoint hold s
  | .mandibleCmdStart ch setpoint hold => Sys2Proof.Machine.execMandibleCmdStart ch setpoint hold s
  | .mandibleCmdUpdate ch setpoint hold => Sys2Proof.Machine.execMandibleCmdUpdate ch setpoint hold s
  | .mandibleCmdReverse ch setpoint hold => Sys2Proof.Machine.execMandibleCmdReverse ch setpoint hold s
  | .mandibleCmdArm ch setpoint hold => Sys2Proof.Machine.execMandibleCmdArm ch setpoint hold s
  | .angleEventArm x0 position width => Sys2Proof.Machine.execAngleEventArm x0 position width s
  | .angleEventDisarm d => Sys2Proof.Machine.execAngleEventDisarm d s
  | .bellMarkerReceived port m crcOk errNs => Sys2Proof.Machine.execBellMarkerReceived port m crcOk errNs s
  | .bellInEdge widthNs errNs t => Sys2Proof.Machine.execBellInEdge widthNs errNs t s
  | .bellInLoss => Sys2Proof.Machine.execBellInLoss s
  | .bellInStartTimeout t => Sys2Proof.Machine.execBellInStartTimeout t s
  | .bellOutPulseEnd => Sys2Proof.Machine.execBellOutPulseEnd s
  | .loadFromStaging p => Sys2Proof.Machine.execLoadFromStaging p s
  | .loadFromBootFlash p => Sys2Proof.Machine.execLoadFromBootFlash p s
  | .planStop p => Sys2Proof.Machine.execPlanStop p s
  | .memberImageReceived image => Sys2Proof.Machine.execMemberImageReceived image s
  | .planVerificationDone rejected t => Sys2Proof.Machine.execPlanVerificationDone rejected t s
  | .tileCmdQuarantine p => Sys2Proof.Machine.execTileCmdQuarantine p s
  | .tileCmdReadmit p => Sys2Proof.Machine.execTileCmdReadmit p s
  | .tileCmdOutOfService p => Sys2Proof.Machine.execTileCmdOutOfService p s
  | .readmissionSelfTestDone tile pass => Sys2Proof.Machine.execReadmissionSelfTestDone tile pass s
  | .readmissionScrubDone tile => Sys2Proof.Machine.execReadmissionScrubDone tile s
  | .readmissionLoadDone tile => Sys2Proof.Machine.execReadmissionLoadDone tile s
  | .partitionRebuilt p => Sys2Proof.Machine.execPartitionRebuilt p s
  | .recordCompletion tile cycle => Sys2Proof.Machine.execRecordCompletion tile cycle s
  | .nop tile cycle => Sys2Proof.Machine.execNop tile cycle s
  | .loop tile cycle => Sys2Proof.Machine.execLoop tile cycle s
  | .mma tile cycle => Sys2Proof.Machine.execMma tile cycle s
  | .mmaSblk tile cycle => Sys2Proof.Machine.execMmaSblk tile cycle s
  | .mmaScoo tile cycle => Sys2Proof.Machine.execMmaScoo tile cycle s
  | .convw tile cycle => Sys2Proof.Machine.execConvw tile cycle s
  | .mmaGate tile cycle => Sys2Proof.Machine.execMmaGate tile cycle s
  | .vadd tile cycle => Sys2Proof.Machine.execVadd tile cycle s
  | .vsub tile cycle => Sys2Proof.Machine.execVsub tile cycle s
  | .vmul tile cycle => Sys2Proof.Machine.execVmul tile cycle s
  | .vfma tile cycle => Sys2Proof.Machine.execVfma tile cycle s
  | .vmax tile cycle => Sys2Proof.Machine.execVmax tile cycle s
  | .vmin tile cycle => Sys2Proof.Machine.execVmin tile cycle s
  | .vscale tile cycle => Sys2Proof.Machine.execVscale tile cycle s
  | .vcvt tile cycle => Sys2Proof.Machine.execVcvt tile cycle s
  | .vsel tile cycle => Sys2Proof.Machine.execVsel tile cycle s
  | .vabs tile cycle => Sys2Proof.Machine.execVabs tile cycle s
  | .vexp tile cycle => Sys2Proof.Machine.execVexp tile cycle s
  | .vlog tile cycle => Sys2Proof.Machine.execVlog tile cycle s
  | .vrecip tile cycle => Sys2Proof.Machine.execVrecip tile cycle s
  | .vrsqrt tile cycle => Sys2Proof.Machine.execVrsqrt tile cycle s
  | .vsigm tile cycle => Sys2Proof.Machine.execVsigm tile cycle s
  | .vtanh tile cycle => Sys2Proof.Machine.execVtanh tile cycle s
  | .rsum tile cycle => Sys2Proof.Machine.execRsum tile cycle s
  | .rmax tile cycle => Sys2Proof.Machine.execRmax tile cycle s
  | .rlse tile cycle => Sys2Proof.Machine.execRlse tile cycle s
  | .sgather tile cycle => Sys2Proof.Machine.execSgather tile cycle s
  | .smxStep tile cycle => Sys2Proof.Machine.execSmxStep tile cycle s
  | .smxMerge tile cycle => Sys2Proof.Machine.execSmxMerge tile cycle s
  | .smxFinal tile cycle => Sys2Proof.Machine.execSmxFinal tile cycle s
  | .merge tile cycle => Sys2Proof.Machine.execMerge tile cycle s
  | .ixload tile cycle => Sys2Proof.Machine.execIxload tile cycle s
  | .ixmatch tile cycle => Sys2Proof.Machine.execIxmatch tile cycle s
  | .ixclear tile cycle => Sys2Proof.Machine.execIxclear tile cycle s
  | .dcopy tile cycle => Sys2Proof.Machine.execDcopy tile cycle s
  | .msend tile cycle => Sys2Proof.Machine.execMsend tile cycle s
  | .mread tile cycle => Sys2Proof.Machine.execMread tile cycle s
  | .dsend tile cycle => Sys2Proof.Machine.execDsend tile cycle s
  | .tinc tile cycle => Sys2Proof.Machine.execTinc tile cycle s
  | .emit tile cycle => Sys2Proof.Machine.execEmit tile cycle s
  | .renorm tile cycle => Sys2Proof.Machine.execRenorm tile cycle s
  | .fmap tile cycle => Sys2Proof.Machine.execFmap tile cycle s
  | .plannedFlitArrival e rep part parity epoch displaced => Sys2Proof.Machine.execPlannedFlitArrival e rep part parity epoch displaced s
  | .tallyIncrementArrival tally arrival => Sys2Proof.Machine.execTallyIncrementArrival tally arrival s
  | .mailboxDataArrival m len words => Sys2Proof.Machine.execMailboxDataArrival m len words s
  | .tallyIncrement p amount => Sys2Proof.Machine.execTallyIncrement p amount s
  | .tallyClear p => Sys2Proof.Machine.execTallyClear p s
  | .partitionResetRequest p part => Sys2Proof.Machine.execPartitionResetRequest p part s
  | .forcedRefresh c poisoned => Sys2Proof.Machine.execForcedRefresh c poisoned s
  | .counterClear p => Sys2Proof.Machine.execCounterClear p s
  | .droveCellReceived port slot cell crcOk => Sys2Proof.Machine.execDroveCellReceived port slot cell crcOk s
  | .demandBlockReceived port member word crcOk => Sys2Proof.Machine.execDemandBlockReceived port member word crcOk s
  | .linkReportReceived port report crcOk => Sys2Proof.Machine.execLinkReportReceived port report crcOk s
  | .retryRequestReceived port slots nowSlot crcOk => Sys2Proof.Machine.execRetryRequestReceived port slots nowSlot crcOk s
  | .retryCellSend port slot => Sys2Proof.Machine.execRetryCellSend port slot s
  | .probeReceived port probe crcOk => Sys2Proof.Machine.execProbeReceived port probe crcOk s
  | .flowDeadline e => Sys2Proof.Machine.execFlowDeadline e s
  | .portLockLost port => Sys2Proof.Machine.execPortLockLost port s
  | .portSignalDetected port => Sys2Proof.Machine.execPortSignalDetected port s
  | .portCmdTrain p port => Sys2Proof.Machine.execPortCmdTrain p port s
  | .portCmdTakeDown p port => Sys2Proof.Machine.execPortCmdTakeDown p port s
  | .portRetrainRetry port => Sys2Proof.Machine.execPortRetrainRetry port s
  | .probationEnd port => Sys2Proof.Machine.execProbationEnd port s
  | .domainCmdForm p => Sys2Proof.Machine.execDomainCmdForm p s
  | .domainCmdReform p => Sys2Proof.Machine.execDomainCmdReform p s
  | .formationSettled => Sys2Proof.Machine.execFormationSettled s
  | .formationTimeout => Sys2Proof.Machine.execFormationTimeout s
  | .gatewayRead p => Sys2Proof.Machine.execGatewayRead p s
  | .gatewayWrite p => Sys2Proof.Machine.execGatewayWrite p s
  | .gatewayReply p abort data => Sys2Proof.Machine.execGatewayReply p abort data s
  | .gatewayTimeout p => Sys2Proof.Machine.execGatewayTimeout p s
  | .mirrorLowWordRead p at_ => Sys2Proof.Machine.execMirrorLowWordRead p at_ s
  | .mirrorAbortRead p => Sys2Proof.Machine.execMirrorAbortRead p s
  | .memoryWindowRead p at_ len => Sys2Proof.Machine.execMemoryWindowRead p at_ len s
  | .memoryWindowWrite p at_ data ep => Sys2Proof.Machine.execMemoryWindowWrite p at_ data ep s
  | .functionLevelReset p => Sys2Proof.Machine.execFunctionLevelReset p s
  | .pcieFundamentalReset => Sys2Proof.Machine.execPcieFundamentalReset s
  | .mailboxAck p m v => Sys2Proof.Machine.execMailboxAck p m v s
  | .mailboxView p m => Sys2Proof.Machine.execMailboxView p m s
  | .csiFrameStart c vc frame t => Sys2Proof.Machine.execCsiFrameStart c vc frame t s
  | .csiLineReceived c vc dataType samples crcOk t => Sys2Proof.Machine.execCsiLineReceived c vc dataType samples crcOk t s
  | .ingestCutoff => Sys2Proof.Machine.execIngestCutoff s
  | .captureDeadline c => Sys2Proof.Machine.execCaptureDeadline c s
  | .camTrigPulseEnd e => Sys2Proof.Machine.execCamTrigPulseEnd e s
  | .canFrameReceived c frame t => Sys2Proof.Machine.execCanFrameReceived c frame t s
  | .rpdoReceived n data => Sys2Proof.Machine.execRpdoReceived n data s
  | .nmtStart node => Sys2Proof.Machine.execNmtStart node s
  | .nmtStop node => Sys2Proof.Machine.execNmtStop node s
  | .nmtEnterPreoperational node => Sys2Proof.Machine.execNmtEnterPreoperational node s
  | .nmtResetNode node => Sys2Proof.Machine.execNmtResetNode node s
  | .nmtResetCommunication node => Sys2Proof.Machine.execNmtResetCommunication node s
  | .usdoInitiate c req => Sys2Proof.Machine.execUsdoInitiate c req s
  | .usdoSegment c data last => Sys2Proof.Machine.execUsdoSegment c data last s
  | .usdoSegmentTimeout c => Sys2Proof.Machine.execUsdoSegmentTimeout c s
  | .syncConsumed x => Sys2Proof.Machine.execSyncConsumed x s
  | .heartbeatProduce => Sys2Proof.Machine.execHeartbeatProduce s
  | .heartbeatConsumerTimeout k => Sys2Proof.Machine.execHeartbeatConsumerTimeout k s
  | .emcyInhibitExpiry => Sys2Proof.Machine.execEmcyInhibitExpiry s
  | .tpdoEventTimer n => Sys2Proof.Machine.execTpdoEventTimer n s
  | .rpdoEventTimeout n => Sys2Proof.Machine.execRpdoEventTimeout n s
  | .canTxDone c ident result => Sys2Proof.Machine.execCanTxDone c ident result s
  | .canAbortCommand p c => Sys2Proof.Machine.execCanAbortCommand p c s
  | .clearErrorRegister p => Sys2Proof.Machine.execClearErrorRegister p s
  | .canBusOff c => Sys2Proof.Machine.execCanBusOff c s
  | .busOffRecoveryStart c => Sys2Proof.Machine.execBusOffRecoveryStart c s
  | .busOffRecoveryDone c => Sys2Proof.Machine.execBusOffRecoveryDone c s
  | .sleepVote p controllers => Sys2Proof.Machine.execSleepVote p controllers s
  | .sleepCancel p => Sys2Proof.Machine.execSleepCancel p s
  | .sleepQuietInstant t => Sys2Proof.Machine.execSleepQuietInstant t s
  | .sleepArmed t => Sys2Proof.Machine.execSleepArmed t s
  | .sleepPnr t => Sys2Proof.Machine.execSleepPnr t s
  | .mandibleDirectOff p ch => Sys2Proof.Machine.execMandibleDirectOff p ch s
  | .mandibleDirectStart p ch => Sys2Proof.Machine.execMandibleDirectStart p ch s
  | .mandibleDirectSafeState p ch => Sys2Proof.Machine.execMandibleDirectSafeState p ch s
  | .mandibleFaultClear p ch => Sys2Proof.Machine.execMandibleFaultClear p ch s
  | .currentSample ch mA t => Sys2Proof.Machine.execCurrentSample ch mA t s
  | .phaseEnd ch t => Sys2Proof.Machine.execPhaseEnd ch t s
  | .coilThermalUpdate ch => Sys2Proof.Machine.execCoilThermalUpdate ch s
  | .dutyUpdate ch => Sys2Proof.Machine.execDutyUpdate ch s
  | .offStateProbe ch mv t => Sys2Proof.Machine.execOffStateProbe ch mv t s
  | .onStateOpenLoad ch => Sys2Proof.Machine.execOnStateOpenLoad ch s
  | .desatBlankingEnd ch vdsMv => Sys2Proof.Machine.execDesatBlankingEnd ch vdsMv s
  | .shuntComparatorTrip ch => Sys2Proof.Machine.execShuntComparatorTrip ch s
  | .boostOvervoltage mv platformMv => Sys2Proof.Machine.execBoostOvervoltage mv platformMv s
  | .wheelEdge w t => Sys2Proof.Machine.execWheelEdge w t s
  | .toothInference w t => Sys2Proof.Machine.execToothInference w t s
  | .angleEventFire w e t => Sys2Proof.Machine.execAngleEventFire w e t s
  | .angOutPulseEnd e => Sys2Proof.Machine.execAngOutPulseEnd e s
  | .limitTransition inp high t => Sys2Proof.Machine.execLimitTransition inp high t s
  | .limitDebounceExpiry inp t => Sys2Proof.Machine.execLimitDebounceExpiry inp t s
  | .limitChatterClear inp t => Sys2Proof.Machine.execLimitChatterClear inp t s
  | .limitTripClear p inp => Sys2Proof.Machine.execLimitTripClear p inp s
  | .homingStart p a t => Sys2Proof.Machine.execHomingStart p a t s
  | .homingAbort p a => Sys2Proof.Machine.execHomingAbort p a s
  | .homingVelocityFrame a => Sys2Proof.Machine.execHomingVelocityFrame a s
  | .homingDriveFrame a status position t => Sys2Proof.Machine.execHomingDriveFrame a status position t s
  | .homingDriveTimeout a t => Sys2Proof.Machine.execHomingDriveTimeout a t s
  | .vplatSample code t => Sys2Proof.Machine.execVplatSample code t s
  | .shedStageFall t => Sys2Proof.Machine.execShedStageFall t s
  | .comparatorATrip t => Sys2Proof.Machine.execComparatorATrip t s
  | .comparatorBTrip t => Sys2Proof.Machine.execComparatorBTrip t s
  | .railPgLost rail => Sys2Proof.Machine.execRailPgLost rail s
  | .railFailureRetry => Sys2Proof.Machine.execRailFailureRetry s
  | .railSequenceStep => Sys2Proof.Machine.execRailSequenceStep s
  | .powerDownStep => Sys2Proof.Machine.execPowerDownStep s
  | .wakePgTimeout => Sys2Proof.Machine.execWakePgTimeout s
  | .wakeReferenceTimeout => Sys2Proof.Machine.execWakeReferenceTimeout s
  | .wakeAttemptRetry => Sys2Proof.Machine.execWakeAttemptRetry s
  | .referenceValid => Sys2Proof.Machine.execReferenceValid s
  | .thermalSample sensor reading => Sys2Proof.Machine.execThermalSample sensor reading s
  | .thermalTrip sensor reading => Sys2Proof.Machine.execThermalTrip sensor reading s
  | .tripCooldownEnd => Sys2Proof.Machine.execTripCooldownEnd s
  | .flowUpdate inletCenti outletCenti t => Sys2Proof.Machine.execFlowUpdate inletCenti outletCenti t s
  | .coolantFlowLow => Sys2Proof.Machine.execCoolantFlowLow s
  | .coldReset vddAux => Sys2Proof.Machine.execColdReset vddAux s
  | .supplySwitch vddAuxMv vstoreMv => Sys2Proof.Machine.execSupplySwitch vddAuxMv vstoreMv s
  | .storeCutoff => Sys2Proof.Machine.execStoreCutoff s
  | .storeRelease => Sys2Proof.Machine.execStoreRelease s
  | .storeLowWarning => Sys2Proof.Machine.execStoreLowWarning s
  | .storeOvercurrent => Sys2Proof.Machine.execStoreOvercurrent s
  | .pvMpptSample vocMv harvestedUw => Sys2Proof.Machine.execPvMpptSample vocMv harvestedUw s
  | .chrInterfaceLocked vddAuxMv => Sys2Proof.Machine.execChrInterfaceLocked vddAuxMv s
  | .chrysalisStatusRead p auxGood10ms => Sys2Proof.Machine.execChrysalisStatusRead p auxGood10ms s
  | .calendarWrite p value => Sys2Proof.Machine.execCalendarWrite p value s
  | .calendarCarry => Sys2Proof.Machine.execCalendarCarry s
  | .crystalFault => Sys2Proof.Machine.execCrystalFault s
  | .crystalRecovered => Sys2Proof.Machine.execCrystalRecovered s
  | .windowFreezeLatch read => Sys2Proof.Machine.execWindowFreezeLatch read s
  | .windowFreezeRelease => Sys2Proof.Machine.execWindowFreezeRelease s
  | .windowShadowExpiry => Sys2Proof.Machine.execWindowShadowExpiry s
  | .wakeSourceFire input t => Sys2Proof.Machine.execWakeSourceFire input t s
  | .powerDownComplete => Sys2Proof.Machine.execPowerDownComplete s
  | .bootRomStart flashSilent => Sys2Proof.Machine.execBootRomStart flashSilent s
  | .dmfStart reads => Sys2Proof.Machine.execDmfStart reads s
  | .lp5xTrainingDone failed => Sys2Proof.Machine.execLp5xTrainingDone failed s
  | .recoveryErase => Sys2Proof.Machine.execRecoveryErase s
  | .recoveryProgramWord => Sys2Proof.Machine.execRecoveryProgramWord s
  | .recoveryReadWord => Sys2Proof.Machine.execRecoveryReadWord s
  | .recoveryProgramKeySlot => Sys2Proof.Machine.execRecoveryProgramKeySlot s
  | .recoveryRevokeKeySlot => Sys2Proof.Machine.execRecoveryRevokeKeySlot s
  | .recoveryRestart => Sys2Proof.Machine.execRecoveryRestart s
  | .sniffSlot activity t => Sys2Proof.Machine.execSniffSlot activity t s
  | .radioRxIdleTimeout t => Sys2Proof.Machine.execRadioRxIdleTimeout t s
  | .radioFrameReceived f t => Sys2Proof.Machine.execRadioFrameReceived f t s
  | .radioWakeRequest source rssi t => Sys2Proof.Machine.execRadioWakeRequest source rssi t s
  | .radioHaltRequest source rssi => Sys2Proof.Machine.execRadioHaltRequest source rssi s
  | .radioLocate source rssi ackReq => Sys2Proof.Machine.execRadioLocate source rssi ackReq s
  | .radioAckSend t => Sys2Proof.Machine.execRadioAckSend t s
  | .statusBeaconSend t => Sys2Proof.Machine.execStatusBeaconSend t s
  | .faultBeaconTimer t => Sys2Proof.Machine.execFaultBeaconTimer t s
  | .networkKeyWrite p key => Sys2Proof.Machine.execNetworkKeyWrite p key s
  | .logClear p => Sys2Proof.Machine.execLogClear p s
  | .indirectRead p => Sys2Proof.Machine.execIndirectRead p s
  | .indirectWrite p => Sys2Proof.Machine.execIndirectWrite p s
  | .odWrite p path => Sys2Proof.Machine.execOdWrite p path s
  | .referenceClockFailure => Sys2Proof.Machine.execReferenceClockFailure s
  | .desatComparatorTrip ch highSide => Sys2Proof.Machine.execDesatComparatorTrip ch highSide s
  | .storeSwitchReclose => Sys2Proof.Machine.execStoreSwitchReclose s
  | .flow0Edge t => Sys2Proof.Machine.execFlow0Edge t s
  | .dramRefreshRateChange c higher => Sys2Proof.Machine.execDramRefreshRateChange c higher s
  | .canBusError c tec rec => Sys2Proof.Machine.execCanBusError c tec rec s
  | .chargeTargetReached => Sys2Proof.Machine.execChargeTargetReached s
  | .chargeResume => Sys2Proof.Machine.execChargeResume s
  | .chargeTemperatureWindow ntcTenths => Sys2Proof.Machine.execChargeTemperatureWindow ntcTenths s
  | .tegBoosterThreshold mv => Sys2Proof.Machine.execTegBoosterThreshold mv s
  | .vchgPresenceChange present => Sys2Proof.Machine.execVchgPresenceChange present s
  | .radioStatusRead p => Sys2Proof.Machine.execRadioStatusRead p s
  | .storeStatusRead p => Sys2Proof.Machine.execStoreStatusRead p s

end Sys2Proof.Machine
end

