-- ==== Sys2Proof/Safety.lean ====
section
/-!
DEFINITION. What counts as a safe run, in the terms that the statements use: a step that goes on, and a state that holds no
event back and whose memories are in canonical form.
-/
namespace Sys2Proof.Machine

/-- The command goes on: neither a fault nor a refusal. -/
def Completes (r : Result) : Prop := ∃ t, r = .next t

/-- No event of an earlier command waits to be logged (R313). -/
def State.Settled (s : State) : Prop := s.events = []

/-- Entry `e` was logged on the way from `s` to `t`: the log of `t` is that of `s` with further entries, `e` among them. -/
def State.Logged (s t : State) (e : LogEntry) : Prop :=
  ∃ es : List LogEntry, e ∈ es ∧ t.log = es.foldl EventLog.add s.log

/-- Every memory of the device is in canonical form. -/
def State.MemoryOk (s : State) : Prop :=
  s.mem.mailbox.wf emptyByte = true ∧ s.mem.lp5x.wf emptyByte = true
    ∧ ∀ k : Fin 256, (s.tiles[k].sram).wf emptyByte = true

/-- The cycle from which a record may issue that nothing in flight concerns: its planned cycle, a cycle after the issue before it, and when
its units accept it (R92). -/
def Sequencer.free (q : Sequencer) (r : OpRecord) (units : List Nat) : Nat :=
  ([q.planned r] ++ (q.lastIssue.map (fun c => c + 1)).toList ++ units.map (fun u => (assocGet u q.busy).getD 0)).foldl max 0

/-- Record `r` is the tile's next one, in context `c`, an operation of the given opcode on the given units, and the cycle is its issue
cycle: DMF runs, the tile and the record's partition run, no earlier record is in flight or completed later than the cycle from which it
may issue, and it issues at that cycle, or with WAIT set twelve cycles after its tally's reach (R92, R93, R96; log 171). -/
def State.Free (s : State) (k : TileNo) (cycle opcode : Nat) (units : List Nat) (c : RecordCtx) (r : OpRecord) : Prop :=
  s.live = true ∧ s.nextRecord k = some (c, r) ∧ r.opcode = opcode ∧ s.tileRuns k = true ∧ s.partRuns r.part = true
  ∧ (s.tile k).seq.inFlight = []
  ∧ (∀ f ∈ (s.tile k).seq.past, f.done ≤ (s.tile k).seq.free r units)
  ∧ s.issueCycle cycle ((s.tile k).seq.free r units) r = true

/-- Partition `p` may read operand `d` in tile `k`, and every word of it is intact (R68, R172). -/
def State.Clean (s : State) (k : TileNo) (p : Nat) (d : Desc) : Prop :=
  (s.tile k).allowsDesc p false d = true ∧ ∀ w, w ∈ d.words ∨ w ∈ d.fetched → (s.tile k).sram.mark w = none

/-- Nothing but this happens when a record issues: the sequencer moves past it, its units are taken for the occupancy, and its result
waits in flight (R92, R94). -/
def State.issued (s : State) (k : TileNo) (cycle : Nat) (units : List Nat) (occ : Nat) (f : InFlight) : State :=
  { s with out := [], events := [] }.onTile k (fun x => { x with
    seq := { x.seq.advance cycle { units := units, occ := occ, depth := 0 } none with inFlight := x.seq.inFlight ++ [f] } })

/-- A state that a settled block can be in between two commands. -/
def State.Inv (s : State) : Prop := s.Settled

end Sys2Proof.Machine
end

