-- ==== Sys2Proof/Certificates/Slice0/Obligations.lean ====
section
/-!
DEFINITION. The statements about the block, chapter by chapter: for each family of commands the next state it answers, what it
leaves as it was, and where it is refused or has no effect; and what every step keeps.
-/
open Sys2Proof Sys2Proof.Machine

/-! ### The block as a machine: steps, reset, the log's order, the calendar's years -/

/-- One step takes the command at the front of the queue and carries it out with the rest waiting; an empty queue idles (the model's
choice, log 51). -/
def Obligations.StepTakesTheFrontCommand : Prop :=
  ∀ s : State,
    (∀ (c : Instr) (cs : List Instr), s.pending = c :: cs → step s = exec c { s with pending := cs })
    ∧ (s.pending = [] → step s = .next s)
    ∧ (∀ c : Instr, step { s with pending := c :: s.pending } = exec c s)
    -- no row of the table gives bits: a word spells no command
    ∧ (∀ nbits w : Nat, s.withFetchWord nbits w = s)

/-- The state after a cold reset: the invariant holds, the log is empty (R313), the bell is STOPPED at 0 without a plan (Table BELL-7,
R48), the island is WAKING (R414), and every stored object of the dictionary shows the table's default (R8). Memory lists nothing; what
that reads as is the model's choice (log 3). -/
def Obligations.ResetHoldsTheInvariant : Prop :=
  State.reset.Inv ∧ State.reset.MemoryOk ∧ State.reset.pending = []
  ∧ State.reset.log = {} ∧ State.reset.bell.state = .stopped ∧ State.reset.bell.count = 0
  ∧ State.reset.plan.plan = none ∧ State.reset.plan.status = 0 ∧ State.reset.running = false
  ∧ State.reset.island.state = .waking ∧ State.reset.boot.phase = .off
  -- the defaults of the dictionary's table; those of the COB-IDs follow the node-ID, 64 at reset
  ∧ (∀ idx sub : Nat, ∀ r, odRow? idx sub = some r →
      ¬ (idx = 0x1014 ∨ (sub = 1 ∧ (0x1400 ≤ idx ∧ idx ≤ 0x141F ∨ 0x1800 ≤ idx ∧ idx ≤ 0x181F))) →
      State.reset.obj idx sub = r.dflt ∧ State.reset.objW idx sub = r.dflt)
  ∧ State.reset.nodeId = 64 ∧ State.reset.obj 0x1014 0 = 0x80 + 64
  ∧ (∀ k : Fin 4, State.reset.obj (0x1400 + k) 1 = 0x200 + 0x100 * k + 64 ∧ State.reset.obj (0x1800 + k) 1 = 0x180 + 0x100 * k + 64)
  ∧ (∀ k < 28, State.reset.obj (0x1404 + k) 1 = 0x80000000 ∧ State.reset.obj (0x1804 + k) 1 = 0x80000000)
  -- some of those values as the spec writes them
  ∧ State.reset.obj 0x2100 1 = 2500 ∧ State.reset.obj 0x2100 2 = 100 ∧ State.reset.obj 0x2210 2 = 7 ∧ State.reset.obj 0x2210 5 = 200
  ∧ State.reset.obj 0x2210 6 = 95000 ∧ State.reset.obj 0x2300 0x24 = 64 ∧ State.reset.obj 0x2B20 0 = 0

/-- What every step keeps: no event of the command waits unlogged (R313), the commands behind the one taken wait as they were, and what a
step put out belongs to that command alone. -/
def Obligations.EveryStepKeepsTheInvariantAndTheQueue : Prop :=
  ∀ s t : State, s.Inv → step s = .next t →
    t.Inv ∧ t.pending = s.pending.tail
    ∧ (∀ c cs (o : List Output), s.pending = c :: cs →
        step { s with out := o } = .next t)

/-- No command is refused, and every command answers a next state but a voltage beyond the absolute maximum ratings, where R453 promises
no rule. -/
def Obligations.EveryCommandCompletesWithinTheRatings : Prop :=
  ∀ (c : Instr) (s : State),
    (∀ r : Refusal, exec c s ≠ .refused r)
    ∧ (Completes (exec c s) ∨ exec c s = .fault .absoluteMaximum)
    ∧ (exec c s = .fault .absoluteMaximum ↔
        (∃ a v, c = .supplySwitch a v ∧ (3800 < a ∨ 4500 < v)) ∨ (∃ v h, c = .pvMpptSample v h ∧ 5500 < v)
        ∨ (∃ v, c = .tegBoosterThreshold v ∧ 1000 < v) ∨ (∃ ch a t, c = .offStateProbe ch a t ∧ (70000 < a.sh ∨ 70000 < a.dl))
        ∨ (∃ v p, c = .boostOvervoltage v p ∧ 70000 < v))

/-- R312, R313: events of one instant are logged in ascending code, then ascending source; entry c since the last clear lies at place c
mod 64 and in the copy; both counts go up by one an entry; a clear leaves the count since cold reset. -/
def Obligations.EventsOfOneInstantAreLoggedInOrder : Prop :=
  (∀ s : State, ∃ es : List LogEntry, s.settle.log = es.foldl EventLog.add s.log ∧ es.Perm s.events
      ∧ es.Pairwise (fun a b => a.code < b.code ∨ (a.code = b.code ∧ a.source ≤ b.source)) ∧ s.settle.events = [])
  ∧ (∀ (g : EventLog) (e : LogEntry), ∀ g', g' = g.add e →
      vget g'.entries (g.sinceClear.toNat % 64) {} = e ∧ g'.last = e
      ∧ (∀ k : Fin 64, k.val ≠ g.sinceClear.toNat % 64 → vget g'.entries k {} = vget g.entries k {})
      ∧ g'.sinceClear = g.sinceClear + 1 ∧ g'.sinceReset = g.sinceReset + 1)
  ∧ (∀ (s : State) (p : Principal), s.live = true → s.warden p = true →
      ∃ t, exec (.logClear p) s = .next t
        ∧ (∀ k : Fin 64, vget t.log.entries k {} = {}) ∧ t.log.last = {} ∧ t.log.sinceClear = 0
        ∧ t.log.sinceReset = s.log.sinceReset)

/-- The canonical form of every memory of the device, tile SRAM, mailbox SRAM and LP5X, is kept by every step (08, Ground: a word is
data or poison, and what nothing has written is listed nowhere). -/
def Obligations.EveryStepKeepsMemoryCanonical : Prop :=
  ∀ s t : State, s.MemoryOk → step s = .next t → t.MemoryOk

/-- R61. -/
def Obligations.PowerGovernorDemandsTheRichestThatFits : Prop :=
  ∀ (s : State) (p : Plan), s.plan.plan = some p → ∀ k, k = s.powerDemand →
    -- the richest present tier that fits
    ((∃ j < 8, (p.tier? j).any (fun t => t.entry.peakMw ≤ s.obj 0x2210 6) = true) →
      (p.tier? k).any (fun t => t.entry.peakMw ≤ s.obj 0x2210 6) = true
      ∧ ∀ j < k, (p.tier? j).any (fun t => t.entry.peakMw ≤ s.obj 0x2210 6) = false)
    -- none qualifies
    ∧ ((∀ j < 8, (p.tier? j).any (fun t => t.entry.peakMw ≤ s.obj 0x2210 6) = false) → k = 7)

/-- R405: the calendar's leap years and the lengths of their Februaries; the year field holds the year minus 2000. -/
def Obligations.LeapYearsFollowTheGregorianRule : Prop :=
  (∀ year Y : Nat, Y = 2000 + year →
    (leapYear year = true ↔ (Y % 4 = 0 ∧ (Y % 100 = 0 → Y % 400 = 0))))
  ∧ leapYear 0 = true ∧ leapYear 100 = false ∧ leapYear 200 = false ∧ leapYear 300 = false

/-! ### The bell, the tick, plans and tiers (01, 02) -/

/-- R2, R16, R22, R23, R25, R36, R47, R53, R54, R57, R73, Table BELL-3: what a bell does on a standalone device or a bellwether. -/
def Obligations.BellCountsSwitchesAndStartsTheTick : Prop :=
  ∀ (s : State) (now : Nat), s.live = true →
    (s.plan.plan = none →
        exec (.bell now [] []) s = .next { s with out := [], events := [], now := now }
        -- a flipped bit between two reads: corrected later, or uncorrectable
        ∧ (∀ u : Upset, (s.memory u.memory).mark u.word = none → exec (.bell now [] [u]) s
            = .next ({ s with out := [], events := [], now := now }.onMemory u.memory (fun m =>
                m.setMark u.word (some (if u.double then .uncorrectable else .correctable))))))
    ∧ (∀ p, s.plan.plan = some p → s.bell.state = .source → s.role ≠ .member →
        -- an ordinary bell
        (∀ e, e = s.plan.effective → s.restartDue = none → s.plan.stopAt = none →
          ∃ t, exec (.bell now [] []) s = .next t
            ∧ t.bell.count = s.bell.count + 1 ∧ t.bell.at_ = now ∧ t.now = now ∧ t.bell.state = .source
            ∧ t.plan.plan = some p ∧ t.plan.status = s.plan.status ∧ t.plan.running = s.plan.running
            ∧ t.bell.out = bitOf (t.obj 0x2100 8) 0
            -- the tick that ended: counted, its partitions restart, its cells, flits and data are gone
            ∧ (∀ k : Fin 256, (t.tile k).seq = {})
            ∧ t.mesh.transfers = [] ∧ t.mesh.replies = [] ∧ t.mesh.emitted = [] ∧ t.mesh.carried = s.mesh.emitted
            ∧ t.mesh.carriedTier = some e ∧ t.drove.cells = [] ∧ t.drove.delivered = []
            ∧ (∀ q : Fin 8, (t.port q).sentCells = [] ∧ (t.port q).requests = [] ∧ (t.port q).asking = [])
            ∧ (∀ q : Fin 32, ∀ x, x = vget s.parts q {} → x.resetRequest = false → x.resetting = false →
                (vget t.parts q {}).overrun = false ∧ (vget t.parts q {}).failed = false
                ∧ (vget t.parts q {}).prevBad = (x.overrun || x.failed)
                ∧ (vget t.parts q {}).completed = if s.ticks q && !(x.overrun || x.failed) then x.completed + 1 else x.completed)
            -- step 2: the tier
            ∧ (s.plan.fastPath = false → s.plan.raiseFailed = none →
                (s.plan.pending = none → t.plan.effective = e ∧ ∀ q : Fin 32, s.ticks q = true → (vget s.parts q {}).overrun = false →
                  (vget s.parts q {}).failed = false → (vget t.parts q {}).overruns = 0)
                ∧ (∀ w, s.plan.pending = some w → e = s.plan.domainTier →
                    (s.bell.count.toNat + 1 < w.bell → t.plan.effective = e ∧ t.plan.lastSwitch = s.plan.lastSwitch)
                    ∧ (w.bell = s.bell.count.toNat + 1 → s.bell.count.toNat + 1 < 2 ^ 64 →
                        t.plan.effective = w.tier ∧ t.plan.domainTier = w.tier ∧ t.plan.lastSwitch = s.bell.count.toNat + 1
                        ∧ s.Logged t { code := 0x1010, source := w.cause, detail := e * 256 + w.tier, count := s.bell.count + 1 }
                        ∧ (∀ q : Fin 32, (vget t.parts q {}).overruns = 0))))
            -- the fast path of stage 5: tier 7 without notice, cause 6
            ∧ (s.plan.fastPath = true →
                t.plan.effective = p.resolve 7
                ∧ s.Logged t { code := 0x1010, source := 6, detail := e * 256 + p.resolve 7, count := s.bell.count + 1 }))
        -- a stop that is due
        ∧ (∀ b, s.plan.stopAt = some b → b ≤ s.bell.count.toNat + 1 → s.restartDue = none → s.bell.count.toNat + 1 < 2 ^ 64 →
            s.plan.reformAfterStop = false →
            ∃ t, exec (.bell now [] []) s = .next t
              ∧ t.bell.state = .stopped ∧ t.plan.plan = none ∧ t.plan.running = false ∧ t.plan.status = 0 ∧ t.plan.effective = 0
              ∧ t.plan.safe = true
              ∧ (∀ k : Fin 256, (t.tile k).mode ≠ .active ∧ (t.tile k).mode ≠ .gatedRetain)
              ∧ (∀ k : Fin 256, (s.tile k).requests = [] →
                  (s.tile k).mode = .quarantined ∨ ((s.tile k).mode = .testing ∧ (s.tile k).rebuild ≠ .aligned) →
                  (t.tile k).mode = (s.tile k).mode))
        -- a restart that is due
        ∧ (∀ c, s.restartDue = some c → s.plan.stopAt = none →
            ∃ t, exec (.bell now [] []) s = .next t
              ∧ t.bell.count = 0 ∧ t.bell.at_ = now ∧ (s.drove.readmit = [] → t.bell.restart = none)
              ∧ s.Logged t { code := 0x1004, source := 0x1FF, detail := c, count := 0 }
              ∧ (∀ q : Fin 32, (vget t.parts q {}).completed = 0)))

/-- R12, R26 to R30, R228, R229, R242: a member follows markers, holds over, is orphaned; the bellwether's reference; BELL_IN and
BELL_OUT (R31 to R34). -/
def Obligations.MembersFollowMarkersOrAreOrphaned : Prop :=
  ∀ (s : State) (now : Nat), s.live = true →
    (∀ p, s.plan.plan = some p → s.role = .member → s.restartDue = none → s.plan.stopAt = none →
      ∀ src, src = 0x100 + (s.bell.primary.map (fun q => q.val)).getD 0 →
      (s.bell.state = .locked → s.bell.missed < 8 → s.bell.markerSeen = true →
        ∃ t, exec (.bell now [] []) s = .next t
          ∧ t.bell.state = .locked ∧ t.bell.count = s.bell.count + 1 ∧ t.bell.markerSeen = false ∧ t.bell.missed = s.bell.missed)
      ∧ (s.bell.state = .locked → s.bell.missed < 8 → s.bell.markerSeen = false → s.bell.heldMarkers = [] →
        ∃ t, exec (.bell now [] []) s = .next t
          ∧ t.bell.state = .holdover ∧ t.bell.count = s.bell.count + 1 ∧ t.bell.missed = s.bell.missed + 1
          ∧ s.Logged t { code := 0x1002, source := src, detail := 0, count := s.bell.count + 1 })
      ∧ (s.bell.state = .holdover → s.bell.missed < 8 → s.bell.markerSeen = false → s.bell.heldMarkers = [] →
        ∃ t, exec (.bell now [] []) s = .next t
          ∧ t.bell.state = .holdover ∧ t.bell.count = s.bell.count + 1 ∧ t.bell.missed = s.bell.missed + 1)
      -- a marker of another port than the primary counts at the bell, when none of the primary has come (R229)
      ∧ (∀ (q : PortNo) (m : Marker) (err : Int), s.bell.heldMarkers = [(q, m, err)] → m.stop = false → m.restart = false →
          s.bell.state = .locked → s.bell.missed < 8 → s.bell.markerSeen = false →
          ∃ t, exec (.bell now [] []) s = .next t
            ∧ t.bell.state = .locked ∧ t.bell.count = s.bell.count + 1 ∧ t.bell.missed = 0 ∧ t.bell.markerPort = some q
            ∧ t.bell.phaseNs = s.bell.phaseNs + err ∧ t.bell.heldMarkers = [])
      ∧ (∀ c ∈ [Instr.bell now [] [], .bellOrphaned now], s.bell.state = .holdover → s.bell.missed = 8 →
        ∃ t, exec c s = .next t
          ∧ t.bell.state = .orphaned ∧ t.bell.count = s.bell.count + 1 ∧ t.plan.safe = true ∧ t.plan.effective = p.resolve 7
          ∧ t.plan.pending = none
          ∧ s.Logged t { code := 0x1003, source := src, detail := 0, count := s.bell.count + 1 })
      ∧ (s.bell.missed ≠ 8 → s.bell.missed < 8 → exec (.bellOrphaned now) s = .next { s with out := [], events := [] })
      -- markers
      ∧ (∀ (q : PortNo) (m : Marker) (err : Int), (s.port q).mode = .eligible → (s.bell.state = .locked ∨ s.bell.state = .holdover) →
        (m.count.toNat ≠ (s.bell.count.toNat + 1) % 2 ^ 32 ∨ 40 < err.natAbs →
          exec (.bellMarkerReceived q m true err) s = .next { s with out := [], events := [] })
        -- of another port than the primary it waits for the predicted instant (R229)
        ∧ (m.count.toNat = (s.bell.count.toNat + 1) % 2 ^ 32 → err.natAbs ≤ 40 → s.bell.missed < 8 → s.bell.markerSeen = false →
          ∀ r : PortNo, s.bell.primary = some r → r ≠ q →
          exec (.bellMarkerReceived q m true err) s = .next { s with
            out := [], events := []
            bell := { s.bell with heldMarkers := s.bell.heldMarkers.filter (fun h => h.1 ≠ q) ++ [(q, m, err)] } })
        ∧ (m.count.toNat = (s.bell.count.toNat + 1) % 2 ^ 32 → err.natAbs ≤ 40 → s.bell.missed < 8 → s.bell.markerSeen = false →
          (s.bell.primary = some q ∨ s.bell.primary = none) →
          ∀ own, own = (match s.plan.pending with
            | some w => if w.bell ≤ s.bell.count.toNat + 1 then w.tier else s.plan.domainTier
            | none => s.plan.domainTier) →
          ((s.bell.state = .locked ∨ m.tier.toNat = own) →
            ∃ t, exec (.bellMarkerReceived q m true err) s = .next t
              ∧ t.bell.state = .locked ∧ t.bell.missed = 0 ∧ t.bell.markerSeen = true ∧ t.bell.markerPort = some q
              ∧ t.bell.phaseNs = s.bell.phaseNs + err ∧ t.bell.count = s.bell.count
              -- what it announces (R242)
              ∧ (m.switch = true → s.plan.pending = none →
                  ∃ w, t.plan.pending = some w ∧ w.tier = m.target.toNat ∧ w.bell = s.bell.count.toNat + 1 + m.bellsToTarget.toNat)
              ∧ (m.stop = true → t.plan.stopAt = some (s.bell.count.toNat + 1 + m.bellsToTarget.toNat) ∧ t.plan.status = 5)
              ∧ (m.restart = true → t.bell.restart = some (3, m.bellsToTarget.toNat + 1))
              -- forwarded with a hop more on every other eligible port, not beyond the eighth
              ∧ (∀ r : PortNo, r ≠ q → (s.port r).mode = .eligible →
                  (m.hops.toNat < 8 → ∃ o ∈ t.out, (match o with
                    | .marker x y => decide (x = r ∧ y.hops = m.hops + 1 ∧ y.count = m.count ∧ y.tier = m.tier)
                    | _ => false) = true))
              ∧ (8 ≤ m.hops.toNat → ∀ o ∈ t.out, (match o with
                    | .marker _ _ => false
                    | _ => true) = true)
              ∧ t.tiles = s.tiles ∧ t.mem = s.mem ∧ t.parts = s.parts ∧ t.log = s.log)
          -- a marker of another tier ends holdover in orphaning (R27)
          ∧ (s.bell.state = .holdover → m.tier.toNat ≠ own →
            ∃ t, exec (.bellMarkerReceived q m true err) s = .next t
              ∧ t.bell.state = .orphaned ∧ t.plan.safe = true
              ∧ s.Logged t { code := 0x1003, source := src, detail := 0, count := s.bell.count }))))
    ∧ (∀ (q : PortNo) (m : Marker) (err : Int), exec (.bellMarkerReceived q m false err) s = .next { s with out := [], events := [] })
    ∧ exec .referenceClockFailure s = .next { s with out := [], events := [], bell := { s.bell with refOk := false } }
    ∧ exec .bellOutPulseEnd s = .next { s with out := [], events := [], bell := { s.bell with out := false } }
    -- BELL_IN: only discipline mode, never a member
    ∧ (∀ (width : Nat) (err : Int), ∀ mode, mode = s.obj 0x2100 8 / 4 % 4 →
        (s.role = .member ∨ mode ≠ 1 ∨ width < 100 →
          exec (.bellInEdge width err now) s = .next { s with out := [], events := [], now := now })
        -- the edges of one bell move the grid by 10 ns at most
        ∧ (s.role ≠ .member → mode = 1 → 100 ≤ width → s.plan.awaitBell0 = false → s.running = true →
          ∀ step : Int, step = (if err < -10 - s.bell.inMoved then -10 - s.bell.inMoved
              else if 10 - s.bell.inMoved < err then 10 - s.bell.inMoved else err) →
          exec (.bellInEdge width err now) s
            = .next (if err.natAbs ≤ 1000 then { s with
                  out := [], events := [], now := now
                  bell := { s.bell with inSeen := true, inMissed := 0, inMoved := s.bell.inMoved + step
                                        phaseNs := s.bell.phaseNs + step } }
                else { s with out := [], events := [], now := now }))
        -- bell 0 at the first edge, or 20 × P after the verification (R33)
        ∧ (∀ p, s.plan.plan = some p → s.plan.awaitBell0 = true → s.role ≠ .member →
          (mode = 1 → 100 ≤ width → ∃ t, exec (.bellInEdge width err now) s = .next t
            ∧ t.bell.state = .source ∧ t.bell.count = 0 ∧ t.bell.at_ = now ∧ t.plan.status = 3 ∧ t.plan.running = true)
          ∧ (∃ t, exec (.bellInStartTimeout now) s = .next t
            ∧ t.bell.state = .source ∧ t.bell.count = 0 ∧ t.bell.at_ = now ∧ t.plan.status = 3 ∧ t.plan.awaitBell0 = false
            ∧ s.Logged t { code := 0x1002, source := 0x1F0, detail := 0, count := 0 })))
    ∧ (s.plan.awaitBell0 = false → exec (.bellInStartTimeout now) s = .next { s with out := [], events := [] })
    -- eight bells without an edge: logged once
    ∧ (s.role ≠ .member → s.obj 0x2100 8 / 4 % 4 = 1 → s.running = true → s.bell.inMissed = 8 →
        ∃ t, exec .bellInLoss s = .next t
          ∧ t = { s with out := t.out, events := [], log := t.log, field := t.field, bell := { s.bell with inMissed := 9 } }
          ∧ t.log = s.log.add { code := 0x1002, source := 0x1F0, detail := 0, count := s.logCount })
    ∧ (s.bell.inMissed ≠ 8 → exec .bellInLoss s = .next { s with out := [], events := [] })

/-- R56, R58, R60, R61, R63, R64, Table PLAN-11: tiers resolve to the next poorer present one; the arbitration at a bell and the
recovery step. -/
def Obligations.ArbitrationFollowsTheDemands : Prop :=
  -- R55, R59: the demands that count at a bell are those of this device and of the domain posted by then, nibble by nibble
  (∀ s : State, s.countDemands = { s with plan := { s.plan with counted := s.joinedDemands } })
  -- R58
  ∧ (∀ (p : Plan) (v : Nat), ∀ r, r = p.resolve v →
      (r = 15 ∨ (v ≤ r ∧ r < 8 ∧ (p.tier? r).isSome = true))
      ∧ (∀ k, v ≤ k → k < 8 → (p.tier? k).isSome = true → r ≤ k))
  ∧ (∀ (s : State) (p : Plan), s.bell.state = .source → ∀ target, target = p.resolve (s.rawTarget p).1 →
      -- software never gets a tier richer than a demand
      (∀ d ∈ s.obj 0x2210 1 :: s.plan.counted, d ≤ (s.rawTarget p).1)
      ∧ p.resolve ((s.obj 0x2210 1 :: s.plan.counted).getD (s.rawTarget p).2 0) = target
      ∧ (∀ k < (s.rawTarget p).2, p.resolve ((s.obj 0x2210 1 :: s.plan.counted).getD k 0) ≠ target)
      ∧ (∀ t, t = s.arbitrate p →
        -- poorer, nothing pending: announced for bell b + 2, with the lowest cause
        (s.plan.pending = none → s.bell.restart = none → s.plan.stopAt = none → s.plan.domainTier < target →
          t.plan.pending = some { tier := target, bell := s.bell.count.toNat + 2, cause := (s.rawTarget p).2 }
          ∧ (s.live = true → t.events = s.events ++ (if s.obj 0x2210 2 < target then
              [{ code := 0x1011, source := (s.rawTarget p).2, detail := target * 256 + s.obj 0x2210 2, count := s.logCount }] else [])))
        -- a pending switch: replaced by a poorer target, with the same bell
        ∧ (∀ w, s.plan.pending = some w →
            t.plan.pending = (if w.tier < target then some { w with tier := target, cause := (s.rawTarget p).2 } else some w))
        -- equal, or a restart or a stop announced: nothing
        ∧ (s.plan.pending = none → target = s.plan.domainTier ∨ s.bell.restart.isSome = true ∨ s.plan.stopAt.isSome = true →
            t.plan.pending = none)
        ∧ (s.plan.domainTier ≤ target → t.plan.belowSince = none)
        -- richer: one present tier once the dwell has passed
        ∧ (s.plan.pending = none → s.bell.restart = none → s.plan.stopAt = none → target < s.plan.domainTier →
            ∀ since : Int, since = s.plan.belowSince.getD s.bell.count.toNat →
            t.plan.belowSince = some since
            ∧ (max since s.plan.lastSwitch + (s.obj 0x2210 5 : Int) ≤ s.bell.count.toNat → ∀ k, p.richer? s.plan.domainTier = some k →
                t.plan.pending = some { tier := k, bell := s.bell.count.toNat + 2, cause := 7 })
            ∧ ((s.bell.count.toNat : Int) < max since s.plan.lastSwitch + (s.obj 0x2210 5 : Int) → t.plan.pending = none))
        ∧ t.plan.effective = s.plan.effective ∧ t.plan.domainTier = s.plan.domainTier ∧ t.bell = s.bell))
  -- the command
  ∧ (∀ (s : State) (p : Plan), s.live = true → s.plan.plan = some p → s.bell.state = .source → s.plan.pending = none →
      s.bell.restart = none → s.plan.stopAt = none → p.resolve (s.rawTarget p).1 < s.plan.domainTier →
      (∀ since k, s.plan.belowSince = some since → p.richer? s.plan.domainTier = some k →
        max since s.plan.lastSwitch + (s.obj 0x2210 5 : Int) ≤ s.bell.count.toNat →
        ∃ t, exec .recoveryStep s = .next t
          ∧ t.plan = { s.plan with pending := some { tier := k, bell := s.bell.count.toNat + 2, cause := 7 } }
          ∧ t.log = (if s.obj 0x2210 2 < k then
              s.log.add { code := 0x1011, source := 7, detail := k * 256 + s.obj 0x2210 2, count := s.logCount } else s.log)
          ∧ t = { s with out := t.out, events := [], log := t.log, field := t.field, plan := t.plan })
      ∧ (∀ since, s.plan.belowSince = some since →
          (s.bell.count.toNat : Int) < max since s.plan.lastSwitch + (s.obj 0x2210 5 : Int) →
          exec .recoveryStep s = .next { s with out := [], events := [] }))
  -- R60, R61: the power and fault governors demand the richest present tier that fits, 7 when none does
  ∧ (∀ (s : State) (p : Plan), s.plan.plan = some p →
      (∀ t, p.tier? s.powerDemand = some t → t.entry.peakMw ≤ s.obj 0x2210 6 ∨ s.powerDemand = 7)
      ∧ (∀ k < s.powerDemand, ∀ t, p.tier? k = some t → s.obj 0x2210 6 < t.entry.peakMw)
      ∧ (∀ k < s.faultDemand, ∀ t, p.tier? k = some t → s.excludesLost p t = false))

/-- R15, R17 to R25, R62, Tables BELL-4 and BELL-5: the overrun guard, commits that fire and commits that are withheld, the
maintenance slot. -/
def Obligations.GuardCommitsAndMaintenanceSlot : Prop :=
  ∀ (s : State) (now : Nat), s.live = true →
    -- the guard: an overrun partition is logged, counted, and the third in a row posts a demand of one tier below
    (s.running = true → ∃ t, exec (.overrunGuard now) s = .next t
        ∧ t.now = now ∧ t.bell = s.bell ∧ t.tiles = s.tiles ∧ t.mem = s.mem ∧ t.plan.effective = s.plan.effective
        ∧ (∀ q : Fin 32, ∀ x, x = vget s.parts q {} → ∀ n, n = (s.missing q).length →
            (s.ticks q = true → x.overrun = false → x.failed = false → n ≠ 0 →
              (vget t.parts q {}).overrun = true ∧ (vget t.parts q {}).overruns = min (x.overruns + 1) 255
              ∧ (x.overruns = 2 → min 7 (s.plan.effective + 1) ≤ t.plan.overrunDemand)
              ∧ s.Logged t { code := 0x1001, source := q, detail := n, count := s.logCount })
            ∧ (s.ticks q = true → x.overrun = false → x.failed = true →
              (vget t.parts q {}).overrun = true ∧ (vget t.parts q {}).overruns = min (x.overruns + 1) 255)
            ∧ (s.ticks q = false ∨ x.overrun = true ∨ (x.failed = false ∧ n = 0) → vget t.parts q {} = x))
        ∧ s.plan.overrunDemand ≤ t.plan.overrunDemand)
    ∧ (s.running = false → exec (.overrunGuard now) s = .next { s with out := [], events := [], now := now })
    -- every commit completes, at once
    ∧ (∀ k, ∃ t, exec (.commit k now) s = .next t
        ∧ t.now = now ∧ t.bell = s.bell ∧ t.tiles = s.tiles ∧ t.boot = s.boot ∧ t.role = s.role ∧ t.drove = s.drove
        ∧ t.power = s.power ∧ t.thermal = s.thermal ∧ t.island = s.island ∧ t.radio = s.radio)
    ∧ (∀ k, s.commitOf k = none → exec (.commit k now) s = .next { s with out := [], events := [], now := now })
    ∧ (∀ k, ∀ r, s.commitOf k = some r → r.2.2 = false → s.inTier r.1.owner = true → ∀ b, b = r.1 →
        ∀ x, x = vget s.parts b.owner {} → x.skipTick = false →
        -- without data: never withheld
        (b.source = 0xFFFF → b.kind = 6 → ∀ i, i = (s.partEntry b.owner).tallyBase + b.index →
          ∃ t, exec (.commit k now) s = .next t
          ∧ (b.index < (s.partEntry b.owner).tallyCount →
              (t.tally i).value = satAdd 32 (s.tally i).value 1
              ∧ (t.tally i).reached = ((s.tally i).reached || (decide ((s.tallyConfig i).target ≠ 0
                  ∧ (s.tally i).value.toNat < (s.tallyConfig i).target
                  ∧ (s.tallyConfig i).target ≤ (satAdd 32 (s.tally i).value 1).toNat)))
              ∧ (∀ j, j ≠ i → t.tally j = s.tally j))
          ∧ ((s.partEntry b.owner).tallyCount ≤ b.index → t = { s with out := [], events := [], now := now })
          ∧ t.parts.toList.map (fun y => y.overrun) = s.parts.toList.map (fun y => y.overrun))
        ∧ (b.source = 0xFFFF → b.kind = 4 → s.sinkBlocked b = false → b.index < 4 →
          ∃ t, exec (.commit k now) s = .next t
            ∧ (vget t.host.cameras b.index {}).held = false ∧ (vget t.host.cameras b.index {}).stale = false
            ∧ t.bell = s.bell ∧ t.tiles = s.tiles ∧ t.parts = s.parts)
        -- overrun, failed, or its data not complete: withheld, the sink keeps its value and is marked stale (R21, R22, R24)
        ∧ (b.source ≠ 0xFFFF → s.sinkBlocked b = false →
            (x.overrun = true ∨ x.failed = true ∨ s.mesh.emitted.find? (fun e => e.binding = r.2.1 && e.complete) = none) →
          ∃ t, exec (.commit k now) s = .next t
            ∧ (b.kind = 1 → b.index < 8 → (t.ch b.index) = { s.ch b.index with stale := true })
            ∧ (b.kind = 2 → t = { s with out := [], events := [], now := now })
            ∧ (b.kind = 4 → b.index < 4 → vget t.host.cameras b.index {} = { vget s.host.cameras b.index {} with stale := true })
            ∧ (b.kind = 5 → t = { s with out := [], events := [], now := now })
            ∧ (b.kind = 6 → t = { s with out := [], events := [], now := now })
            ∧ t.bell = s.bell ∧ t.tiles = s.tiles ∧ t.parts = s.parts ∧ t.tallies = s.tallies)
        -- poisoned data never act on a sink (R183)
        ∧ (∀ e, s.mesh.emitted.find? (fun e => e.binding = r.2.1 && e.complete) = some e → b.source ≠ 0xFFFF → s.sinkBlocked b = false →
            x.overrun = false → x.failed = false → x.resetting = false →
            (((s.plan.plan.bind (fun p => p.descs[b.source]?)).getD {}).dataOf e.words).2 = true →
            ∃ t, exec (.commit k now) s = .next t
              ∧ (b.kind = 4 → b.index < 4 → (vget t.host.cameras b.index {}).held = true)
              ∧ (b.kind = 5 → ∀ ev : Fin 128, ev.val ≠ b.index → t.event ev = s.event ev)
              ∧ (b.kind = 6 → t.tallies = s.tallies)
              ∧ t.bell = s.bell ∧ t.tiles = s.tiles ∧ t.parts = s.parts))
    -- the maintenance slot
    ∧ (s.running = false → exec (.maintenanceSlotOpen now) s = .next { s with out := [], events := [], now := now })
    ∧ (∀ p, s.plan.plan = some p → s.running = true →
        ∃ t, exec (.maintenanceSlotOpen now) s = .next t
          ∧ t.now = now ∧ t.bell = s.bell ∧ t.plan.effective = s.plan.effective ∧ t.plan.pending = s.plan.pending
          ∧ t.parts.toList.map (fun y => (y.overrun, y.completed)) = s.parts.toList.map (fun y => (y.overrun, y.completed))
          -- VDD_CORE covers the clock that runs and the one the next bell starts (R18)
          ∧ (∀ x, s.tier? = some x →
              x.entry.vddMv ≤ t.power.vddMv
              ∧ (s.bell.state ≠ .orphaned → s.plan.fastPath = false → s.plan.raiseFailed = none →
                  (∀ w, s.plan.pending = some w → ∀ y, p.tier? w.tier = some y → s.staysBelow p w = false →
                    w.bell = s.bell.count.toNat + 1 →
                    t.power.vddMv = max x.entry.vddMv y.entry.vddMv ∨ max x.entry.vddMv y.entry.vddMv = 0)
                  ∧ (s.plan.pending = none → t.power.vddMv = x.entry.vddMv ∨ x.entry.vddMv = 0))
              -- an orphaned device whose domain takes it back at the next bell prepares the domain's tier
              ∧ (s.bell.state = .orphaned → s.restartDue.isSome = true → ∀ y, p.tier? s.toldTier = some y →
                  t.power.vddMv = max x.entry.vddMv y.entry.vddMv ∨ max x.entry.vddMv y.entry.vddMv = 0)
              ∧ (t.power.vddMv ≠ s.power.vddMv → Output.avsWrite t.power.vddMv ∈ t.out))
          -- one phase of training on each port (R248)
          ∧ (∀ q : Fin 8, (s.port q).mode = .training → (s.port q).phase ≤ 2 → (s.port q).signal = true →
              (t.port q).phase = (s.port q).phase + 1 ∧ (t.port q).mode = .training))

/-- R47 to R52, R274: load commands, the stop, a member's image, and the end of the verification. The verification itself, whose
signature is opaque (log 11), is named by the function that gives its outcome. -/
def Obligations.PlansLoadStopAndStart : Prop :=
  ∀ s : State, s.live = true →
    (∀ w : Principal, s.warden w = true →
      (s.plan.status = 3 → s.role ≠ .member →
        exec (.planStop w) s = .next { s.spendLatch w with
          out := [.odReply w 0], events := []
          plan := { s.plan with status := 5, stopAt := some s.stopBell } }
        -- the next bell, or bell n+2 after the marker of bell n; two bells later where a switch or restart is announced (log 155)
        ∧ (s.role = .standalone → s.stopBell = s.bell.count.toNat + 1)
        ∧ (s.role ≠ .standalone → s.plan.pending = none → s.bell.restart = none → s.stopBell = s.bell.count.toNat + 3)
        ∧ (s.role ≠ .standalone → ∀ x, s.plan.pending = some x → s.bell.count.toNat + 1 < x.bell → s.stopBell = s.bell.count.toNat + 4))
      ∧ (s.plan.status ≠ 3 ∨ s.role = .member →
        exec (.planStop w) s = .next { (s.spendLatch w).noteAbort w 0x2200 3 0x08000022 with
          out := [.odReply w 0x08000022], events := [] })
      -- a load is accepted only while the bell state is STOPPED
      ∧ (∀ c ∈ [Instr.loadFromStaging w, .loadFromBootFlash w],
          ((s.bell.state ≠ .stopped ∨ s.plan.status = 1 ∨ s.plan.status = 2 ∨ s.plan.status = 3 ∨ s.plan.status = 5 ∨ s.thermal.tripped = true
              ∨ s.boot.lp5xFailed = true) →
            exec c s = .next { (s.spendLatch w).noteAbort w 0x2200 3 0x08000022 with out := [.odReply w 0x08000022], events := [] })
          ∧ (s.mayLoad = true → ∀ a, a = s.stagingArea →
            ∃ t, exec c s = .next t
              ∧ Output.odReply w 0 ∈ t.out
              ∧ (∀ u0 : State, u0 = { s.spendLatch w with out := [], events := [] } →
                  ∀ u, u = (if c = .loadFromBootFlash w then u0.stageFromFlash else u0) → ∀ ms, ms = (match a with
                    | some x => u.stagedImages x.1 x.2
                    | none => []) → ∀ own, own = (imageFor ms 0).getD (ms.headD []) → ∀ v : State,
                  v = { u with plan := { s.plan with status := 1, staging := a, restartCause := 1 } } →
                  ∀ res, res = verify v ((a.map (fun x => x.2)).getD 0) (ms.map readPlan) own →
                  (∀ r, res = some r → t.plan.status = 4 ∧ t.plan.plan = none
                      ∧ t.plan.rejection = BitVec.ofNat 32 (r.event * 2 ^ 16 + r.detail)
                      ∧ s.Logged t { code := r.event, source := 0, detail := r.detail, count := s.logCount })
                  ∧ (res = none → t.plan.status = (if s.role = .bellwether then 2 else 1) ∧ t.plan.plan = some (readPlan own)))
              ∧ t.bell = s.bell ∧ t.plan.running = s.plan.running ∧ t.tiles = s.tiles)
          -- without a staging area nothing verifies: PLAN_REJECTED_SIGNATURE, detail 1
          ∧ (s.mayLoad = true → s.stagingArea = none →
            ∃ t, exec c s = .next t ∧ t.plan.status = 4 ∧ t.plan.rejection = 0x10120001 ∧ t.plan.plan = none
              ∧ t.log = s.log.add { code := 0x1012, source := 0, detail := 1, count := s.logCount })))
    ∧ (∀ w : Principal, s.warden w = false → ∀ c ∈ [Instr.loadFromStaging w, .loadFromBootFlash w, .planStop w],
        exec c s = .next { (s.spendLatch w).noteAbort w 0x2200 3 0x06010000 with out := [.odReply w 0x06010000], events := [] })
    -- a member's image: taken at once while it runs nothing, at the next restart while it is orphaned
    ∧ (∀ image : MemberImage, s.role = .member → (s.bell.state = .stopped ∨ s.bell.state = .orphaned) → s.boot.lp5xFailed = false →
        ∃ t, exec (.memberImageReceived image) s = .next t
          ∧ (∀ v : State, v = { s with out := [], events := [], plan := { s.plan with status := 1 } } →
              ∀ res, res = verify v image.bytes.length [readPlan image.bytes] image.bytes →
              (∀ r, res = some r → t.plan.status = 4 ∧ t.plan.incoming = none
                  ∧ t.plan.plan = (if s.bell.state = .stopped then none else s.plan.plan)
                  ∧ Output.verdict s.ownId (some (r.event, r.detail)) ∈ t.out)
              ∧ (res = none → t.plan.status = 1 ∧ Output.verdict s.ownId none ∈ t.out
                  ∧ (s.bell.state = .stopped → t.plan.plan = some (readPlan image.bytes) ∧ t.plan.incoming = none
                      ∧ t.plan.restartCause = (if image.reform then 2 else 1))
                  ∧ (s.bell.state = .orphaned → t.plan.plan = s.plan.plan ∧ t.plan.incoming = some (image.bytes, image.reform)
                      ∧ t.tiles = s.tiles)))
          ∧ t.bell = s.bell)
    ∧ (∀ image : MemberImage, s.role ≠ .member ∨ (s.bell.state ≠ .stopped ∧ s.bell.state ≠ .orphaned) →
        exec (.memberImageReceived image) s = .next { s with out := [], events := [] })
    -- every device has answered: bell 0 with the arbitration's tier (R52), unless BELL_IN is to give it (R33)
    ∧ (∀ (now : Nat), ∀ p, s.plan.plan = some p → s.running = false → (s.plan.status = 1 ∨ s.plan.status = 2) →
        s.plan.awaitBell0 = false → s.role ≠ .member →
        (s.obj 0x2100 8 / 4 % 4 ≠ 1 →
          ∃ t, exec (.planVerificationDone none now) s = .next t
            ∧ t.bell.state = .source ∧ t.bell.count = 0 ∧ t.bell.at_ = now
            ∧ t.plan.status = 3 ∧ t.plan.running = true ∧ t.plan.plan = some p ∧ t.plan.effective = t.plan.domainTier
            ∧ s.Logged t { code := 0x1004, source := 0x1FF, detail := s.plan.restartCause, count := 0 }
            ∧ (∀ k : Fin 256, (t.tile k).seq = {}))
        ∧ (s.obj 0x2100 8 / 4 % 4 = 1 →
          ∃ t, exec (.planVerificationDone none now) s = .next t
            ∧ t.plan.awaitBell0 = true ∧ t.bell = s.bell ∧ t.plan.status = s.plan.status
            -- the words read for the placements are noted (R172); where none is marked nothing is logged
            ∧ ((∀ w, s.mem.lp5x.mark w = none) → t.log = s.log))
        -- a rejection anywhere rejects the set (R50)
        ∧ (∀ (m : Fin 128) (ev : U16) (det : Byte),
          ∃ t, exec (.planVerificationDone (some (m, ev, det)) now) s = .next t
            ∧ t.plan.status = 4 ∧ t.plan.plan = none ∧ t.bell = s.bell
            ∧ t.plan.rejection = BitVec.ofNat 32 (ev.toNat * 2 ^ 16 + m * 256 + det.toNat)
            ∧ t.log = s.log.add { code := ev.toNat, source := m, detail := det.toNat, count := s.logCount }
            ∧ (s.role = .bellwether → ∀ k : Fin 128, k.val ≠ 0 → s.drove.present.getLsbD k = true → Output.discardImage k.val ∈ t.out)))
    ∧ (∀ now : Nat, s.role = .member → s.running = false → s.plan.status = 1 → s.plan.awaitBell0 = false →
        ∀ x : Fin 128 × U16 × Byte, ∃ t, exec (.planVerificationDone (some x) now) s = .next t
          ∧ t.plan.status = 4 ∧ t.plan.plan = none ∧ t.log = s.log)
    -- a readmitted member's image is verified, or rejected, while the plan runs (R251)
    ∧ (∀ (now : Nat) (x : Nat × Nat) (rest : List (Nat × Nat)), s.running = true → s.drove.resend = x :: rest →
        exec (.planVerificationDone none now) s = .next { s with
          out := [], events := [], now := now
          drove := { s.drove with
            resend := s.drove.resend.filter (fun r => r.1 ≠ x.1), readmit := s.drove.readmit ++ [x.1] } })

/-! ### Tile states (03) -/

/-- R75, R79 to R83, Tables TILE-6 and TILE-7: the warden's tile commands, by the state they meet, while a plan runs and while none
does; the steps of readmission. -/
def Obligations.TileCommandsAndReadmission : Prop :=
  ∀ s : State, s.live = true →
    (∀ w : Principal, s.warden w = true → ∀ k, k = (s.copyOf w).tileSelect →
      ∀ e ∈ [(Instr.tileCmdQuarantine w, 1), (.tileCmdReadmit w, 2), (.tileCmdOutOfService w, 3)],
        -- where R79 accepts the command
        ∀ ok : Bool, ok = (match (s.tile k).mode with
          | .active => e.2 ≠ 2 | .gatedRetain => e.2 ≠ 2 | .gatedOff => e.2 ≠ 2 | .testing => e.2 ≠ 2
          | .quarantined => e.2 ≠ 1 | .outOfService => false : Bool) →
        (ok = false → exec e.1 s = .next { (s.spendLatch w).noteAbort w 0x2620 3 0x08000020 with
            out := [.odReply w 0x08000020], events := [] })
        -- an accepted one waits for the next bell, or acts at once
        ∧ (ok = true → s.running = true →
            exec e.1 s = .next ({ s.spendLatch w with out := [.odReply w 0], events := [] }.onTile k (fun x => { x with
              requests := x.requests ++ [(e.2, 4)] })))
        ∧ (ok = true → s.running = false → (s.tile k).requests = [] → (e.2 = 2 → ∀ r ∈ s.mesh.replies, r.responder ≠ some k.val) →
            ∃ t, exec e.1 s = .next t
              ∧ (t.tile k).mode = (match e.2 with | 1 => .quarantined | 2 => .testing | _ => .outOfService)
              ∧ (t.tile k).requests = [] ∧ (t.tile k).failCount = (s.tile k).failCount
              ∧ (e.2 = 1 → t.log = s.log.add { code := 0x2001, source := k, detail := 4, count := s.logCount })
              ∧ (e.2 = 2 → (t.tile k).rebuild = .selfTest ∧ (t.tile k).attempts = (s.tile k).attempts + 1
                  ∧ (t.tile k).epoch = (s.tile k).epoch + 1 ∧ (t.tile k).seq = {} ∧ (t.tile k).matcher = [] ∧ (t.tile k).slots = []
                  ∧ t.log = s.log)
              ∧ (e.2 = 3 → (t.tile k).sram = {} ∧ t.log = s.log)
              ∧ (∀ j : Fin 256, j ≠ k → t.tile j = s.tile j)
              ∧ t = { s.spendLatch w with out := t.out, events := [], log := t.log, field := t.field, tiles := t.tiles }))
    ∧ (∀ w : Principal, s.warden w = false → ∀ c ∈ [Instr.tileCmdQuarantine w, .tileCmdReadmit w, .tileCmdOutOfService w],
        exec c s = .next { (s.spendLatch w).noteAbort w 0x2620 3 0x06010000 with out := [.odReply w 0x06010000], events := [] })
    -- self-test: passed, failed for the first or second time, failed for the third
    ∧ (∀ k : Fin 256, (s.tile k).mode = .testing → (s.tile k).rebuild = .selfTest →
        exec (.readmissionSelfTestDone k true) s
            = .next ({ s with out := [], events := [] }.onTile k (fun x => { x with failCount := 0, rebuild := .scrub }))
        ∧ (s.running = true →
            exec (.readmissionSelfTestDone k false) s
              = .next ({ s with out := [], events := [] }.onTile k (fun x => { x with
                  failCount := x.failCount + 1, rebuild := .none
                  requests := x.requests ++ [(if x.failCount + 1 < 3 then 1 else 3, 1)] })))
        ∧ (s.running = false → (s.tile k).requests = [] → (s.tile k).failCount < 2 →
            ∃ t, exec (.readmissionSelfTestDone k false) s = .next t
              ∧ (t.tile k).mode = .quarantined ∧ (t.tile k).failCount = (s.tile k).failCount + 1
              ∧ t.log = s.log.add { code := 0x2001, source := k, detail := 1, count := s.logCount })
        ∧ (s.running = false → (s.tile k).requests = [] → 2 ≤ (s.tile k).failCount →
            ∃ t, exec (.readmissionSelfTestDone k false) s = .next t ∧ (t.tile k).mode = .outOfService ∧ t.log = s.log))
    -- scrub: every word zero and clean; then the load, or alignment when no present tier uses the tile
    ∧ (∀ k : Fin 256, (s.tile k).mode = .testing → (s.tile k).rebuild = .scrub →
        ∃ t, exec (.readmissionScrubDone k) s = .next t
          ∧ (t.tile k).sram = {}
          ∧ (∀ p, s.plan.plan = some p → p.usesTile k = true → (t.tile k).rebuild = .load (p.imageBytes k) ∧ (t.tile k).mode = .testing)
          ∧ (∀ p, s.plan.plan = some p → p.usesTile k = false → s.running = true →
              (t.tile k).rebuild = .aligned ∧ (t.tile k).mode = .testing)
          ∧ (s.plan.plan = none → s.running = false → (s.tile k).requests = [] →
              (t.tile k).mode = .gatedOff ∧ (t.tile k).attempts = 0
              ∧ t.log = s.log.add { code := 0x2002, source := k, detail := (s.tile k).attempts, count := s.logCount })
          ∧ (∀ j : Fin 256, j ≠ k → t.tile j = s.tile j)
          ∧ t = { s with out := t.out, events := [], log := t.log, field := t.field, tiles := t.tiles })
    -- load: after the slots have served the image, the next bell aligns the tile
    ∧ (∀ (k : Fin 256) (n : Nat), (s.tile k).mode = .testing → (s.tile k).rebuild = .load n → ∀ p, s.plan.plan = some p →
        (n = 0 → s.running = true →
          ∃ t, exec (.readmissionLoadDone k) s = .next t
            ∧ (t.tile k).rebuild = .aligned ∧ (t.tile k).mode = .testing
            ∧ (t.tile k).sram = (({ s with out := [], events := [] }.writeImage p k).tile k).sram)
        ∧ (n ≠ 0 → s.running = true → exec (.readmissionLoadDone k) s = .next { s with out := [], events := [] }))
    ∧ (∀ k : Fin 256, (s.tile k).mode ≠ .testing →
        ∀ c ∈ [Instr.readmissionSelfTestDone k true, .readmissionSelfTestDone k false, .readmissionScrubDone k, .readmissionLoadDone k],
          exec c s = .next { s with out := [], events := [] })

/-! ### Tiles, tile operations, layout, numerics, attention (04 to 07) -/

/-- R92 to R94, R96, R97: a record issues no earlier than its planned cycle and in list order, NOP and LOOP, where the sequencer goes
next, and the completion of a record. -/
def Obligations.RecordsIssueInOrderAndComplete : Prop :=
  ∀ (s : State) (k : TileNo) (cycle : Nat),
    -- what holds a record back, for every operation
    (∀ e ∈ [(Instr.nop k cycle, 0x00), (.loop k cycle, 0x01), (.mma k cycle, 0x10), (.mmaSblk k cycle, 0x11), (.mmaScoo k cycle, 0x12),
          (.convw k cycle, 0x14), (.mmaGate k cycle, 0x15), (.vadd k cycle, 0x20), (.vsub k cycle, 0x21), (.vmul k cycle, 0x22)]
        ++ [(.vfma k cycle, 0x23), (.vmax k cycle, 0x24), (.vmin k cycle, 0x25), (.vscale k cycle, 0x26), (.vcvt k cycle, 0x27),
          (.vsel k cycle, 0x28), (.vabs k cycle, 0x29), (.vexp k cycle, 0x2A), (.vlog k cycle, 0x2B), (.vrecip k cycle, 0x2C),
          (.vrsqrt k cycle, 0x2D)]
        ++ [(.vsigm k cycle, 0x2E), (.vtanh k cycle, 0x2F), (.rsum k cycle, 0x30), (.rmax k cycle, 0x31), (.rlse k cycle, 0x32),
          (.sgather k cycle, 0x38), (.smxStep k cycle, 0x40), (.smxMerge k cycle, 0x41), (.smxFinal k cycle, 0x42),
          (.merge k cycle, 0x48), (.ixload k cycle, 0x50)]
        ++ [(.ixmatch k cycle, 0x51), (.ixclear k cycle, 0x52), (.dcopy k cycle, 0x60), (.msend k cycle, 0x68), (.mread k cycle, 0x69),
          (.dsend k cycle, 0x6A), (.tinc k cycle, 0x70), (.emit k cycle, 0x78), (.renorm k cycle, 0x80), (.fmap k cycle, 0x88)],
      (s.nextRecord k = none → exec e.1 s = .next { s with out := [], events := [] })
      ∧ (∀ x, s.nextRecord k = some x →
          x.2.opcode ≠ e.2 ∨ s.tileRuns k = false ∨ s.partRuns x.2.part = false ∨ cycle < (s.tile k).seq.planned x.2
            ∨ (∃ n, (s.tile k).seq.lastIssue = some n ∧ cycle ≤ n)
            ∨ (x.2.flag 1 = true ∧ (s.tile k).seq.inFlight ≠ [])
            ∨ (x.2.flag 0 = true ∧ (s.tally (x.2.wait % 4096)).reached = false)
            ∨ (x.2.flag 0 = true ∧ ∃ at_, (s.tally (x.2.wait % 4096)).at_ = some at_ ∧ (cycle : Int) < at_ + 12) →
          exec e.1 s = .next { s with out := [], events := [] }))
    -- without a wait a record issues at the first cycle at which nothing holds it back, and at no later one (R92)
    ∧ (∀ x, s.nextRecord k = some x → x.2.flag 0 = false → (s.tile k).seq.inFlight = [] →
        (∀ f ∈ (s.tile k).seq.past, f.done ≤ (s.tile k).seq.free x.2 [unitSQ]) → (s.tile k).seq.free x.2 [unitSQ] < cycle →
        exec (.nop k cycle) s = .next { s with out := [], events := [] })
    -- a busy unit, and a bank that an earlier record writes or that the record would write under a reader (R93)
    ∧ (∀ x, s.nextRecord k = some x → x.2.opcode = 0x29 → cycle < (assocGet unitVE (s.tile k).seq.busy).getD 0 →
        exec (.vabs k cycle) s = .next { s with out := [], events := [] })
    ∧ (∀ x, s.nextRecord k = some x → x.2.opcode = 0x29 →
        ∀ ad, s.operand x.1 x.2 0 = some ad → ∀ dd, s.operand x.1 x.2 3 = some dd → ∀ f ∈ (s.tile k).seq.inFlight,
          ((∃ b ∈ f.writes, b ∈ ad.banks ∨ b ∈ dd.banks) ∨ (∃ b ∈ f.reads, b ∈ dd.banks)) →
          exec (.vabs k cycle) s = .next { s with out := [], events := [] })
    -- NOP, and where the sequencer stands afterwards
    ∧ (∀ x, s.nextRecord k = some x → s.Free k cycle 0x00 [unitSQ] x.1 x.2 →
        exec (.nop k cycle) s = .next (s.issued k cycle [unitSQ] 1
          { done := cycle + 1, reads := [], writes := [], slotsRead := x.2.slotsNamed, eot := x.2.flag 1, elems := [],
            slotWrite := none })
        ∧ (∀ q, q = (s.issued k cycle [unitSQ] 1
            { done := cycle + 1, reads := [], writes := [], slotsRead := [], eot := false, elems := [], slotWrite := none }).tile k →
            q.seq.lastIssue = some cycle ∧ q.seq.issues = (s.tile k).seq.issues + 1
            ∧ assocGet unitSQ q.seq.busy = some (cycle + 1)
            ∧ ((s.tile k).seq.loops = [] → q.seq.pc = (s.tile k).seq.pc + 1 ∧ q.seq.loops = [])
            ∧ (∀ f, (s.tile k).seq.loops = [f] →
                ((s.tile k).seq.pc + 1 < f.first + f.len → q.seq.pc = (s.tile k).seq.pc + 1 ∧ q.seq.loops = [f])
                ∧ (f.first + f.len ≤ (s.tile k).seq.pc + 1 → f.iter + 1 < f.count →
                    q.seq.pc = f.first ∧ q.seq.loops = [{ f with iter := f.iter + 1 }])
                ∧ (f.first + f.len ≤ (s.tile k).seq.pc + 1 → f.count ≤ f.iter + 1 →
                    q.seq.pc = (s.tile k).seq.pc + 1 ∧ q.seq.loops = []))))
    -- LOOP opens a level: iteration i begins i intervals after its issue
    ∧ (∀ x, s.nextRecord k = some x → s.Free k cycle 0x01 [unitSQ] x.1 x.2 →
        ∃ t, exec (.loop k cycle) s = .next t
          ∧ (t.tile k).seq.pc = (s.tile k).seq.pc + 1
          ∧ (t.tile k).seq.loops = (s.tile k).seq.loops ++
              [{ first := (s.tile k).seq.pc + 1, len := x.2.imm1, count := x.2.imm0, interval := x.2.imm2, start := cycle, iter := 0 }]
          ∧ (∀ (i : Nat) (r : OpRecord), Sequencer.planned { (t.tile k).seq with
                loops := (t.tile k).seq.loops.map (fun f => { f with iter := i }) } r = cycle + i * x.2.imm2 + r.issue)
          ∧ t = { s with out := [], events := [], tiles := t.tiles }
          ∧ (∀ j : TileNo, j ≠ k → t.tile j = s.tile j))
    -- completion
    ∧ (∀ p, s.tileOwner k = some p → s.live = true →
        ∀ f, (s.tile k).seq.inFlight.find? (fun f => f.done = cycle) = some f →
        (s.tileRuns k = true → s.partRuns p = true → f.slotWrite = none →
          (∀ w ∈ f.elems, (s.tile k).allows p true w.addr w.size = true) →
          exec (.recordCompletion k cycle) s = .next ({ s with out := [], events := [] }.onTile k (fun x => { x with
            sram := x.sram.store f.elems
            seq := { x.seq with
              inFlight := x.seq.inFlight.erase f, past := x.seq.past ++ [{ f with elems := [], matcher := none }]
              eot := x.seq.eot || f.eot }
            -- IXLOAD, IXCLEAR and MMA_SCOO change the matcher now (R94, R104)
            matcher := (match f.matcher with
              | some m => matcherAfter x.matcher m
              | none => x.matcher) })))
        -- a write outside the partition's regions is not made, and fails the tick (R68, R69)
        ∧ (s.tileRuns k = true → s.partRuns p = true → f.slotWrite = none →
          (∃ w ∈ f.elems, (s.tile k).allows p true w.addr w.size = false) →
          ∃ t, exec (.recordCompletion k cycle) s = .next t
            ∧ (t.tile k).sram = (s.tile k).sram.store (f.elems.filter (fun w => (s.tile k).allows p true w.addr w.size))
            ∧ (vget t.parts p {}).failed = (vget (s.onPart p (fun x => { x with failed := true })).parts p {}).failed
            ∧ t.log = s.log.add { code := 0x2005, source := k, detail := 1, count := s.logCount })
        -- FMAP's slot (R105, R124)
        ∧ (∀ w, f.slotWrite = some w → s.tileRuns k = true → s.partRuns p = true → f.elems = [] → f.matcher = none →
          (w.2.tileBase % 16 = 0 →
            exec (.recordCompletion k cycle) s = .next ({ s with out := [], events := [] }.onTile k (fun x => { x with
              slots := assocPut w.1 w.2 x.slots
              seq := { x.seq with
                inFlight := x.seq.inFlight.erase f, past := x.seq.past ++ [{ f with elems := [], matcher := none }]
                eot := x.seq.eot || f.eot } })))
          ∧ (w.2.tileBase % 16 ≠ 0 →
            ∃ t, exec (.recordCompletion k cycle) s = .next t
              ∧ (t.tile k).slots = (s.tile k).slots
              ∧ t.log = s.log.add { code := 0x2004, source := k, detail := 0xFFF0 + w.1, count := s.logCount }))
        -- a failed partition stores nothing more
        ∧ (s.partRuns p = false →
          exec (.recordCompletion k cycle) s = .next ({ s with out := [], events := [] }.onTile k (fun x => { x with
            seq := { x.seq with
              inFlight := x.seq.inFlight.erase f, past := x.seq.past ++ [{ f with elems := [], matcher := none }] } }))))
    ∧ ((s.tile k).seq.inFlight.find? (fun f => f.done = cycle) = none →
        exec (.recordCompletion k cycle) s = .next { s with out := [], events := [] })

/-- R68, R94, R98, R102, R138: every vector operation and reduction that nothing holds back issues, occupies the vector engine as
Table OPS-4 says, and holds exactly the results of R102, stored under the record's store mode, until its completion cycle. -/
def Obligations.VectorRecordsComputeAndComplete : Prop :=
  ∀ (s : State) (k : TileNo) (cycle : Nat), ∀ z, s.nextRecord k = some z →
    ∀ c, c = z.1 → ∀ r, r = z.2 → ∀ ad, s.operand c r 0 = some ad → ∀ dd, s.operand c r 3 = some dd → s.Clean k r.part ad →
      (∀ x, x = s.tile k →
      -- VABS, VCVT and the transcendentals: A, D
      (∀ op ∈ [0x27, 0x29, 0x2A, 0x2B, 0x2C, 0x2D, 0x2E, 0x2F],
        ∀ i, i = (match op with
          | 0x27 => Instr.vcvt k cycle | 0x29 => .vabs k cycle | 0x2A => .vexp k cycle | 0x2B => .vlog k cycle
          | 0x2C => .vrecip k cycle | 0x2D => .vrsqrt k cycle | 0x2E => .vsigm k cycle | _ => .vtanh k cycle) →
        ∀ occ, occ = (if op ≤ 0x29 then cdiv dd.count 64 else 4 * cdiv dd.count 64) → s.Free k cycle op [unitVE] c r →
          exec i s = .next (s.issued k cycle [unitVE] occ
            { done := cycle + occ + (if op ≤ 0x29 then 6 else 12), reads := ad.banks, writes := dd.banks, slotsRead := r.slotsNamed,
              eot := r.flag 1, slotWrite := none
              elems := c.storeTo r dd ((List.range dd.count).map (fun e =>
                ((match op, (x.elem ad e).1 with
                  | 0x27, v => v
                  | 0x29, .int v => .int (BitVec.ofInt 32 (min (v.toInt.natAbs : Int) (2 ^ 31 - 1)))
                  | 0x29, .flt v => .flt (toF (ofF v).abs)
                  | 0x2A, .flt v => .flt (expF v)
                  | 0x2B, .flt v => .flt (logF v)
                  | 0x2C, .flt v => .flt (recipF v)
                  | 0x2D, .flt v => .flt (rsqrtF v)
                  | 0x2E, .flt v => .flt (sigmF v)
                  | 0x2F, .flt v => .flt (tanhF v)
                  | n, .int v => .flt (Config.vectorOpen n [v])
                  | _, v => v), (x.elem ad e).2))) }))
      -- VADD to VMIN, with B full, a row, a column or the scalar of imm0
      ∧ (∀ op ∈ [0x20, 0x21, 0x22, 0x24, 0x25],
        ∀ i, i = (match op with
          | 0x20 => Instr.vadd k cycle | 0x21 => .vsub k cycle | 0x22 => .vmul k cycle | 0x24 => .vmax k cycle | _ => .vmin k cycle) →
        ∀ bs, bs = s.operand c r 1 → (∀ b, bs = some b → s.Clean k r.part b) → s.Free k cycle op [unitVE] c r →
          exec i s = .next (s.issued k cycle [unitVE] (cdiv dd.count 64)
            { done := cycle + cdiv dd.count 64 + 6, reads := (ad.banks ++ (bs.toList.flatMap Desc.banks)).eraseDups, writes := dd.banks
              slotsRead := r.slotsNamed, eot := r.flag 1, slotWrite := none
              elems := c.storeTo r dd ((List.range dd.count).map (fun e =>
                let b : Machine.Elem := match bs with
                  | none => (widen ad.ety r.imm0, false)
                  | some d => x.elem d ((if d.rows = 1 then 0 else e / ad.dim 0) * d.dim 0 + (if d.dim 0 = 1 then 0 else e % ad.dim 0))
                ((match (x.elem ad e).1, b.1 with
                  | .int u, .int v => .int (BitVec.ofInt 32 (max (-2 ^ 31) (min (2 ^ 31 - 1) (match op with
                      | 0x20 => u.toInt + v.toInt | 0x21 => u.toInt - v.toInt | 0x22 => u.toInt * v.toInt
                      | 0x24 => max u.toInt v.toInt | _ => min u.toInt v.toInt))))
                  | .flt u, .flt v => .flt (match op with
                      | 0x20 => addF u v | 0x21 => subF u v | 0x22 => mulF u v | 0x24 => maxF 0x24 u v | _ => minF 0x25 u v)
                  | u, v => vector3 op (fun _ _ _ => 0) (fun _ _ _ => 0) u v (elementwise.same u)), (x.elem ad e).2 || b.2))) }))
      -- VFMA: A × B + C; VSEL: A where C is nonzero, else B; VSCALE: row i times B[i]
      ∧ (∀ bd, s.operand c r 1 = some bd → s.Clean k r.part bd →
        (∀ cd, s.operand c r 2 = some cd → s.Clean k r.part cd →
          ∀ b : Nat → Machine.Elem, b = (fun e => x.elem bd ((if bd.rows = 1 then 0 else e / ad.dim 0) * bd.dim 0
              + (if bd.dim 0 = 1 then 0 else e % ad.dim 0))) →
          (s.Free k cycle 0x23 [unitVE] c r →
            exec (.vfma k cycle) s = .next (s.issued k cycle [unitVE] (cdiv dd.count 64)
              { done := cycle + cdiv dd.count 64 + 6, reads := (ad.banks ++ (bd.banks ++ cd.banks)).eraseDups, writes := dd.banks
                slotsRead := r.slotsNamed, eot := r.flag 1, slotWrite := none
                elems := c.storeTo r dd ((List.range dd.count).map (fun e =>
                  (vector3 0x23 (fun u v w => BitVec.ofInt 32 (max (-2 ^ 31) (min (2 ^ 31 - 1) (u * v + w)))) fmaF
                    (x.elem ad e).1 (b e).1 (x.elem cd e).1, (x.elem ad e).2 || (b e).2 || (x.elem cd e).2))) }))
          ∧ (s.Free k cycle 0x28 [unitVE] c r →
            exec (.vsel k cycle) s = .next (s.issued k cycle [unitVE] (cdiv dd.count 64)
              { done := cycle + cdiv dd.count 64 + 6, reads := (ad.banks ++ (bd.banks ++ cd.banks)).eraseDups, writes := dd.banks
                slotsRead := r.slotsNamed, eot := r.flag 1, slotWrite := none
                elems := c.storeTo r dd ((List.range dd.count).map (fun e =>
                  if (x.elem cd e).1.nonzero then ((x.elem ad e).1, (x.elem cd e).2 || (x.elem ad e).2)
                  else ((b e).1, (x.elem cd e).2 || (b e).2))) })))
        ∧ (s.Free k cycle 0x26 [unitVE] c r →
            exec (.vscale k cycle) s = .next (s.issued k cycle [unitVE] (cdiv dd.count 64)
              { done := cycle + cdiv dd.count 64 + 6, reads := (ad.banks ++ bd.banks).eraseDups, writes := dd.banks
                slotsRead := r.slotsNamed, eot := r.flag 1, slotWrite := none
                elems := c.storeTo r dd ((List.range dd.count).map (fun e =>
                  (elementwise 0x22 (x.elem ad e).1 (x.elem bd (e / ad.dim 0)).1 (.int 0),
                    (x.elem ad e).2 || (x.elem bd (e / ad.dim 0)).2))) })))
      -- reductions along dimension 0
      ∧ (∀ op ∈ [0x30, 0x31, 0x32],
        ∀ i, i = (match op with | 0x30 => Instr.rsum k cycle | 0x31 => .rmax k cycle | _ => .rlse k cycle) →
        ∀ occ, occ = cdiv ad.count 64 + 4 * cdiv ad.rows 64 → s.Free k cycle op [unitVE] c r →
          exec i s = .next (s.issued k cycle [unitVE] occ
            { done := cycle + occ + (if op = 0x32 then 18 else 12), reads := ad.banks, writes := dd.banks, slotsRead := r.slotsNamed
              eot := r.flag 1, slotWrite := none
              elems := c.storeTo r dd ((List.range ad.rows).map (fun j =>
                let row := (List.range (ad.dim 0)).map (fun e => x.elem ad (j * ad.dim 0 + e))
                (reduce op (row.map (fun e => e.1)), row.any (fun e => e.2)))) })))
    -- an operand outside the partition's regions: TENSOR_BOUNDS 1, nothing in flight, the tick failed
    ∧ (∀ ad, s.operand z.1 z.2 0 = some ad → ∀ dd, s.operand z.1 z.2 3 = some dd →
        (s.tile k).allowsDesc z.2.part false ad = false → s.Free k cycle 0x29 [unitVE] z.1 z.2 →
        ∃ t, exec (.vabs k cycle) s = .next t
          ∧ (t.tile k).seq.inFlight = [] ∧ (t.tile k).sram = (s.tile k).sram
          ∧ (z.2.part < 32 → (vget t.parts z.2.part {}).failed = true)
          ∧ t.log = s.log.add { code := 0x2005, source := k, detail := 1, count := s.logCount })

/-- R98, R101, R103 to R105, R146, R148, R151, R158, R164: the sparse gather, online softmax, merge tree, index matcher, copy, RENORM and
FMAP records issue with their units, occupancy and depth, and hold their results; a budget exceeded, a full matcher and a fork page
outside its table fail the tick. -/
def Obligations.AttentionMatcherAndMergeRecords : Prop :=
  (∀ (s : State) (k : TileNo) (cycle : Nat), ∀ z, s.nextRecord k = some z →
    ∀ c, c = z.1 → ∀ r, r = z.2 → ∀ x, x = s.tile k →
      ∀ flight : Nat → List Nat → List Nat → List ElemWrite → InFlight, flight = (fun done reads writes elems =>
          { done := done, reads := reads, writes := writes, slotsRead := r.slotsNamed, eot := r.flag 1, elems := elems,
            slotWrite := none }) →
      (∀ ad, s.operand c r 0 = some ad → s.Clean k r.part ad →
        (∀ dd, s.operand c r 3 = some dd →
          -- SGATHER
          (∀ bd, s.operand c r 1 = some bd → ∀ md, s.companion ad = some md → s.Clean k r.part bd → s.Clean k r.part md →
            s.Free k cycle 0x38 [unitVE] c r → (cooEntries x ad md).1.length ≤ r.imm2 →
            (∀ e ∈ (cooEntries x ad md).1, e.1 < bd.rows) →
            exec (.sgather k cycle) s = .next (s.issued k cycle [unitVE] (4 * r.imm2 * cdiv (dd.dim 0) 64)
              (flight (cycle + 4 * r.imm2 * cdiv (dd.dim 0) 64 + 10) (ad.banks ++ (md.banks ++ bd.banks)).eraseDups dd.banks
                (c.storeTo r dd ((List.range (dd.dim 0)).map (fun j =>
                  (gatherSum ad.isInt bd.isInt ((cooEntries x ad md).1.map (fun e => (e.2.1, ((x.mat bd).get e.1 j).1))),
                   (cooEntries x ad md).2 || (cooEntries x ad md).1.any (fun e => e.2.2 || ((x.mat bd).get e.1 j).2))))))))
          -- SMX_MERGE, SMX_FINAL
          ∧ (s.Free k cycle 0x41 [unitVE, unitMT] c r → r.imm0 * dd.rows ≤ ad.rows →
            ∀ occ, occ = r.imm0 * cdiv (dd.rows * dd.dim 0) 64 + 4 * cdiv (r.imm0 * dd.rows) 64 →
            exec (.smxMerge k cycle) s = .next (s.issued k cycle [unitVE, unitMT] occ
              (flight (cycle + occ + 16) ad.banks dd.banks (c.storeTo r dd ((List.range dd.rows).flatMap (fun i =>
                let states := (List.range r.imm0).map (fun t => (List.range (ad.dim 0)).map (fun j =>
                  x.elem ad ((t * dd.rows + i) * ad.dim 0 + j)))
                List.zipWith (fun (j : Nat) (v : U32) => ((.flt v),
                    states.any (fun t => (t.getD (dd.dim 0 - 2) (.flt 0, false)).2) || states.any (fun t => (t.getD j (.flt 0, false)).2)))
                  (List.range (dd.dim 0)) (mergeRow (dd.dim 0 - 2) (states.map (fun t => t.map Machine.Elem.f)))))))))
          ∧ (s.Free k cycle 0x42 [unitVE] c r → r.imm2 % 2 ^ 16 = 0xFFFF →
            ∀ occ, occ = cdiv dd.count 64 + 8 * cdiv ad.rows 64 →
            exec (.smxFinal k cycle) s = .next (s.issued k cycle [unitVE] occ
              (flight (cycle + occ + 14) ad.banks dd.banks (c.storeTo r dd ((List.range ad.rows).flatMap (fun i =>
                (List.range (dd.dim 0)).map (fun j =>
                  let row := (List.range (ad.dim 0)).map (fun e => x.elem ad (i * ad.dim 0 + e))
                  let o := row.getD j (.flt 0, false)
                  let l := row.getD (dd.dim 0 + 1) (.flt 0, false)
                  ((.flt (divF o.f l.f)), o.2 || l.2))))))))
          -- MERGE: the output is the runs merged, key by key
          ∧ (∀ n, n = ad.dim (ad.rank - 1) → ∀ len, len = ad.count / 2 / n → s.Free k cycle 0x48 [unitMT] c r →
            dd.count = 2 * (n * len) → r.imm0 = 0 →
            exec (.merge k cycle) s = .next (s.issued k cycle [unitMT] (cdiv (n * len) 2)
              (flight (cycle + cdiv (n * len) 2 + 16) ad.banks dd.banks
                (storeCodes dd ((mergeRuns 0 (n * len) ((List.range n).map (fun t => (List.range len).map (fun p =>
                  x.pair ad (t * len + p)))) []).flatMap (fun p => [(p.1, p.2.2), (p.2.1.toNat, p.2.2)]))))))
          -- IXMATCH, DCOPY
          ∧ (s.Free k cycle 0x51 [unitIM] c r →
            exec (.ixmatch k cycle) s = .next (s.issued k cycle [unitIM] (cdiv ad.count 8)
              (flight (cycle + cdiv ad.count 8 + 8) ad.banks dd.banks
                (storeCodes dd ((List.range ad.count).map (fun e =>
                  (((x.matcher.find? (fun m => !m.keyPoison && m.key.toNat = (x.code ad e).1)).map (fun m => m.value.toNat)).getD 0xFFFFFFFF,
                   (x.code ad e).2 || x.matcher.any (fun m => m.keyPoison)
                    || ((x.matcher.find? (fun m => !m.keyPoison && m.key.toNat = (x.code ad e).1)).map (fun m =>
                        m.valuePoison)).getD false)))))))
          ∧ (s.Free k cycle 0x60 [unitDMA] c r →
            exec (.dcopy k cycle) s = .next (s.issued k cycle [unitDMA] (cdiv (ad.count * ad.esize) 32)
              (flight (cycle + cdiv (ad.count * ad.esize) 32 + 10) ad.banks dd.banks
                (storeCodes dd ((List.range dd.count).map (fun e => x.code ad e)))))))
        -- IXLOAD: its pairs wait for its completion; beyond 1,024 entries the tick fails
        ∧ (s.Free k cycle 0x50 [unitIM] c r → x.matcher.length + ad.count / 2 ≤ 1024 →
          exec (.ixload k cycle) s = .next (s.issued k cycle [unitIM] (cdiv (ad.count / 2) 8)
            { flight (cycle + cdiv (ad.count / 2) 8 + 4) ad.banks [] [] with matcher := some (.load (x.pairs ad)) }))
        ∧ (s.Free k cycle 0x50 [unitIM] c r → x.matcher.length = 1024 →
            (∃ e, (x.pairs ad).head? = some e ∧ ∀ m ∈ x.matcher, m.keyPoison = true ∨ m.key ≠ e.key) →
            ∃ t, exec (.ixload k cycle) s = .next t
              ∧ (t.tile k).matcher = x.matcher ∧ (r.part < 32 → (vget t.parts r.part {}).failed = true)
              ∧ t.log = s.log.add { code := 0x2005, source := k, detail := 3, count := s.logCount })
        -- SMX_STEP: probabilities to D, the new state to C, α to the rescale vector
        ∧ (∀ cd, s.operand c r 2 = some cd → ∀ dd, s.operand c r 3 = some dd → s.Clean k r.part cd → s.Free k cycle 0x40 [unitVE] c r →
          ∀ occ, occ = 3 * cdiv ad.count 64 + 4 * cdiv ad.rows 64 →
          ∀ rows, rows = (List.range ad.rows).map (fun i =>
              let row := (List.range (ad.dim 0)).map (fun e => x.elem ad (i * ad.dim 0 + e))
              let m := x.elem cd (2 * i)
              let l := x.elem cd (2 * i + 1)
              let sc := row.map (fun e => mulF (BitVec.ofNat 32 r.imm0) e.f)
              let m' := sc.foldl (maxF 0x40) m.f
              let al := expF (subF m.f m')
              let p := sc.map (fun v => expF (subF v m'))
              (p, m', addF (mulF al l.f) (sumF p), al, row.any (fun e => e.2) || m.2, l.2)) →
          ∀ vd, vd = s.descAt k (r.imm2 % 2 ^ 16) 0 →
          exec (.smxStep k cycle) s = .next (s.issued k cycle [unitVE] occ
            (flight (cycle + occ + 14) (ad.banks ++ cd.banks).eraseDups
              (dd.banks ++ (cd.banks ++ vd.toList.flatMap Desc.banks)).eraseDups
              (c.storeTo r dd (rows.flatMap (fun t => t.1.map (fun p => ((.flt p), t.2.2.2.2.1))))
                ++ c.storeTo r cd (rows.flatMap (fun t =>
                    [((.flt t.2.1), t.2.2.2.2.1), ((.flt t.2.2.1), t.2.2.2.2.1 || t.2.2.2.2.2)]))
                ++ (match vd with
                  | some v => c.storeTo r v (rows.map (fun t => ((.flt t.2.2.2.1), t.2.2.2.2.1)))
                  | none => [])))))
        -- RENORM, in place
        ∧ (∀ cd, s.operand c r 2 = some cd → s.Clean k r.part cd → s.Free k cycle 0x80 [unitVE] c r →
          ∀ rows, rows = (List.range ad.rows).map (fun i =>
              let row := (List.range (ad.dim 0)).map (fun e => x.elem ad (i * ad.dim 0 + e))
              (renormRow (row.map Machine.Elem.f) (match (x.elem cd i).1 with
                | .int v => v
                | .flt v => v), row.any (fun e => e.2), (x.elem cd i).2)) →
          exec (.renorm k cycle) s = .next (s.issued k cycle [unitVE] (2 * cdiv ad.count 64 + 1)
            (flight (cycle + (2 * cdiv ad.count 64 + 1) + 10) (ad.banks ++ cd.banks).eraseDups (ad.banks ++ cd.banks).eraseDups
              (c.storeTo r ad (rows.flatMap (fun t => t.1.1.map (fun v => (v, t.2.1))))
                ++ c.storeTo r cd (rows.map (fun t => (t.1.2, t.2.1 || t.2.2))))))))
      -- IXCLEAR
      ∧ (s.Free k cycle 0x52 [unitIM] c r →
        exec (.ixclear k cycle) s = .next (s.issued k cycle [unitIM] 16
          { flight (cycle + 16) [] [] [] with matcher := some .clear }))
      ∧ (∀ ad, s.operand c r 0 = some ad →
        -- FMAP writes its slot at completion, or fails the tick
        (s.Free k cycle 0x88 [unitSQ] c r → ∀ p, s.plan.plan = some p → ∀ fk, p.forks[r.imm0 % 256]? = some fk →
          ∀ fu, fu = r.imm1 % 2 ^ 16 + c.counter (r.imm1 / 2 ^ 16 % 4) → ∀ pg, pg = r.imm2 % 2 ^ 16 + c.counter (r.imm2 / 2 ^ 16 % 4) →
          (∀ e, fu < fk.futures → pg < fk.pages → fk.entries[fu * fk.pages + pg]? = some e → e ≠ 0xFFFFFFFF →
            exec (.fmap k cycle) s = .next (s.issued k cycle [unitSQ] 2
              { flight (cycle + 10) [] [] [] with
                slotWrite := some (r.imm0 / 256 % 8, { ad with base := fk.poolBase + e * fk.pageBytes + ad.base }) }))
          ∧ (fk.futures ≤ fu ∨ fk.pages ≤ pg ∨ fk.entries[fu * fk.pages + pg]? = some 0xFFFFFFFF →
            ∃ t, exec (.fmap k cycle) s = .next t
              ∧ (t.tile k).slots = x.slots ∧ (t.tile k).seq.inFlight = [] ∧ (r.part < 32 → (vget t.parts r.part {}).failed = true)
              ∧ t.log = s.log.add { code := 0x2005, source := k, detail := 4, count := s.logCount }))))
  -- what the matcher holds after its pairs are placed: the last pair of a key, and what it held under other keys (R104)
  ∧ (∀ (m pre post : List MatchEntry) (e : MatchEntry), e.keyPoison = false → (∀ y ∈ post, y.keyPoison = true ∨ y.key ≠ e.key) →
      ∀ after, after = matcherAfter m (.load (pre ++ e :: post)) → after.find? (fun y => !y.keyPoison && y.key = e.key) = some e)
  ∧ (∀ (m es : List MatchEntry), ∀ x ∈ m, (∀ e ∈ es, e.keyPoison = true ∨ x.keyPoison = true ∨ e.key ≠ x.key) →
      x ∈ matcherAfter m (.load es))
  ∧ (∀ m : List MatchEntry, matcherAfter m .clear = [])
  -- RENORM leaves a row of zeros; sorted runs merge sorted, nothing lost
  ∧ (∀ (n : Nat) (ex : U32), renormRow (List.replicate n 0) ex = (List.replicate n (.flt 0), .int ex))
  ∧ (∀ runs : List (List Pair), (∀ a ∈ runs, (a.map (fun p => p.1)).Pairwise (· ≤ ·)) →
      ∀ out, out = mergeRuns 0 (runs.map List.length).sum runs [] →
        out.length = (runs.map List.length).sum ∧ (out.map (fun p => p.1)).Pairwise (· ≤ ·)
        ∧ (∀ key : Nat, ((out.filter (fun p => p.1 = key)).map (fun p => p.2.1)) = runs.flatMap (fun a =>
            (a.filter (fun p => p.1 = key)).map (fun p => p.2.1))))

/-- R94, R98 to R101, R125 to R127, R136, R142 to R147: the matrix operations issue with the occupancy and depth of Table OPS-4 and
hold, for each output element, the accumulation of its products in order, with poison of the row, the column and C. -/
def Obligations.MatrixRecordsComputeAndComplete : Prop :=
  (∀ (s : State) (k : TileNo) (cycle : Nat), ∀ z, s.nextRecord k = some z →
    ∀ c, c = z.1 → ∀ r, r = z.2 → ∀ x, x = s.tile k →
      ∀ ad, s.operand c r 0 = some ad → ∀ bd, s.operand c r 1 = some bd → ∀ dd, s.operand c r 3 = some dd →
        s.Clean k r.part ad → s.Clean k r.part bd →
        ∀ q, q = (if bd.esize = 2 then 2 else 1) → ∀ n, n = bd.dim 0 → ∀ b, b = x.mat bd → ∀ cs, cs = s.operand c r 2 →
          (∀ cd, cs = some cd → s.Clean k r.part cd) → ad.esize = bd.esize →
          ∀ flight : Nat → List Desc → List Machine.Elem → InFlight, flight = (fun done reads elems =>
            { done := done, reads := (reads.flatMap Desc.banks).eraseDups, writes := dd.banks, slotsRead := r.slotsNamed
              eot := r.flag 1, elems := c.storeTo r dd elems, slotWrite := none }) →
          ∀ acc : Machine.Elem → List (Machine.Num × Machine.Num) → Bool → Machine.Elem, acc = (fun start ps poison =>
            (accumulate 32 start.1 ps, poison || start.2)) →
          -- the accumulator starts from C under ACC_LOAD, else from zero of its type
          ∀ start : Nat → Nat → Machine.Elem, start = (fun i j => match r.flag 2, cs with
            | true, some cd => (x.mat cd).get i j
            | _, _ => (if bd.isInt then .int 0 else .flt 0, false)) →
          ∀ dense : Mat → Nat → Machine.Elem, dense = (fun a e =>
            acc (start (e / n) (e % n)) ((List.range a.cols).map (fun t => ((a.get (e / n) t).1, (b.get t (e % n)).1)))
              (anyPoison (a.row (e / n)) || anyPoison (b.col (e % n)))) →
          -- MMA, dense
          (∀ a, a = (if r.flag 3 then (x.mat ad).transpose else x.mat ad) → r.flag 4 = false → s.Free k cycle 0x10 [unitMU] c r →
            ∀ occ, occ = q * a.cols * cdiv a.rows 32 * cdiv n 32 →
            exec (.mma k cycle) s = .next (s.issued k cycle [unitMU] occ
              (flight (cycle + occ + (if q = 1 then 40 else 44)) (ad :: bd :: (if r.flag 2 then cs.toList else []))
                ((List.range (a.rows * n)).map (dense a)))))
          -- MMA with S24 weights: half the cycles, the dense product over the kept values
          ∧ (∀ md, s.companion bd = some md → s.Clean k r.part md → r.flag 4 = true → r.flag 3 = false → s.Free k cycle 0x10 [unitMU] c r →
            ∀ a, a = x.mat ad → ∀ occ, occ = q * a.cols * cdiv a.rows 32 * cdiv n 32 / 2 →
            exec (.mma k cycle) s = .next (s.issued k cycle [unitMU] occ
              (flight (cycle + occ + (if q = 1 then 40 else 44)) (ad :: bd :: md :: (if r.flag 2 then cs.toList else []))
                ((List.range (a.rows * n)).map (fun e =>
                  ((chunks 8 (a.cols / 4) (List.range (a.cols / 4))).foldl (fun v gs => addChunk v (gs.flatMap (fun g =>
                      let m := (x.code md (g / 4 * md.dim 0 + e % n)).1 / 16 ^ (g % 4)
                      let at_ (t : Nat) := (a.get (e / n) (4 * g + t)).1
                      -- two rising positions: the kept products, and those of the dropped positions' zeros (R143)
                      if m % 4 < m / 4 % 4 then
                        (List.range 4).map (fun t => (at_ t, if t = m % 4 then (b.get (2 * g) (e % n)).1
                          else if t = m / 4 % 4 then (b.get (2 * g + 1) (e % n)).1 else (zeroElem b).1))
                      else [(at_ (m % 4), (b.get (2 * g) (e % n)).1), (at_ (m / 4 % 4), (b.get (2 * g + 1) (e % n)).1)])))
                      (start (e / n) (e % n)).1,
                    (List.range md.count).any (fun e => (x.code md e).2) || (start (e / n) (e % n)).2
                      || anyPoison (a.row (e / n)) || anyPoison (b.col (e % n))))))))
          -- CONVW: the window's expanded matrix takes A's place; under TRANS_A its elements are left open (log 176)
          ∧ (∀ w, w = windowOfWord r.imm0 → ∀ a, a = (if r.flag 3 then expandTransposed x ad r.imm0 else expandWindow x ad w) →
            r.flag 4 = false → s.Free k cycle 0x14 [unitMU, unitDMA] c r →
            ∀ rs, rs = (if r.flag 3 then [ad] else (w.tapRuns ad).eraseDups.map ad.run) → (∀ d ∈ rs, s.Clean k r.part d) →
            ∀ occ, occ = q * (ad.dim 0 * w.kh * w.kw) * cdiv (w.hOut ad * w.wOut ad) 32 * cdiv n 32 →
            exec (.convw k cycle) s = .next (s.issued k cycle [unitMU, unitDMA] occ
              (flight (cycle + occ + (if q = 1 then 52 else 56)) (rs ++ bd :: (if r.flag 2 then cs.toList else []))
                ((List.range (w.hOut ad * w.wOut ad * n)).map (dense a)))))
          -- MMA_GATE with the chain bias and tanh of the chapter's example, and with an empty chain
          ∧ (∀ a, a = x.mat ad → r.flag 2 = false → r.flag 3 = false → r.flag 4 = false → dd.dim 0 = n → s.Free k cycle 0x15 [unitMU] c r →
            ∀ occ, occ = max (q * a.cols * cdiv a.rows 32 * cdiv n 32) (32 * cdiv a.rows 32 * cdiv n 32) →
            ∀ num : Machine.Elem → U32, num = (fun e => match e.1 with
              | .flt v => v
              | .int v => toF (.ofInt v.toInt)) →
            (r.imm1 = 0 →
              exec (.mmaGate k cycle) s = .next (s.issued k cycle [unitMU] occ
                (flight (cycle + occ + (if q = 1 then 48 else 52)) [ad, bd] ((List.range (a.rows * n)).map (fun e =>
                  ((.flt (num (dense a e))), (dense a e).2))))))
            ∧ (∀ cd, cs = some cd → r.imm1 = 5 →
              exec (.mmaGate k cycle) s = .next (s.issued k cycle [unitMU] occ
                (flight (cycle + occ + (if q = 1 then 48 else 52)) [ad, bd, cd] ((List.range (a.rows * n)).map (fun e =>
                  ((.flt (tanhF (addF (num (dense a e)) (num (x.elem cd (e % n)))))), (dense a e).2 || (x.elem cd (e % n)).2)))))))
          -- MMA_SBLK within its budget; beyond it the destination is poison and the tick fails (R101)
          ∧ (∀ md, s.companion bd = some md → s.Clean k r.part md → r.flag 3 = false → s.Free k cycle 0x11 [unitMU] c r →
            ∀ a, a = x.mat ad → ∀ m, m = dd.dim 0 → ∀ total, total = a.cols / 16 * (m / 16) →
            ∀ stored, stored = ((List.range total).filter (fun t => (x.code md (t / 8)).1 / 2 ^ (t % 8) % 2 = 1)).length →
            ∀ occ, occ = cdiv (5 * (q * a.cols * cdiv a.rows 32 * cdiv m 32) * r.imm2) (4 * total) →
            -- only the stored blocks of B are fetched (R144)
            (min stored r.imm2 ≠ 0 → s.Clean k r.part (bd.firstBlocks (min stored r.imm2))) →
            -- a block that is not stored is zero; the stored ones lie one after another
            (∀ bx : Nat → Nat → Machine.Elem, bx = (fun u j =>
                let bt := u / 16 * (m / 16) + j / 16
                if (x.code md (bt / 8)).1 / 2 ^ (bt % 8) % 2 = 1 then
                  x.elem bd (256 * ((List.range bt).filter (fun v => (x.code md (v / 8)).1 / 2 ^ (v % 8) % 2 = 1)).length
                    + 16 * (u % 16) + j % 16)
                else (if bd.isInt then .int 0 else .flt 0, false)) →
              stored ≤ r.imm2 →
              exec (.mmaSblk k cycle) s = .next (s.issued k cycle [unitMU] occ
                (flight (cycle + occ + (if q = 1 then 40 else 44)) (ad :: bd :: md :: (if r.flag 2 then cs.toList else []))
                  ((List.range (a.rows * m)).map (fun e =>
                    (accumulate 32 (start (e / m) (e % m)).1
                        ((List.range a.cols).map (fun u => ((a.get (e / m) u).1, (bx u (e % m)).1))),
                      (List.range md.count).any (fun v => (x.code md v).2) || (start (e / m) (e % m)).2 || anyPoison (a.row (e / m))
                        || (List.range a.cols).any (fun u => (bx u (e % m)).2)))))))
            ∧ (r.imm2 < stored → ∃ t, exec (.mmaSblk k cycle) s = .next t
              ∧ (r.part < 32 → (vget t.parts r.part {}).failed = true)
              ∧ (t.tile k).seq.inFlight = []
              ∧ ((storePoison dd).all (fun w => x.allows r.part true w.addr w.size) = true →
                  (t.tile k).sram = x.sram.store (storePoison dd)
                  ∧ t.log = s.log.add { code := 0x2005, source := k, detail := 2, count := s.logCount })))
          -- MMA_SCOO leaves the matcher cleared; a list over its budget is poison and fails the tick
          ∧ (∀ md, s.companion ad = some md → s.Clean k r.part md → s.Free k cycle 0x12 [unitMU, unitIM, unitMT] c r →
            ∀ es, es = cooEntries x ad md → ∀ occ, occ = cdiv (25 * (q * bd.rows * cdiv dd.rows 32 * cdiv n 32) * r.imm2)
              (3 * dd.rows * bd.rows) →
            -- the list's coordinates, or under TRANS_A those with row and column in each other's place (log 176)
            ∀ list, list = es.1.map (fun e => ((if r.flag 3 then e.1 % 2 ^ 16 * 2 ^ 16 + e.1 / 2 ^ 16 else e.1), e.2)) →
            (es.1.length ≤ r.imm2 → (∀ e ∈ list, e.1 / 2 ^ 16 < dd.rows ∧ e.1 % 2 ^ 16 < bd.rows) →
              exec (.mmaScoo k cycle) s = .next (s.issued k cycle [unitMU, unitIM, unitMT] occ
                { flight (cycle + occ + (if q = 1 then 56 else 60)) (ad :: md :: bd :: (if r.flag 2 then cs.toList else []))
                  ((List.range (dd.rows * n)).map (fun e =>
                    let mine := (sortCoo list).filter (fun t => t.1 / 2 ^ 16 = e / n)
                    (accumulate 32 (start (e / n) (e % n)).1 (mine.map (fun t => (t.2.1, (b.get (t.1 % 2 ^ 16) (e % n)).1))),
                     es.2 || (start (e / n) (e % n)).2 || mine.any (fun t => t.2.2) || anyPoison (b.col (e % n))))) with
                  matcher := some .clear }))
            ∧ (r.imm2 < es.1.length → ∃ t, exec (.mmaScoo k cycle) s = .next t
              ∧ (t.tile k).matcher = [] ∧ (t.tile k).seq.inFlight = []
              ∧ (r.part < 32 → (vget t.parts r.part {}).failed = true))))
  -- an integer chunk is summed exactly and saturates once; sorting keeps every entry of a coordinate list
  ∧ (∀ (start : U32) (ps : List (U32 × U32)), ps ≠ [] → ps.length ≤ 32 →
      accumulate 32 (.int start) (ps.map (fun p => (.int p.1, .int p.2)))
        = .int (BitVec.ofInt 32 (max (-2 ^ 31) (min (2 ^ 31 - 1)
            (start.toInt + (ps.map (fun p => p.1.toInt * p.2.toInt)).sum)))))
  ∧ (∀ es : List CooEntry, ((sortCoo es).map (fun e => e.1)).Pairwise (· ≤ ·)
      ∧ ∀ key : Nat, (sortCoo es).filter (fun e => e.1 = key) = es.filter (fun e => e.1 = key))

/-- R71, R73, R78, R84, R106 to R108, R235: transfers bind to their slot entries, late ones carry poison, and what a planned flit does
where it arrives. -/
def Obligations.TransfersBindAndFlitsArrive : Prop :=
  ∀ (s : State) (k : TileNo) (cycle : Nat),
    (∀ z, s.nextRecord k = some z → ∀ c, c = z.1 → ∀ r, r = z.2 → ∀ x, x = s.tile k →
      ∀ flight : Nat → List Nat → List Nat → InFlight, flight = (fun done reads writes =>
        { done := done, reads := reads, writes := writes, slotsRead := r.slotsNamed, eot := r.flag 1, elems := [], slotWrite := none }) →
      -- MSEND and EMIT read A when they issue
      (∀ op ∈ [0x68, 0x78], ∀ i, i = (if op = 0x68 then Instr.msend k cycle else .emit k cycle) →
        ∀ n, n = (if op = 0x68 then r.imm0 else r.imm1) → ∀ e, s.slotEntry n = some e → ∀ ad, s.operand c r 0 = some ad →
        s.Clean k r.part ad → s.Free k cycle op [unitMI] c r → ∀ late, late = decide (e.2.start < cycle + 4) →
        ∃ t, exec i s = .next t
          ∧ t = { s.issued k cycle [unitMI] 1 (flight (if late then cycle + 1 else e.2.start + e.2.reps * e.2.stride + e.2.flits - 1 + 1)
                    ad.banks []) with
                  mesh := { s.mesh with transfers := t.mesh.transfers } }
          ∧ t.mesh.transfers = s.mesh.transfers ++ [
              { entry := n, tile := k, opcode := op, late := late, words := x.sram.wordsOf ad.tileBase ad (decide (op = 0x68)), dest := s.operand c r 3
                tally := r.imm0 % 4096, amount := r.imm1, binding := r.imm0 }])
      -- MREAD names its destination; TINC its tally
      ∧ (∀ e, s.slotEntry r.imm0 = some e → ∀ dd, s.operand c r 3 = some dd → s.Free k cycle 0x69 [unitMI] c r →
        ∀ late, late = decide (e.2.start < cycle + 4) →
        ∃ t, exec (.mread k cycle) s = .next t
          ∧ t = { s.issued k cycle [unitMI] 1 (flight (if late then cycle + 1
                    else e.2.start + e.2.reps * e.2.stride + 4 * e.1.hops s.bell.count.toNat e.2 + e.2.flits + 15) [] dd.banks) with
                  mesh := { s.mesh with transfers := t.mesh.transfers } }
          ∧ t.mesh.transfers = s.mesh.transfers ++ [
              { entry := r.imm0, tile := k, opcode := 0x69, late := late, words := [], dest := s.operand c r 0
                tally := r.imm0 % 4096, amount := r.imm1, binding := r.imm0 }])
      ∧ (∀ e, s.slotEntry r.imm2 = some e → s.Free k cycle 0x70 [unitMI] c r → ∀ late, late = decide (e.2.start < cycle + 4) →
        ∃ t, exec (.tinc k cycle) s = .next t
          ∧ t = { s.issued k cycle [unitMI] 1 (flight (if late then cycle + 1 else e.2.start + e.2.reps * e.2.stride + e.2.flits - 1 + 1)
                    [] []) with
                  mesh := { s.mesh with transfers := t.mesh.transfers } }
          ∧ t.mesh.transfers = s.mesh.transfers ++ [
              { entry := r.imm2, tile := k, opcode := 0x70, late := late, words := [], dest := s.operand c r 3
                tally := r.imm0 % 4096, amount := r.imm1, binding := r.imm0 }])
      -- DSEND puts its flow's cells into the slots of R230; late, with every poison flag set
      ∧ (∀ e, s.sendEntry r.imm0 = some e → ∀ ad, s.operand c r 0 = some ad → s.Clean k r.part ad → s.Free k cycle 0x6A [unitMI] c r →
        ∀ late, late = ((s.slotEntry e.meshSlot).map (fun x => decide (x.2.start < cycle + 4))).getD true →
        ∃ t, exec (.dsend k cycle) s = .next t
          ∧ t.drove.outgoing = s.drove.outgoing ++ [(e.flow, x.sram.wordsOf ad.tileBase ad true, late)]
          ∧ (s.carries e.outPort = true → e.outPort < 8 → ∀ i ∈ List.range (cellCount e.bytes),
              cellSlot s.retryBudget e.outSlot i < s.tickSlots →
              Output.cell (Fin.ofNat 8 e.outPort) (cellSlot s.retryBudget e.outSlot i)
                { flow := BitVec.ofNat 16 e.flow, index := BitVec.ofNat 16 i, parity := s.parity, kind := 1
                  words := if late then List.replicate 30 ⟨0, true⟩
                    else cellWords (wordsUpTo (x.sram.wordsOf ad.tileBase ad true) e.bytes) i } ∈ t.out)
          -- no slot ends after the next bell (R222)
          ∧ (∀ p slot cell, Output.cell p slot cell ∈ t.out → slot < s.tickSlots)
          ∧ (s.carries (e.outPort % 8) = false → t.out = [])
          ∧ t = { s with out := t.out, events := [], tiles := t.tiles, drove := { s.drove with
                    outgoing := t.drove.outgoing, ports := t.drove.ports } }
          ∧ (∀ j : TileNo, j ≠ k → t.tile j = s.tile j)))
    -- flits: the other parity is discarded; what arrives is the bound transfer's content, poison where there is none
    ∧ (∀ (entry rep : Nat) (part : FlitPart) (parity : Bool) (epoch : BitVec 2) (displaced : Bool),
        parity ≠ s.parity ∨ s.slotEntry entry = none →
        exec (.plannedFlitArrival entry rep part parity epoch displaced) s = .next { s with out := [], events := [] })
    ∧ (∀ (entry rep n : Nat) (epoch : BitVec 2) (displaced : Bool), ∀ e, s.slotEntry entry = some e → s.live = true → e.2.kind = 1 →
        rep ≤ e.2.reps → n < e.2.flits → e.2.source < 256 → e.2.dest = k.val → s.answers k = true →
        ∀ r, s.mesh.transfers.find? (fun r => r.entry = entry) = some r → s.recordFor entry = none →
        r.opcode = 0x68 → ∀ d, r.dest = some d →
        ∀ ws, ws = (if r.late || displaced || !s.answers e.2.source then List.replicate 4 ⟨0, true⟩
          else (List.range 4).map (fun i => r.words.getD (4 * (rep * e.2.flits + n) + i) ⟨0, false⟩)) →
        ∀ es, es = wordWrites d.tileBase d (4 * (rep * e.2.flits + n)) ws →
        (∀ w ∈ es, (s.tile k).allows e.2.owner true w.addr w.size = true) →
        exec (.plannedFlitArrival entry rep (.data n) s.parity epoch displaced) s
          = .next ({ s with out := [], events := [] }.onTile k (fun x => { x with sram := x.sram.store es })))
    -- a read's request fixes the replies; a reply of an older epoch completes with poison (R84)
    ∧ (∀ (entry rep : Nat) (epoch : BitVec 2) (displaced : Bool), ∀ e, s.slotEntry entry = some e → s.live = true → e.2.kind = 2 →
        rep ≤ e.2.reps → e.2.dest = k.val →
        (s.answers k = false ∨ displaced = true →
          exec (.plannedFlitArrival entry rep .request s.parity epoch displaced) s = .next { s with
            out := [], events := []
            mesh := { s.mesh with replies := s.mesh.replies.filter (fun r => !(r.entry = entry && r.rep = rep))
                        ++ [{ entry := entry, rep := rep, words := List.replicate (4 * e.2.flits * (e.2.reps + 1)) ⟨0, true⟩
                              responder := some k.val, requester := (s.endTile e.2.source).getD 256, owner := e.2.owner
                              -- the words that a reset of the tile would leave to complete with poison
                              rest := (s.farDesc entry true).elim [] (fun d => flitTargets d (rep * e.2.flits) e.2.flits) }] } })
        ∧ (∀ d, s.farDesc entry true = some d → ∀ n, n + 1 < e.2.flits → ∀ j : TileNo, e.2.source = j.val → s.takesWrites j = true →
            epoch ≠ (s.tile k).epoch →
            ∀ es, es = wordWrites d.tileBase d (4 * (rep * e.2.flits + n)) (List.replicate 4 ⟨0, true⟩) →
            (∀ w ∈ es, (s.tile j).allows e.2.owner true w.addr w.size = true) →
            exec (.plannedFlitArrival entry rep (.data n) s.parity epoch displaced) s
              = .next ({ s with
                  out := [], events := []
                  mesh := { s.mesh with replies := s.mesh.replies.filterMap (fun (r : Reply) =>
                    if r.entry = entry && r.rep = rep then r.after e.2 n (some d) else some r) } }.onTile j (fun x => { x with
                  sram := x.sram.store es }))))

/-- R129 to R135: every finite code and infinity of a float format is its own nearest store, NaN is stored as the canonical one, what lies
beyond the finite range follows the store mode, and integer stores saturate. -/
def Obligations.NumberFormatsStoreAndSaturate : Prop :=
  (∀ (c : U32) (sat : Bool), ofF c ≠ .nan →
      toF (ofF c) = c ∧ ((∀ neg, ofF c ≠ .inf neg) → narrow 0x20 .nearest sat (.flt c) = c.toNat))
  ∧ (∀ ety ∈ [0x01, 0x02, 0x10, 0x11], ∀ f, floatType ety = some f →
      (∀ code, code < 2 * f.signBit → f.decode code ≠ .nan → (∀ neg, f.decode code ≠ .inf neg) →
        ∀ sat : Bool, narrow ety .nearest sat (widen ety code) = code)
      ∧ (∀ (sat : Bool) (r : Rounding) (c : U32), ofF c = .nan → narrow ety r sat (.flt c) = f.nan)
      -- beyond the range: the largest finite value when saturating, else infinity, else the canonical NaN
      ∧ (∀ (neg sat : Bool) (r : Rounding) (c : U32), ofF c = .inf neg →
          narrow ety r sat (.flt c) = if sat then (if neg then f.signBit else 0) + f.maxFin
            else match f.infinity with
              | some i => (if neg then f.signBit else 0) + i
              | none => f.nan)
      -- the nearest code: no other code of the format lies closer
      ∧ (∀ (c : U32) (m n : Nat) (e g : Int) (neg : Bool) (other : Nat), ofF c = .fin neg m e → other ≤ f.maxFin →
          f.decode other = .fin false n g → ∀ code, code = narrow ety .nearest true (.flt c) % f.signBit →
          ∀ n' g', f.decode code = .fin false n' g' → code < f.maxFin →
            ∀ value : Nat → Int → Rat, value = (fun (a : Nat) (b : Int) => (a : Rat) * pow2 b) →
            (value m e - value n' g') * (value m e - value n' g') ≤ (value m e - value n g) * (value m e - value n g)))
  ∧ (∀ (v : U32) (r : Rounding) (sat : Bool),
      narrow 0x00 r sat (.int v) = (BitVec.ofInt 8 (max (-128) (min 127 v.toInt))).toNat
      ∧ narrow 0x21 r sat (.int v) = v.toNat
      ∧ (ofF v = .nan → narrow 0x00 r sat (.flt v) = 0 ∧ narrow 0x21 r sat (.flt v) = 0)
      ∧ (ofF v = .inf false → narrow 0x00 r sat (.flt v) = 0x7F ∧ narrow 0x21 r sat (.flt v) = 0x7FFFFFFF)
      ∧ (ofF v = .inf true → narrow 0x00 r sat (.flt v) = 0x80 ∧ narrow 0x21 r sat (.flt v) = 0x80000000))
  ∧ (∀ code : Byte, widen 0x00 code.toNat = .int (code.signExtend 32) ∧ widen 0x03 code.toNat = .int (code.setWidth 32))

/-! ### Memory and integrity (08) -/

/-- R170, R171, R173 over one protected memory: a word reads as it was last written, poison stays until a write, every other word is
untouched, and the canonical form is kept. -/
def Obligations.MemoryWordsReadAsWritten : Prop :=
  ∀ (m : Memory) (d : Byte) (w : Nat), Memory.wf d m = true →
    (∀ x : FWord,
      Memory.wf d (m.writeWord d w x) = true
      ∧ (m.writeWord d w x).readWord d w = (if x.poison then ⟨0, true⟩ else ⟨x.data, false⟩)
      ∧ (m.writeWord d w x).mark w = (if x.poison then some .poison else none)
      ∧ (∀ v, v ≠ w → (m.writeWord d w x).readWord d v = m.readWord d v ∧ (m.writeWord d w x).mark v = m.mark v))
    ∧ (∀ xs : List FWord,
      Memory.wf d (m.writeWords d w xs) = true
      ∧ (∀ v, (m.writeWords d w xs).readWord d v
          = if w ≤ v ∧ v < w + xs.length then
              (if (xs.getD (v - w) ⟨0, false⟩).poison then ⟨0, true⟩ else xs.getD (v - w) ⟨0, false⟩)
            else m.readWord d v))
    ∧ (∀ (fuel a : Nat) (bs : List Byte), Memory.wf d (Memory.patch d fuel m a bs) = true)
    ∧ (∀ k : Option Mark, Memory.wf d (m.setMark w k) = true ∧ (m.setMark w k).mark w = k ∧ (m.setMark w k).bytes = m.bytes)
    -- what a read delivers
    ∧ (m.mark w = some .poison ∨ m.mark w = some .uncorrectable → m.readWord d w = ⟨0, true⟩)
    ∧ (m.mark w = some .correctable ∨ m.mark w = none →
        (m.readWord d w).poison = false
        ∧ ∀ k : Fin 8, (m.readWord d w).data.extractLsb' (8 * k) 8 = m.byte d (8 * w + k))

/-- R188, R189, R199: forced refreshes, refresh rates and the clear of the counters. -/
def Obligations.RefreshEventsAndCounterClear : Prop :=
  ∀ s : State, s.live = true →
    (∀ (c : Fin 4) (poisoned : Nat),
      ∃ t, exec (.forcedRefresh c poisoned) s = .next t
        ∧ t = { s with out := t.out, events := [], log := t.log, mem := { s.mem with
                  forcedRefresh := satAdd 32 s.mem.forcedRefresh 1 } }
        ∧ t.log = s.log.add { code := 0x3007, source := 0x100 + c, detail := poisoned, count := s.logCount })
    ∧ (∀ (c : Fin 4) (higher : Bool),
      ∃ t, exec (.dramRefreshRateChange c higher) s = .next t
        ∧ t = { s with out := [], events := [], mem := { s.mem with hot := t.mem.hot } }
        ∧ (c.val ∈ t.mem.hot ↔ higher = true)
        ∧ (∀ d : Fin 4, d ≠ c → (d.val ∈ t.mem.hot ↔ d.val ∈ s.mem.hot)))
    ∧ (∀ p : Principal, s.warden p = true →
      ∃ t, exec (.counterClear p) s = .next t
        ∧ t = { s.spendLatch p with
                out := [.odReply p 0], events := [], tiles := t.tiles
                mem := { s.mem with sramCorrected := 0, sramUncorrectable := 0, poisonConsumed := 0, lp5xCorrected := 0,
                                    lp5xUncorrectable := 0, forcedRefresh := 0 } }
        ∧ (∀ k : Fin 256, t.tile k = { s.tile k with ueCount := 0 }))
    ∧ (∀ p : Principal, s.warden p = false →
      exec (.counterClear p) s = .next { (s.spendLatch p).noteAbort p 0x2600 7 0x06010000 with
        out := [.odReply p 0x06010000], events := [] })

/-! ### Partitions and tallies (09) -/

/-- R211 to R214, R216 to R220: increments, reaches with their actions, clears, and partition resets. -/
def Obligations.TalliesReachOnceAndPartitionsReset : Prop :=
  ∀ s : State, s.live = true →
    -- what the flit of a TINC brings: the record's amount, once, when it issued in time and its tile answers (R107, R108)
    (∀ (i e : Nat),
      (s.mesh.transfers.find? (fun x => x.entry = e) = none → s.tincAmount i e = 0)
      ∧ (∀ x, s.mesh.transfers.find? (fun x => x.entry = e) = some x →
          s.tincAmount i e = if x.opcode = 0x70 ∧ x.late = false ∧ x.made = false ∧ x.tally = i ∧ s.answers x.tile = true
            then x.amount else 0))
    -- increments of one cycle are one increment
    ∧ (∀ (i : Fin 4096) (arrival : TincArrival), ∀ total, total = (arrival.entries.map (s.tincAmount i)).sum → ∀ c, c = s.tallyConfig i →
      ∀ v : U32, v = satAdd 32 (s.tally i).value total → ∀ u : State, u = (if total = 0 then s else s.tincsMade i arrival.entries) →
      (c.target = 0 ∨ c.target ≤ (s.tally i).value.toNat ∨ v.toNat < c.target →
        ∃ t, exec (.tallyIncrementArrival i arrival) s = .next t
          ∧ t = { s with out := [], events := [], tallies := t.tallies, mesh := u.mesh }
          ∧ t.tally i = { s.tally i with value := v }
          ∧ (∀ j : Nat, j ≠ i → t.tally j = s.tally j))
      ∧ (c.target ≠ 0 → (s.tally i).value.toNat < c.target → c.target ≤ v.toNat →
        ∃ t, exec (.tallyIncrementArrival i arrival) s = .next t
          ∧ t.tally i = { value := v, reached := true, at_ := some arrival.cycle } ∧ (∀ j : Nat, j ≠ i → t.tally j = s.tally j)
          ∧ t.tiles = s.tiles ∧ t.plan = s.plan ∧ t.bell = s.bell
          ∧ (c.event = false → c.fire = false → t = { s with out := [], events := [], tallies := t.tallies, mesh := u.mesh })
          -- EVENT: the notice of the tally's partition
          ∧ (∀ p, s.tallyOwner i = some p → p < 32 → c.event = true → c.fire = false →
              t = { s with out := [.msix p 0], events := [], tallies := t.tallies, parts := t.parts, mesh := u.mesh }
              ∧ vget t.parts p {} = { vget s.parts p {} with
                  lastNotified := i, notices := (vget s.parts p {}).notices + 1 }
              ∧ (∀ q : Nat, q ≠ p → vget t.parts q {} = vget s.parts q {}))
          -- FIRE: performed only where the partition runs and binds the sink
          ∧ (∀ p, s.tallyOwner i = some p → c.event = false → c.fire = true →
              s.inTier p = false ∨ s.binds p c.sinkKind c.sinkIndex = false ∨ s.bell.state = .orphaned →
              t = { s with out := [], events := [], tallies := t.tallies, mesh := u.mesh })
          ∧ (∀ p, s.tallyOwner i = some p → c.event = false → c.fire = true → s.inTier p = true →
              s.binds p c.sinkKind c.sinkIndex = true → s.bell.state ≠ .orphaned → c.sinkKind = 4 → c.sinkIndex < 4 →
              t = { s with out := [], events := [], tallies := t.tallies, mesh := u.mesh
                           host := { s.host with cameras := t.host.cameras } }
              ∧ ((s.camera c.sinkIndex).held = false → (s.camera c.sinkIndex).stale = false → s.plan.safe = false →
                  s.running = true → (s.camera c.sinkIndex).pulse = false →
                  t.camera c.sinkIndex = { s.camera c.sinkIndex with pulse := true, pulseEnd := s.now + s.camWidthNs c.sinkIndex })
              ∧ ((s.camera c.sinkIndex).held = true ∨ (s.camera c.sinkIndex).stale = true ∨ s.plan.safe = true →
                  t.host = s.host))))
    -- the selected tally of a principal that may access it
    ∧ (∀ (p : Principal) (i : Fin 4096), (s.copyOf p).tallySelect = i →
      s.warden p = true ∨ (s.present (s.actsAs p) = true ∧ s.inTallyRange (s.actsAs p) i = true) →
      (∀ amount : U16, amount ≠ 0 → ∀ c, c = s.tallyConfig i → ∀ v : U32, v = satAdd 32 (s.tally i).value amount.toNat →
        ∃ t, exec (.tallyIncrement p amount) s = .next t ∧ Output.odReply p 0 ∈ t.out
          ∧ (∀ j : Nat, j ≠ i → t.tally j = s.tally j)
          ∧ (c.target = 0 ∨ c.target ≤ (s.tally i).value.toNat ∨ v.toNat < c.target →
              t.tally i = { s.tally i with value := v }
              ∧ t = { s.spendLatch p with out := [.odReply p 0], events := [], tallies := t.tallies })
          ∧ (c.target ≠ 0 → (s.tally i).value.toNat < c.target → c.target ≤ v.toNat →
              t.tally i = { value := v, reached := true, at_ := none }
              ∧ (c.event = false → c.fire = false →
                  t = { s.spendLatch p with out := [.odReply p 0], events := [], tallies := t.tallies })))
      ∧ exec (.tallyIncrement p 0) s = .next { (s.spendLatch p).noteAbort p 0x2E01 2 0x06090030 with
          out := [.odReply p 0x06090030], events := [] }
      ∧ (∃ t, exec (.tallyClear p) s = .next t
          ∧ t = { s.spendLatch p with out := [.odReply p 0], events := [], tallies := t.tallies }
          ∧ t.tally i = {} ∧ (∀ j : Nat, j ≠ i → t.tally j = s.tally j)))
    ∧ (∀ p : Principal, s.warden p = false → s.present (s.actsAs p) = false ∨ s.inTallyRange (s.actsAs p) (s.copyOf p).tallySelect = false →
      exec (.tallyClear p) s = .next { (s.spendLatch p).noteAbort p 0x2E01 3 0x06010000 with
        out := [.odReply p 0x06010000], events := [] })
    -- partition resets
    ∧ (∀ p : Principal, s.warden p = true →
      exec (.partitionResetRequest p 0) s = .next { (s.spendLatch p).noteAbort p 0x2300 8 0x08000022 with
        out := [.odReply p 0x08000022], events := [] })
    ∧ (∀ (p : Principal) (k : PartNo), s.warden p = true → k.val ≠ 0 → s.running = true → s.present k = true →
      ∃ t, exec (.partitionResetRequest p k) s = .next t
        ∧ t = { s.spendLatch p with out := [.odReply p 0], events := [], parts := t.parts }
        ∧ vget t.parts k {} = { vget s.parts k {} with resetRequest := !(vget s.parts k {}).resetting }
        ∧ (∀ j : PartNo, j ≠ k → vget t.parts j {} = vget s.parts j {}))
    ∧ (∀ k : PartNo, (vget s.parts k {}).resetting = true →
      (∀ j ∈ s.tilesOf k, (s.tile j).forReset = true → (s.tile j).rebuild = .aligned) →
      ∃ t, exec (.partitionRebuilt k) s = .next t
        ∧ t = { s with out := [], events := [], parts := t.parts }
        ∧ vget t.parts k {} = { vget s.parts k {} with rebuilt := true }
        ∧ (∀ j : PartNo, j ≠ k → vget t.parts j {} = vget s.parts j {}))
    ∧ (∀ k : PartNo, (vget s.parts k {}).resetting = false →
      exec (.partitionRebuilt k) s = .next { s with out := [], events := [] })

/-! ### Drove links and the flock (10) -/

/-- R230: which plan slots are retry slots, how many cells a flow has, which slot each cell takes, and what the last cell carries. The
budget lies in the range of Table DROVE-4. -/
def Obligations.RetrySlotsAndCellPlaces : Prop :=
  ∀ (b first n i : Nat), b ≤ 200 →
    (∀ j, isRetrySlot b j = true ↔ j * b / 1000 < (j + 1) * b / 1000)
    ∧ n ≤ 240 * cellCount n ∧ 240 * cellCount n < n + 240
    -- cell i takes the i-th data slot at or after the first slot, counting from 0
    ∧ isRetrySlot b (cellSlot b first i) = false
    ∧ first ≤ cellSlot b first i
    ∧ ((List.range (cellSlot b first i)).filter (fun j => decide (first ≤ j) && !isRetrySlot b j)).length = i
    -- and a slot is read back as the cell that owns it
    ∧ (first ≠ 0xFFFFFFFF → i < cellCount n → cellAt b first n (cellSlot b first i) = some i)
    ∧ (∀ j, cellAt b first n j = none ∨ j = cellSlot b first ((cellAt b first n j).getD 0))
    -- zeros beyond N
    ∧ (∀ (ws : List FWord) (k : Fin 30) (o : Fin 8), ws.length * 8 ≥ n →
        ((cellWords (wordsUpTo ws n) i).getD k ⟨0, false⟩).data.extractLsb' (8 * o) 8
          = if 240 * i + 8 * k + o < n then (ws.getD (30 * i + k) ⟨0, false⟩).data.extractLsb' (8 * o) 8 else 0)

/-- R225, R230, R232 to R234: cells that arrive, the requests for those that do not, their second sending, and the deadline of a flow.
`e` is an entry of the tier in force that is received on port `p`, cell `i` of it takes slot `j`, and no other entry of the port owns
that slot or flow (R231). -/
def Obligations.DroveCellsRetriesAndDeadline : Prop :=
  ∀ (s : State) (p : PortNo), s.live = true → (s.port p).mode = .eligible → s.carries p = true →
    (∀ e ∈ s.droveEntries, e.2.kind = 2 → e.2.inPort = p.val → e.2.inSlot ≠ 0xFFFFFFFF → s.retryBudget ≤ 200 → e.2.flow < 2 ^ 16 →
      (∀ f ∈ s.droveEntries, f.2.kind ≠ 1 → f.2.inPort = p.val → f.1 ≠ e.1 →
        f.2.flow ≠ e.2.flow ∧ ∀ k ∈ List.range (cellCount f.2.bytes), ∀ i ∈ List.range (cellCount e.2.bytes),
          cellSlot s.retryBudget f.2.inSlot k ≠ cellSlot s.retryBudget e.2.inSlot i) →
      s.delivered e.1 = false →
      -- a damaged cell is dropped, counted and asked for
      (∀ (cell : Cell), ∀ i ∈ List.range (cellCount e.2.bytes), i < 2 ^ 16 →
        (∀ j, j = cellSlot s.retryBudget e.2.inSlot i → j < s.tickSlots → j / 8 ≤ (s.port p).askedFrame →
          (j ∉ (s.port p).asking →
            exec (.droveCellReceived p j cell false) s
              = .next ({ s with out := [.retryRequest p j], events := [] }.onPort p (fun x => { x with
                  crcFails := satAdd 32 x.crcFails 1, asking := x.asking ++ [j], askedFrame := j / 8 })))
          ∧ (j ∈ (s.port p).asking →
            exec (.droveCellReceived p j cell false) s
              = .next ({ s with out := [], events := [] }.onPort p (fun x => { x with crcFails := satAdd 32 x.crcFails 1 }))))
        -- the requests are repeated in each control position until they are met
        ∧ (∀ j, j = cellSlot s.retryBudget e.2.inSlot i → j < s.tickSlots → (s.port p).askedFrame < j / 8 → j ∈ (s.port p).asking →
            exec (.droveCellReceived p j cell false) s
              = .next ({ s with out := (s.port p).asking.map (fun k => .retryRequest p k), events := [] }.onPort p (fun x => { x with
                  crcFails := satAdd 32 x.crcFails 1, askedFrame := j / 8 })))
        -- an intact data or retry cell of this tick's parity is held, whatever slot brings it, and its request ends
        ∧ (∀ (j : Nat) (c : Cell), c = { cell with
              flow := BitVec.ofNat 16 e.2.flow, index := BitVec.ofNat 16 i, parity := s.parity, service := none } →
            c.kind = 1 ∨ c.kind = 2 → s.holdsCell e.1 i = false → j < s.tickSlots → j / 8 ≤ (s.port p).askedFrame →
          ∀ u : State, u = s.onPort p (fun x => { x with asking := x.asking.filter (fun k =>
              k ≠ cellSlot s.retryBudget e.2.inSlot i && !(decide (c.kind = 2) && isRetrySlot s.retryBudget k)) }) →
          exec (.droveCellReceived p j c true) s = .next { u with
            out := [], events := [], drove := { u.drove with cells := s.drove.cells ++ [⟨e.1, i, c.words⟩] } })
        -- a cell of the other parity, a placeholder or a test cell leaves nothing, nor does one past the last slot of the tick
        ∧ (∀ j, cell.service = none → cell.parity ≠ s.parity ∨ (cell.kind ≠ 1 ∧ cell.kind ≠ 2) → j / 8 ≤ (s.port p).askedFrame →
            exec (.droveCellReceived p j cell true) s = .next { s with out := [], events := [] })
        ∧ (∀ (j : Nat) (crcOk : Bool), cell.service = none → s.tickSlots ≤ j →
            exec (.droveCellReceived p j cell crcOk) s = .next { s with out := [], events := [] }))
      -- the deadline delivers every cell, poison for those not held, and logs the loss once for the flow
      ∧ (∃ t, exec (.flowDeadline e.1) s = .next t
          ∧ t.delivered e.1 = true
          ∧ (∀ n, n = ((List.range (cellCount e.2.bytes)).filter (fun i => !s.holdsCell e.1 i)).length →
              (t.port p).lost = satAdd 32 (s.port p).lost n
              ∧ (n = 0 ∨ e.2.flow ∈ s.drove.lossLogged → t.log = s.log)
              ∧ (n ≠ 0 → e.2.flow ∉ s.drove.lossLogged →
                  t.log = s.log.add { code := 0x4001, source := 0x100 + p, count := s.logCount,
                                      detail := e.2.flow * 2 ^ 16 + min n 0xFFFF }))
          ∧ (∀ x ∈ t.drove.delivered, x.1 = e.1 → ∀ i ∈ List.range (cellCount e.2.bytes), ∀ k : Fin 30,
              (s.holdsCell e.1 i = false → x.2.getD (30 * i + k) ⟨1, false⟩ = ⟨0, true⟩)
              ∧ ((∀ c ∈ s.drove.cells, c.words.length = 30) →
                  ∀ c, s.drove.cells.find? (fun c => c.entry = e.1 && c.number = i) = some c →
                    x.2.getD (30 * i + k) ⟨1, false⟩ = c.words.getD k ⟨1, false⟩))
          ∧ t = { s with out := t.out, events := [], log := t.log, field := t.field,
                         drove := { s.drove with
                           ports := t.drove.ports, lossLogged := t.drove.lossLogged, delivered := t.drove.delivered } }
          ∧ (∀ q : PortNo, q ≠ p → t.port q = s.port q)))
    ∧ (∀ entry, s.delivered entry = true → exec (.flowDeadline entry) s = .next { s with out := [], events := [] })
    -- a request joins the queue when the cell was sent in this tick
    ∧ (∀ (j now : Nat) (c : Cell), assocGet j (s.port p).sentCells = some c → (∀ r ∈ (s.port p).requests, r.1 ≠ j) →
        exec (.retryRequestReceived p [j] now true) s
          = .next ({ s with out := [], events := [] }.onPort p (fun x => { x with requests := x.requests ++ [(j, now)] })))
    ∧ (∀ (js : List Nat) (now : Nat), exec (.retryRequestReceived p js now false) s = .next { s with out := [], events := [] })
    -- an unused retry slot resends the oldest request it may serve, as kind 2
    ∧ (∀ (j slot arrived : Nat) (rest : List (Nat × Nat)) (c : Cell), (s.port p).requests = (j, arrived) :: rest →
        isRetrySlot s.retryBudget slot = true → slot < s.planSlots → assocGet slot (s.port p).sentCells = none →
        j + 24 ≤ slot → arrived < slot → assocGet j (s.port p).sentCells = some c →
        exec (.retryCellSend p slot) s
          = .next ({ s with out := [.cell p slot { c with kind := 2 }], events := [] }.onPort p (fun x => { x with
              requests := rest, retries := satAdd 32 x.retries 1,
              sentCells := assocPut slot { c with kind := 2 } x.sentCells })))
    -- a data slot, a used slot or one past the plan slots carries none
    ∧ (∀ slot, isRetrySlot s.retryBudget slot = false ∨ s.planSlots ≤ slot ∨ assocGet slot (s.port p).sentCells ≠ none →
        exec (.retryCellSend p slot) s = .next { s with out := [], events := [] })

/-- R244, R246 to R250, Table DROVE-8: what takes a port DOWN and what follows, training, and the end of probation. -/
def Obligations.PortsDropTrainAndServeProbation : Prop :=
  ∀ (s : State) (p : PortNo) (w : Principal), s.live = true → s.warden w = true →
    -- lock lost, peer reset, the third failure in probation, command 2
    (∀ (report : LinkReport) (slot : Nat) (cell : Cell), report.cause = 2 → report.state.val = 1 →
      report.port.val = (s.port p).peer.toNat % 256 → report.member.val = (s.port p).peerMember →
      ∀ e ∈ [(Instr.portLockLost p, 1), (.linkReportReceived p report true, 2), (.droveCellReceived p slot cell false, 3),
             (.portCmdTakeDown w p, 4)],
        ((s.port p).mode = .eligible ∨ (s.port p).mode = .probation) →
        (e.2 = 3 → (s.port p).mode = .probation ∧ 2 ≤ (s.port p).probationFails ∧ slot < s.tickSlots) →
        ∃ t, exec e.1 s = .next t
          ∧ (t.port p).mode = .down
          ∧ (t.drove.lost = s.drove.lost →
              t.log = s.log.add { code := 0x4002, source := 0x100 + p, detail := e.2, count := s.logCount })
          ∧ (∀ c ∈ t.drove.cells, c ∈ s.drove.cells
              ∧ ∀ x ∈ s.droveEntries, x.1 = c.entry → x.2.kind ≠ 1 → x.2.inPort ≠ p.val)
          ∧ (∀ pl, s.plan.plan = some pl → ∀ x ∈ pl.tiers, ∀ y, x = some y → bitOf y.entry.droveMask p = true →
              t.excludesLost pl y = false)
          ∧ (∀ q : Principal, (t.copyOf q).gateway
              = if s.role = .bellwether ∧ (s.copyOf q).gateway.status = 1
                    ∧ ((s.pathTo (s.copyOf q).gateway.target).getD []).contains (s.ownId, p.val) = true
                then { (s.copyOf q).gateway with status := 4 } else (s.copyOf q).gateway)
          ∧ (e.2 = 4 → Output.odReply w 0 ∈ t.out)
          -- a member tells the bellwether the port's new state and its cause
          ∧ (∀ u, s.role = .member → s.uplink = some u → u ≠ p → (s.port u).mode = .eligible →
              ∃ r : LinkReport, Output.linkReport u r ∈ t.out ∧ r.member = Fin.ofNat 128 s.ownId ∧ r.port = p ∧ r.state = 1
                ∧ r.cause = BitVec.ofNat 8 e.2)
          -- the port's forward entries go on with placeholders in the slots to come (R246); no other port changes otherwise
          ∧ (∀ q : PortNo, q ≠ p → t.port q = { s.port q with sentCells := (t.port q).sentCells }
              ∧ ∀ j c, assocGet j (t.port q).sentCells = some c → assocGet j (s.port q).sentCells = some c
                  ∨ (c.kind = 4 ∧ c.words = List.replicate 30 ⟨0, true⟩ ∧ s.slotBegun j = false))
          ∧ t = { s with out := t.out, events := [], log := t.log, field := t.field
                         host := { s.host with copies := t.host.copies }
                         plan := { s.plan with sentWord := t.plan.sentWord }
                         drove := { s.drove with ports := t.drove.ports, cells := t.drove.cells,
                                                 linkDown := t.drove.linkDown, lost := t.drove.lost } })
    ∧ (((s.port p).mode = .down ∨ (s.port p).mode = .disabled) →
        exec (.portLockLost p) s
          = .next ({ s with out := [], events := [] }.onPort p (fun x => { x with signal := false })))
    ∧ ((s.port p).mode = .disabled → ∀ c ∈ [Instr.portCmdTrain w p, .portCmdTakeDown w p],
        exec c s = .next { (s.spendLatch w).noteAbort w (0x2700 + p) 9 0x08000022 with
          out := [.odReply w 0x08000022], events := [] })
    -- training while a plan runs: phase 1 waits for the next maintenance slot
    ∧ (s.running = true → (s.port p).mode = .down →
        exec (.portCmdTrain w p) s
          = .next ({ s.spendLatch w with out := [.odReply w 0], events := [] }.onPort p (fun x => { x with
              mode := .training, phase := 1, trainFails := 0, retryIn := none, wantTrain := true }))
        ∧ (s.obj (0x2700 + p.val) 0xA = 1 →
            exec (.portSignalDetected p) s
              = .next ({ s with out := [], events := [] }.onPort p (fun x => { x with
                  signal := true, mode := .training, phase := 1, trainFails := 0, retryIn := none, wantTrain := true })))
        ∧ (s.obj (0x2700 + p.val) 0xA = 0 →
            exec (.portSignalDetected p) s
              = .next ({ s with out := [], events := [] }.onPort p (fun x => { x with signal := true })))
        ∧ (∀ n, (s.port p).retryIn = some n →
            exec (.portRetrainRetry p) s
              = .next (if 1000 ≤ n then { s with out := [], events := [] }.onPort p (fun x => { x with
                    mode := .training, phase := 1, trainFails := 0, retryIn := none, wantTrain := true })
                  else { s with out := [], events := [] })))
    -- a lost lock fails the phase: phase 1 again, and the fifth time in a row DOWN with detail 5
    ∧ ((s.port p).mode = .training → (s.port p).trainFails < 4 →
        exec (.portLockLost p) s
          = .next ({ s with out := [], events := [] }.onPort p (fun x => { x with
              signal := false, phase := 1, trainFails := x.trainFails + 1 })))
    ∧ ((s.port p).mode = .training → 4 ≤ (s.port p).trainFails →
        ∃ t, exec (.portLockLost p) s = .next t
          ∧ (t.port p).mode = .down ∧ (t.port p).retryIn = some 0 ∧ (t.port p).trainFails = 0
          ∧ (t.drove.lost = s.drove.lost →
              t.log = s.log.add { code := 0x4002, source := 0x100 + p, detail := 5, count := s.logCount })
          ∧ (∀ q : PortNo, q ≠ p → t.port q = { s.port q with sentCells := (t.port q).sentCells })
          ∧ t.bell = s.bell ∧ t.tiles = s.tiles ∧ t.mem = s.mem)
    -- the end of probation
    ∧ ((s.port p).mode = .probation → (s.port p).probation = 0 →
        ∃ t, exec (.probationEnd p) s = .next t
          ∧ t.port p = { s.port p with mode := .eligible }
          ∧ (∀ q : PortNo, q ≠ p → t.port q = s.port q)
          ∧ (t.drove.lost = s.drove.lost →
              t.log = s.log.add { code := 0x4003, source := 0x100 + p, detail := (s.port p).probationFails, count := s.logCount })
          -- a lost member whose plan is the one in force waits for the restart (R250)
          ∧ (∀ x, (s.port p).peerPlan = some x → s.role = .bellwether → s.running = true → x.1 < 128 → s.drove.lost.getLsbD x.1 = true →
              x.1 ∉ s.drove.readmit → ∀ y, s.plan.plan = some y →
              (y.header.planId = x.2.toNat → t.drove.readmit = s.drove.readmit ++ [x.1] ∧ t.drove.resend = s.drove.resend)
              -- one with another plan is sent its image first (R251)
              ∧ (y.header.planId ≠ x.2.toNat → (∀ r ∈ s.drove.resend, r.1 ≠ x.1) →
                  t.drove.resend = s.drove.resend ++ [(x.1, 0)] ∧ t.drove.readmit = s.drove.readmit))
          ∧ t = { s with out := t.out, events := [], log := t.log, field := t.field
                         plan := { s.plan with sentWord := t.plan.sentWord }
                         drove := { s.drove with ports := t.drove.ports, linkDown := t.drove.linkDown, lost := t.drove.lost,
                                                 readmit := t.drove.readmit, resend := t.drove.resend } })
    ∧ ((s.port p).mode ≠ .probation ∨ (s.port p).probation ≠ 0 →
        exec (.probationEnd p) s = .next { s with out := [], events := [] })

/-- R237, R239, R240, Tables DROVE-5 and DROVE-6: formation starts, gathers the graph, and ends FORMED or FAILED; the pair of the
chapter's worked example, for any two serial numbers. -/
def Obligations.FormationNumbersTheDomain : Prop :=
  ∀ (s : State) (w : Principal), s.live = true → s.warden w = true →
    (s.role = .bellwether → s.running = false → s.plan.status = 0 ∨ 3 ≤ s.plan.status →
        ∃ t, exec (.domainCmdForm w) s = .next t
          ∧ Output.odReply w 0 ∈ t.out
          ∧ t.drove.domain = 1 ∧ t.drove.graph = [] ∧ t.drove.failure = 0 ∧ t.drove.topology = 0 ∧ t.drove.present = 0
          ∧ t.drove.lost = 0
          ∧ (∀ q : PortNo, (s.port q).mode = .eligible → Output.probe q (.request (s.drove.round + 1)) ∈ t.out)
          ∧ (∀ q : PortNo, (s.port q).mode = .down → (s.port q).signal = false → (t.port q).mode = .training)
          ∧ t.bell = s.bell ∧ t.plan = { s.plan with received := [] } ∧ t.tiles = s.tiles ∧ t.mem = s.mem)
    ∧ (s.role ≠ .bellwether ∨ s.running = true → ∀ c ∈ [Instr.domainCmdForm w],
        exec c s = .next { (s.spendLatch w).noteAbort w 0x2710 0xC 0x08000022 with
          out := [.odReply w 0x08000022], events := [] })
    -- while a plan runs, command 2 is a stop first
    ∧ (s.role = .bellwether → s.plan.status = 3 →
        exec (.domainCmdReform w) s = .next { s.spendLatch w with
          out := [.odReply w 0], events := []
          plan := { s.plan with status := 5, stopAt := some s.stopBell, reformAfterStop := true } })
    -- probes: an answer joins the bellwether's graph; a number assigned becomes the member's ID
    ∧ (∀ (p : PortNo) (node : U32) (bw : Bool) (l : GraphLink), s.role = .bellwether → s.drove.domain = 1 →
        (s.port p).mode = .eligible → l ∉ s.drove.graph →
        exec (.probeReceived p (.reply node bw [l]) true) s = .next { s with
          out := [], events := [], drove := { s.drove with second := s.drove.second || bw, graph := s.drove.graph ++ [l] } })
    ∧ (∀ (p primary : PortNo) (m : Fin 128), s.role = .member → (s.port p).mode = .eligible →
        (s.running = false ∨ s.bell.state = .orphaned →
          ∃ t, exec (.probeReceived p (.assign s.board.serial m primary) true) s = .next t
            ∧ t = { s with out := t.out, events := [], drove := { s.drove with memberId := m.val }
                           bell := { s.bell with primary := some primary } }
            -- the neighbours are told who is at this end
            ∧ (∀ q : PortNo, (s.port q).mode = .eligible → Output.probe q (.peerInfo (BitVec.ofNat 8 m.val) q
                (if s.plan.running then BitVec.ofNat 64 s.planId else 0) s.bell.count) ∈ t.out))
        -- another device's number goes on, away from the bellwether
        ∧ (∀ (node : U32) (q : PortNo), node ≠ s.board.serial → s.drove.parent = some p → q ≠ p → (s.port q).mode = .eligible →
            ∃ t, exec (.probeReceived p (.assign node m primary) true) s = .next t
              ∧ t = { s with out := t.out, events := [] } ∧ Output.probe q (.assign node m primary) ∈ t.out))
    ∧ (∀ (p : PortNo) (x : Probe), exec (.probeReceived p x false) s = .next { s with out := [], events := [] })
    -- failures
    ∧ (s.role = .bellwether → s.drove.domain = 1 → ∀ d : DroveUnit, d = { s.drove with domain := 3 } →
        exec .formationTimeout s = .next { s with
          out := [], events := [], drove := { d with failure := 1 }, plan := { s.plan with reformAfterStop := false } }
        ∧ (s.running = false → s.drove.second = true →
          exec .formationSettled s = .next { s with
            out := [], events := [], drove := { d with failure := 6 }, plan := { s.plan with reformAfterStop := false } }))
    ∧ (s.role ≠ .bellwether ∨ s.drove.domain ≠ 1 → ∀ c ∈ [Instr.formationTimeout, .formationSettled],
        exec c s = .next { s with out := [], events := [] })
    -- one link, DRV0 to DRV0
    ∧ (∀ (peer : U32) (h : Nat), s.role = .bellwether → s.running = false → s.drove.domain = 1 → s.drove.second = false →
        peer ≠ s.board.serial → s.drove.graph = [⟨s.board.serial, 0, peer, 0, h⟩] →
        (80000 < h ∨ s.ownHopsShort = false → s.obj 0x2710 3 ≤ 1 →
          exec .formationSettled s = .next { s with
            out := [], events := [], drove := { s.drove with domain := 3, failure := 4 }
            plan := { s.plan with reformAfterStop := false } })
        ∧ (1 < s.obj 0x2710 3 →
          exec .formationSettled s = .next { s with
            out := [], events := [], drove := { s.drove with domain := 3, failure := 5 }
            plan := { s.plan with reformAfterStop := false } })
        ∧ (h ≤ 80000 → s.ownHopsShort = true → s.obj 0x2710 3 ≤ 1 → s.boot.autoload = false → s.plan.reformAfterStop = false →
          (∀ l ∈ s.drove.linkDown, l ≠ (0, 0) ∧ l ≠ (1, 0)) →
          ∃ t, exec .formationSettled s = .next t
            ∧ t.drove.domain = 2 ∧ t.drove.topology = 3 ∧ t.drove.depth = 1 ∧ t.drove.present = 2
            ∧ t.drove.ids = [(peer.toNat, 1)]
            ∧ t.log = s.log.add { code := 0x4005, source := 3, detail := 0x0101, count := s.logCount }
            ∧ Output.probe 0 (.assign peer 1 0) ∈ t.out
            ∧ t = { s with out := t.out, events := [], log := t.log, field := t.field, drove := t.drove }))

/-- R241, R243, R247: gateway requests and their ends, demand words, link reports. -/
def Obligations.GatewayDemandWordsAndLinkReports : Prop :=
  ∀ (s : State) (w : Principal), s.live = true → s.warden w = true →
    (∀ write : Bool, ∀ c, c = (if write then Instr.gatewayWrite w else .gatewayRead w) →
      ∀ g, g = (s.copyOf w).gateway →
        (g.status = 1 →
          exec c s = .next { (s.spendLatch w).noteAbort w 0x2710 0x14 0x08000020 with
            out := [.odReply w 0x08000020], events := [] })
        -- too long, or no path
        ∧ (∀ r, odRow? (g.object / 2 ^ 16) (g.object / 256 % 256) = some r → g.status ≠ 1 → 8 < r.bytes →
            exec c s = .next { (s.spendLatch w).setCopy w (fun x => { x with
                gateway := { x.gateway with status := 3, abort := 0x06070010, write := write } }) with
              out := [.odReply w 0], events := [] })
        ∧ (∀ r, odRow? (g.object / 2 ^ 16) (g.object / 256 % 256) = some r → g.status ≠ 1 → r.bytes ≤ 8 → s.routePort g.target = none →
            exec c s = .next { (s.spendLatch w).setCopy w (fun x => { x with gateway := { x.gateway with status := 4, write := write } }) with
              out := [.odReply w 0], events := [] })
        ∧ (∀ r, odRow? (g.object / 2 ^ 16) (g.object / 256 % 256) = some r → g.status ≠ 1 → r.bytes ≤ 8 → s.routePort g.target ≠ none →
            ∀ q rest, s.route g.target = q :: rest →
            -- its cells wait for the next maintenance slot, or leave at once where no bell rings (log 160)
            exec c s = .next { (s.spendLatch w).setCopy w (fun x => { x with
                gateway := { x.gateway with status := 1, abort := 0, write := write, sent := !s.running } }) with
              out := (if s.running then [] else [.service q {
                  member := Fin.ofNat 128 g.target, principal := w, object := BitVec.ofNat 32 g.object, write := write, answer := false
                  abort := 0, data := BitVec.ofNat 64 (g.low.toNat + 2 ^ 32 * g.high.toNat), route := rest, back := [] }])
                ++ [.odReply w 0]
              events := [] })
        -- the reply and the timeout end a request that is outstanding, and no other
        ∧ (g.status = 1 →
            (∀ data : U64, exec (.gatewayReply w 0 data) s
              = .next ({ s with out := [], events := [] }.setCopy w (fun x => { x with gateway :=
                  if g.write then { x.gateway with status := 2 }
                  else { x.gateway with status := 2, low := data.setWidth 32, high := (data >>> 32).setWidth 32 } })))
            ∧ (∀ (code : U32) (data : U64), code ≠ 0 → exec (.gatewayReply w code data) s
              = .next ({ s with out := [], events := [] }.setCopy w (fun x => { x with gateway :=
                  { x.gateway with status := 3, abort := code } })))
            ∧ exec (.gatewayTimeout w) s
              = .next ({ s with out := [], events := [] }.setCopy w (fun x => { x with gateway := { x.gateway with status := 5 } })))
        ∧ (g.status ≠ 1 → ∀ (code : U32) (data : U64), ∀ d ∈ [Instr.gatewayReply w code data, .gatewayTimeout w],
            exec d s = .next { s with out := [], events := [] }))
    ∧ (s.warden w = true → ∀ v : Principal, s.warden v = false → ∀ c ∈ [Instr.gatewayWrite v, .gatewayRead v],
        exec c s = .next { (s.spendLatch v).noteAbort v 0x2710 0x14 0x06010000 with
          out := [.odReply v 0x06010000], events := [] })
    -- a service cell goes on along its path, or is served at its end, and the answer takes the path back
    ∧ (∀ (p : PortNo) (slot : Nat) (cell : Cell) (x : Service), cell.service = some x → cell.kind = 3 → (s.port p).mode = .eligible →
        s.running = false ∨ cell.parity = s.parity →
        (∀ q rest, x.route = q :: rest → (s.port q).mode = .eligible →
          exec (.droveCellReceived p slot cell true) s = .next { s with
            out := [.service q { x with route := rest, back := p :: x.back }], events := [] })
        ∧ (x.route = [] → x.answer = false → x.write = false → ∀ u : State, u = { s with out := [], events := [] } →
            ∀ idx, idx = x.object.toNat / 65536 → ∀ sub, sub = x.object.toNat / 256 % 256 →
            (∀ e, u.serveRead x.principal idx sub = .error e →
              exec (.droveCellReceived p slot cell true) s = .next { s with
                out := [.service p { x with answer := true, abort := BitVec.ofNat 32 e, data := 0, route := x.back, back := [] }], events := [] })
            ∧ (∀ v n y, u.serveRead x.principal idx sub = .ok (v, n, y) →
              ∃ t, exec (.droveCellReceived p slot cell true) s = .next t
                ∧ Output.service p { x with answer := true, abort := 0, data := BitVec.ofNat 64 v, route := x.back, back := [] } ∈ t.out))
        ∧ (x.route = [] → x.answer = true → s.role = .bellwether → (s.copyOf x.principal).gateway.status = 1 → x.abort ≠ 0 →
            exec (.droveCellReceived p slot cell true) s = .next ({ s with out := [], events := [] }.setCopy x.principal (fun y => { y with
              gateway := { y.gateway with status := 3, abort := x.abort } }))))
    -- a demand word replaces the one its sender gave on that port, before bell 0 as well (R51, R52)
    ∧ (∀ (p : PortNo) (m : Fin 128) (word : U32), (s.port p).mode = .eligible →
        ∃ t, exec (.demandBlockReceived p m word true) s = .next t
          ∧ t.plan.received = s.plan.received.filter (fun r => !(r.1 = p.val && r.2.1 = m.val)) ++ [(p.val, m.val, word, 0)]
          ∧ (∀ k : Fin 5, bitsOf word.toNat (4 * k) 4 ≤ t.joinedDemands.getD k 0)
          ∧ (∀ k : Fin 5, s.demands.getD k 0 ≤ t.joinedDemands.getD k 0)
          ∧ (s.role ≠ .member → t.out = [] ∧ t.plan.sentWord = s.plan.sentWord)
          -- a member passes on what it now asks for, when that is new; too late for the next bell it leaves it to that bell (R55)
          ∧ (∀ u, s.role = .member → s.plan.plan.isSome = true → s.inTime = true → s.uplink = some u → (s.port u).mode = .eligible →
              BitVec.ofNat 32 (packDemands t.joinedDemands) ≠ s.plan.sentWord →
              t.out = [.demand u (BitVec.ofNat 32 (packDemands t.joinedDemands))])
          ∧ t = { s with out := t.out, events := [], plan := { s.plan with
                    received := t.plan.received, sentWord := t.plan.sentWord } })
    ∧ (∀ (p : PortNo) (m : Fin 128) (word : U32), (s.port p).mode ≠ .eligible →
        exec (.demandBlockReceived p m word true) s = .next { s with out := [], events := [] })
    -- the report that takes a member's last link marks it lost
    ∧ (∀ (p : PortNo) (r : LinkReport) (m q : Nat), (s.port p).mode = .eligible → s.tellsPeerReset p r = false →
        s.role = .bellwether → r.state = 1 → r.member.val = m → m ≠ 0 → r.port.val = q →
        (∀ k : Fin 128, s.cutOff k = true → s.drove.lost.getLsbD k = true) → s.drove.lost.getLsbD m = false →
        (∀ l ∈ s.drove.links, l.1.1 ≠ l.2.1) → s.drove.links.any (fun l => l.1.1 = m || l.2.1 = m) = true →
        (∀ l ∈ s.drove.links, l.1.1 = m ∨ l.2.1 = m →
          l.1 = (m, q) ∨ l.2 = (m, q) ∨ l.1 ∈ s.drove.linkDown ∨ l.2 ∈ s.drove.linkDown) →
        (∀ l ∈ s.drove.links, l.1 = (m, q) → l.2.1 = 0) → (∀ l ∈ s.drove.links, l.2 = (m, q) → l.1.1 = 0) →
        ∃ t, exec (.linkReportReceived p r true) s = .next t
          ∧ t.drove.lost = s.drove.lost ||| BitVec.ofNat 128 (2 ^ m)
          ∧ t.log = s.log.add { code := 0x4004, source := m, detail := 1, count := s.logCount }
          ∧ t = { s with out := t.out, events := [], log := t.log, field := t.field,
                         host := { s.host with copies := t.host.copies }
                         drove := { s.drove with lost := t.drove.lost, linkDown := t.drove.linkDown } }
          -- requests whose path the report names end with status 4 (R246)
          ∧ (∀ v : Principal, (t.copyOf v).gateway
              = if (s.copyOf v).gateway.status = 1 ∧ ((s.pathTo (s.copyOf v).gateway.target).getD []).contains (m, q) = true
                then { (s.copyOf v).gateway with status := 4 } else (s.copyOf v).gateway))
    -- a member passes a report on towards the bellwether
    ∧ (∀ (p u : PortNo) (r : LinkReport), (s.port p).mode = .eligible → s.tellsPeerReset p r = false → s.role = .member →
        s.uplink = some u → u ≠ p → (s.port u).mode = .eligible →
        exec (.linkReportReceived p r true) s = .next { s with out := [.linkReport u r], events := [] })
    ∧ (∀ (p : PortNo) (r : LinkReport), exec (.linkReportReceived p r false) s = .next { s with out := [], events := [] })

/-! ### Host and sensor ports (11) -/

/-- R191, R204, R255, R259, R307, R441: the memory window and the resets of PCIe functions. -/
def Obligations.MemoryWindowAndFunctionResets : Prop :=
  ∀ (s : State) (p : Principal), isFunction p = true →
    -- an access by a VF shows that the host has set VF Enable (log 8)
    (s.live = true → ∀ base, base = (s.windowOf (s.actsAs p)).1 → ∀ size, size = (s.windowOf (s.actsAs p)).2 → ∀ o len : Nat,
      -- beyond the window
      (size < o + len → exec (.memoryWindowRead p ⟨.memory, o⟩ len) s = .next { s.vfAccess p with out := [.unsupported p], events := [] })
      -- a read of words without an error: their bytes
      ∧ (o + len ≤ size → s.mem.selfRefresh = [] → s.mem.lp5x.marks = [] →
        exec (.memoryWindowRead p ⟨.memory, o⟩ len) s = .next { s.vfAccess p with
          out := [.hostData p ((List.range len).map (fun k => s.mem.lp5x.byte 0 (base + o + k))) false], events := [] })
      -- a read that meets the poison word: EP, and its bytes read as zero
      ∧ (∀ w, o + len ≤ size → s.mem.selfRefresh = [] → s.mem.lp5x.marks = [(w, .poison)] → (base + o) / 8 ≤ w →
          8 * w < base + o + len → 0 < len →
        exec (.memoryWindowRead p ⟨.memory, o⟩ len) s = .next { s.vfAccess p with
          out := [.hostData p ((List.range len).map (fun k =>
            if (base + o + k) / 8 = w then 0 else s.mem.lp5x.byte 0 (base + o + k))) true], events := [] })
      -- a channel in self-refresh holds the request
      ∧ (o + len ≤ size → s.refreshes (base + o) len = true →
        exec (.memoryWindowRead p ⟨.memory, o⟩ len) s = .next { s.vfAccess p with
          out := [], events := [], mem := { s.mem with held := s.mem.held ++ [⟨p, base + o, none, false, len⟩] } })
      ∧ (s.refreshes (base + o) len = true ↔ ∃ k < len, (Config.lp5xChannel s.usable (base + o + k)).val ∈ s.mem.selfRefresh)
      -- the mailbox window: the front buffer selected, zero beyond its length or with none selected; writes are discarded (R262)
      ∧ ((s.copyOf p).view = none → exec (.memoryWindowRead p ⟨.mailbox, o⟩ len) s
          = .next { s.vfAccess p with out := [.hostData p (List.replicate len 0) false], events := [] })
      ∧ (∀ m : Fin 64, (s.copyOf p).view = some m → s.mem.mailbox.marks = [] →
          exec (.memoryWindowRead p ⟨.mailbox, o⟩ len) s = .next { s.vfAccess p with
            out := [.hostData p ((List.range len).map (fun k => if o + k < (s.mailbox m).length then
              s.mem.mailbox.byte 0 ((2 * m.val + (if (s.mailbox m).front then 1 else 0)) * 65536 + o + k) else 0)) false]
            events := [] })
      ∧ (∀ (data : List Byte) (ep : Bool), exec (.memoryWindowWrite p ⟨.mailbox, o⟩ data ep) s
          = .next { s.vfAccess p with out := [], events := [] }))
    -- writes
    ∧ (s.live = true → ∀ base, base = (s.windowOf (s.actsAs p)).1 → ∀ size, size = (s.windowOf (s.actsAs p)).2 →
      ∀ (o : Nat) (data : List Byte),
      (∀ ep : Bool, size < o + data.length → exec (.memoryWindowWrite p ⟨.memory, o⟩ data ep) s = .next { s.vfAccess p with out := [], events := [] })
      ∧ (o + data.length ≤ size → s.mem.selfRefresh = [] → s.mem.lp5x.marks = [] →
        ∃ t, exec (.memoryWindowWrite p ⟨.memory, o⟩ data false) s = .next t
          ∧ t = { s.vfAccess p with out := [], events := [], mem := { s.mem with lp5x := t.mem.lp5x } }
          ∧ t.mem.lp5x.marks = []
          ∧ (∀ a : Nat, t.mem.lp5x.byte 0 a
              = if base + o ≤ a ∧ a < base + o + data.length then data.getD (a - (base + o)) 0 else s.mem.lp5x.byte 0 a))
      ∧ (o + data.length ≤ size → s.mem.selfRefresh = [] → data ≠ [] →
        ∃ t, exec (.memoryWindowWrite p ⟨.memory, o⟩ data true) s = .next t
          ∧ t = { s.vfAccess p with out := [], events := [], mem := { s.mem with lp5x := t.mem.lp5x } }
          ∧ (∀ w : Nat, t.mem.lp5x.readWord 0 w
              = if (base + o) / 8 ≤ w ∧ 8 * w < base + o + data.length then ⟨0, true⟩ else s.mem.lp5x.readWord 0 w)))
    -- a Function Level Reset clears the copies of its function
    ∧ (∃ t, exec (.functionLevelReset p) s = .next t
        ∧ t = { s with out := [], events := [], host := { s.host with
                  copies := t.host.copies, vfEnable := if p = .pf then false else s.host.vfEnable } }
        ∧ t.copyOf p = {} ∧ (∀ q : Principal, copyIndex q ≠ copyIndex p → t.copyOf q = s.copyOf q))
    -- the fundamental reset is one of every function, and nothing else
    ∧ (∃ t, exec .pcieFundamentalReset s = .next t
        ∧ t = { s with out := [], events := [], host := { s.host with copies := t.host.copies, vfEnable := false } }
        ∧ t.copyOf p = {} ∧ (∀ c : Fin 2, t.copyOf (.usdo c) = s.copyOf (.usdo c)))

/-- R260 to R262, R265 with Table HOST-4: arriving results, acknowledgement and view. -/
def Obligations.MailboxesHoldWhatWasNotAcknowledged : Prop :=
  ∀ (s : State) (m : Fin 64), s.live = true →
    -- results reach the back buffer; a PENDING one is discarded and counted
    (∀ (len : Nat) (words : List FWord), words.length ≤ 8192 →
      ∃ t, exec (.mailboxDataArrival m len words) s = .next t
        ∧ (t.mailbox m).back = .filling ∧ (t.mailbox m).backLength = len
        ∧ (t.mailbox m).generation = (s.mailbox m).generation ∧ (t.mailbox m).ready = (s.mailbox m).ready
        ∧ (t.mailbox m).front = (s.mailbox m).front ∧ (t.mailbox m).length = (s.mailbox m).length
        ∧ (∀ j : Fin 64, j ≠ m → t.mailbox j = s.mailbox j)
        -- the words stand in the back buffer, poison as the poison word; every other word is as before
        ∧ (∀ base, base = (2 * m.val + (if (s.mailbox m).front then 0 else 1)) * 8192 →
            ∀ w : Nat, t.mem.mailbox.readWord 0 w
              = if base ≤ w ∧ w < base + words.length then
                  (if (words.getD (w - base) ⟨0, false⟩).poison then ⟨0, true⟩ else words.getD (w - base) ⟨0, false⟩)
                else s.mem.mailbox.readWord 0 w)
        ∧ ((s.mailbox m).back ≠ .pending →
            t = { s with out := [], events := [], host := { s.host with mailboxes := t.host.mailboxes },
                         mem := { s.mem with mailbox := t.mem.mailbox } }
            ∧ (t.mailbox m).skips = (s.mailbox m).skips)
        ∧ ((s.mailbox m).back = .pending →
            (t.mailbox m).skips = satAdd 32 (s.mailbox m).skips 1
            ∧ t = { s with out := t.out, events := [], log := t.log, host := { s.host with mailboxes := t.host.mailboxes },
                           mem := { s.mem with mailbox := t.mem.mailbox } }
            ∧ ((s.mailbox m).lastLog = none →
                t.log = s.log.add { code := 0x5001, source := m, count := s.logCount,
                                    detail := min ((s.mailbox m).newSkips + 1) 0xFFFF * 65536 + min (s.mailbox m).newDrops 0xFFFF }
                ∧ (t.mailbox m).lastLog = some s.bell.count.toNat)
            ∧ (∀ l, (s.mailbox m).lastLog = some l → l ≤ s.bell.count.toNat → s.bell.count.toNat < l + 1000 → t.log = s.log)))
    -- an acknowledgement of the published generation; a PENDING result is published at once
    ∧ (∀ (p : Principal) (v : U32), s.mailboxOwner m = some (s.actsAs p) →
      ((s.mailbox m).ready = true → v = (s.mailbox m).generation → (s.mailbox m).back ≠ .pending →
        ∃ t, exec (.mailboxAck p m v) s = .next t
          ∧ t = { s.spendLatch p with
                  out := [.odReply p 0], events := [], host := { (s.spendLatch p).host with mailboxes := t.host.mailboxes } }
          ∧ t.mailbox m = { s.mailbox m with ready := false }
          ∧ (∀ j : Fin 64, j ≠ m → t.mailbox j = s.mailbox j))
      ∧ ((s.mailbox m).ready = true → v = (s.mailbox m).generation → (s.mailbox m).back = .pending →
        ∃ t, exec (.mailboxAck p m v) s = .next t
          ∧ t = { s.spendLatch p with
                  events := [], host := { (s.spendLatch p).host with mailboxes := t.host.mailboxes }
                  out := (if s.obj (0x2D00 + m) 0xA = 1 then [.msix (s.actsAs p) 1] else []) ++ [.odReply p 0] }
          ∧ t.mailbox m = { s.mailbox m with
              front := !(s.mailbox m).front, length := (s.mailbox m).backLength, poisoned := (s.mailbox m).backPoisoned
              generation := if (s.mailbox m).generation = 0xFFFFFFFF then 1 else (s.mailbox m).generation + 1
              stale := false, overrun := false, ready := true, back := .empty }
          ∧ (∀ j : Fin 64, j ≠ m → t.mailbox j = s.mailbox j))
      ∧ ((s.mailbox m).ready = false ∨ v ≠ (s.mailbox m).generation →
        exec (.mailboxAck p m v) s = .next { s.spendLatch p with out := [.odReply p 0], events := [] }))
    ∧ (∀ (p : Principal) (v : U32), s.mailboxOwner m ≠ some (s.actsAs p) →
      exec (.mailboxAck p m v) s = .next { (s.spendLatch p).noteAbort p (0x2D00 + m) 6 0x06010000 with
        out := [.odReply p 0x06010000], events := [] })
    -- the view moves for this principal alone
    ∧ (∀ p : Principal, s.warden p = true ∨ (s.mailboxOwner m = some (s.actsAs p) ∧ s.present (s.actsAs p) = true) →
      exec (.mailboxView p m) s = .next { (s.spendLatch p).setCopy p (fun c => { c with view := some m }) with
        out := [.odReply p 0], events := [] })

/-- R267 to R272 with Tables HOST-6 and HOST-7: one camera's frame, lines, cutoff and deadline. The plan places slots and lines at
multiples of 16 bytes. -/
def Obligations.CameraFramesReachTheirSlot : Prop :=
  ∀ (s : State) (c : Fin 4), s.live = true → ∀ n, n = s.bell.count.toNat →
    -- frame starts: the first of a tick is captured, a second one discarded
    (∀ (vc : BitVec 2) (frame : U16) (now : Nat), s.camRuns c = true → bitsOf (s.camWord c) 6 2 = vc.toNat →
      ∀ k, k = (if now < s.bell.at_ + s.cutoffNs then n else n + 1) →
      ∃ t, exec (.csiFrameStart c vc frame now) s = .next t
        ∧ t = { s with out := [], events := [], now := now, host := { s.host with cameras := t.host.cameras } }
        ∧ (∀ d : Fin 4, d ≠ c → t.camera d = s.camera d)
        ∧ ((s.camTick c k).start = none →
            t.camTick c k = { s.camTick c k with start := some (now, frame.toNat) } ∧ (t.camera c).receiving = some k)
        ∧ ((s.camTick c k).start.isSome = true →
            t.camTick c k = { s.camTick c k with second := true } ∧ (t.camera c).receiving = none))
    ∧ (∀ (vc : BitVec 2) (frame : U16) (now : Nat), s.camRuns c = false ∨ bitsOf (s.camWord c) 6 2 ≠ vc.toNat →
      exec (.csiFrameStart c vc frame now) s = .next { s with out := [], events := [], now := now })
    -- lines: stored as Table HOST-6 says, poison where the CRC failed
    ∧ (∀ (vc : BitVec 2) (dt : BitVec 6) (samples : List U16) (ok : Bool) (now k : Nat), (s.camera c).receiving = some k →
      s.camRuns c = true → bitsOf (s.camWord c) 6 2 = vc.toNat → bitsOf (s.camWord c) 8 6 = dt.toNat →
      (s.camTick c k).lines < s.camLines c →
      ∀ bytes, bytes = (if dt = 0x2A then s.camWidth c else 2 * s.camWidth c) →
      dt = 0x2A ∨ dt = 0x2B ∨ dt = 0x2C ∨ dt = 0x1E →
      -- the low 10 or 12 bits of a sample in two bytes, the upper ones zero
      ∀ data : List Byte, data = (if dt = 0x2B then samples.flatMap (fun x => toLE 2 (x.toNat % 1024))
        else if dt = 0x2C then samples.flatMap (fun x => toLE 2 (x.toNat % 4096))
        else samples.map (fun x => BitVec.ofNat 8 x.toNat)) → bytes ≤ data.length →
      ∀ lineB, lineB = (bytes + 15) / 16 * 16 →
      ∀ w, w = (s.camSlot c k + 64 + (s.camTick c k).lines * lineB) / 8 →
      ∃ t, exec (.csiLineReceived c vc dt samples ok now) s = .next t
        ∧ t = { s with out := [], events := [], now := now, host := { s.host with cameras := t.host.cameras },
                       mem := { s.mem with lp5x := t.mem.lp5x } }
        ∧ t.camTick c k = { s.camTick c k with
            lines := (s.camTick c k).lines + 1
            intact := (s.camTick c k).intact + (if ok then 1 else 0)
            poisoned := (s.camTick c k).poisoned + (if ok then 0 else 1)
            crcErrors := (s.camTick c k).crcErrors + (if ok then 0 else 1) }
        ∧ (∀ j : Nat, t.mem.lp5x.readWord 0 j
            = if w ≤ j ∧ j < w + lineB / 8 then
                (if ok then ⟨BitVec.ofNat 64 (leNat (((data.take bytes).drop (8 * (j - w))).take 8)), false⟩ else ⟨0, true⟩)
              else s.mem.lp5x.readWord 0 j))
    ∧ (∀ (vc : BitVec 2) (dt : BitVec 6) (samples : List U16) (ok : Bool) (now : Nat),
      (s.camera c).receiving = none ∨ s.camRuns c = false ∨ bitsOf (s.camWord c) 6 2 ≠ vc.toNat
        ∨ bitsOf (s.camWord c) 8 6 ≠ dt.toNat ∨ (dt ≠ 0x2A ∧ dt ≠ 0x2B ∧ dt ≠ 0x2C ∧ dt ≠ 0x1E) →
      exec (.csiLineReceived c vc dt samples ok now) s = .next { s with out := [], events := [], now := now })
    -- no frame by the cutoff: the slot below its header is poison
    ∧ ((∀ d : Fin 4, d ≠ c → s.camRuns d = false) → s.camRuns c = true → (s.camTick c n).start = none →
      ∃ t, exec .ingestCutoff s = .next t
        ∧ t = { s with out := [], events := [], host := { s.host with cameras := t.host.cameras },
                       mem := { s.mem with lp5x := t.mem.lp5x } }
        ∧ t.camTick c n = { s.camTick c n with missing := true }
        ∧ (∀ j : Nat, t.mem.lp5x.readWord 0 j
            = if (s.camSlot c n + 64) / 8 ≤ j ∧ j < (s.camSlot c n + 64) / 8 + (s.camSlotSize c - 64) / 8 then ⟨0, true⟩
              else s.mem.lp5x.readWord 0 j))
    ∧ ((∀ d : Fin 4, s.camRuns d = false ∨ (s.camTick d n).start.isSome = true) →
      exec .ingestCutoff s = .next { s with out := [], events := [] })
    -- the deadline: header, missing lines as poison, the lowest cause in the log
    ∧ (∀ start frame : Nat, s.camRuns c = true → (s.camTick c n).start = some (start, frame) → s.camSlot c n % 8 = 0 →
        (s.camTick c n).lines ≤ s.camLines c → (s.camTick c n).missing = false →
      ∃ t, exec (.captureDeadline c) s = .next t
        ∧ t = { s with out := t.out, events := [], log := t.log, host := { s.host with cameras := t.host.cameras },
                       mem := { s.mem with lp5x := t.mem.lp5x } }
        ∧ t.camTick c n = {} ∧ (∀ d : Fin 4, d ≠ c → t.camera d = s.camera d)
        ∧ t.mem.lp5x.readWord 0 (s.camSlot c n / 8) = ⟨BitVec.ofNat 64 n, false⟩
        ∧ (∀ x, x = s.camTick c n → ∀ miss, miss = s.camLines c - x.lines →
            (t.mem.lp5x.readWord 0 (s.camSlot c n / 8 + 1)).data
              = BitVec.ofNat 64 (unsignedOf 32 ((start : Int) - (s.bell.at_ : Int)) + 2 ^ 32 * (frame % 65536)
                + 2 ^ 48 * (x.intact % 65536))
            ∧ (t.mem.lp5x.readWord 0 (s.camSlot c n / 8 + 2)).data
              = BitVec.ofNat 64 ((x.poisoned + miss) % 65536 + 65536 * ((if miss = 0 then 1 else 0)
                + (if x.short || decide (0 < miss) then 4 else 0) + (if 0 < x.crcErrors then 8 else 0)))
            ∧ (0 < miss → t.log = s.log.add { code := 0x5002, source := 0x110 + c, detail := 2 * 2 ^ 24 + miss, count := s.logCount })
            ∧ (miss = 0 → x.second = true →
                t.log = s.log.add { code := 0x5002, source := 0x110 + c, detail := 3 * 2 ^ 24, count := s.logCount })
            ∧ (miss = 0 → x.second = false → 0 < x.crcErrors →
                t.log = s.log.add { code := 0x5002, source := 0x110 + c, detail := 4 * 2 ^ 24 + x.crcErrors, count := s.logCount })
            ∧ (miss = 0 → x.second = false → x.crcErrors = 0 → t.log = s.log)))
    ∧ (s.camRuns c = false → exec (.captureDeadline c) s = .next { s with out := [], events := [] })
    -- a trigger pulse ends once it has lasted the configured width
    ∧ (∀ now : Nat, ∃ t, exec (.camTrigPulseEnd ⟨c, now⟩) s = .next t
        ∧ t = { s with out := [], events := [], now := now, host := { s.host with cameras := t.host.cameras } }
        ∧ t.camera c = { s.camera c with pulse := (s.camera c).pulse && decide (now < (s.camera c).pulseEnd) }
        ∧ (∀ d : Fin 4, d ≠ c → t.camera d = s.camera d))

/-! ### Field network (12) -/

/-- R277 to R280: how a transmission ends, aborts, bus-off and recovery. The counts after recovery and the error-passive limit are
those of ISO 11898-1 (log 23). -/
def Obligations.CanTransmissionsAbortsAndBusOff : Prop :=
  ∀ (s : State) (c : Fin 2), s.live = true →
    (∀ f : TxFrame, (s.can c).off = false → (s.can c).state ≠ .asleep → (s.can c).current = some (.buffer f) →
      ∀ ident, ident = f.frame.ident →
      ∀ put : TxFrame → State, put = (fun g => { s with out := [], events := [] }.onCan c (fun x => { x with
          buffers := putFrame f g x.buffers })) →
      -- it starts to take part in arbitration; the sample point of its RRS bit passes; it loses or is interrupted, and is pending again
      exec (.canTxDone c ident .started) s = .next (put { f with state := .arbitrating })
      ∧ exec (.canTxDone c ident .won) s = .next (put { f with
          state := .committed, frame := { f.frame with esi := f.frame.fd && decide ((s.can c).state = .errorPassive) } })
      ∧ (f.abortLate = none → ∀ r ∈ [TxEnd.lost, .error], exec (.canTxDone c ident r) s = .next (put { f with state := .pending }))
      -- sent whole: it leaves its buffer, the error count falls, and an abort that came too late is logged
      ∧ ((s.can c).queued = [] → s.field.sleep = .awake →
        ∃ t, exec (.canTxDone c ident .sent) s = .next t
          ∧ t = { s with out := t.out, events := [], log := t.log, field := { s.field with can := t.field.can } }
          ∧ (∀ tec, tec = (s.can c).tec - (if (s.can c).tec = 0 then 0 else 1) →
              t.can c = { s.can c with
                buffers := dropFrame f (s.can c).buffers, tec := tec
                state := if 127 < tec.toNat ∨ 127 < (s.can c).recc.toNat then .errorPassive else .errorActive })
          ∧ (∀ d : Fin 2, d ≠ c → t.can d = s.can d)
          ∧ (f.abortLate = none → t.log = s.log)
          ∧ (∀ k, f.abortLate = some k →
              t.log = s.log.add { code := 0x6002, source := 0x140 + c, detail := k % 4 * 2 ^ 29 + f.frame.ident.toNat, count := s.logCount }))
      -- with an abort that met it on the bus it is not sent again; one that had won is logged
      ∧ ((s.can c).queued = [] → ∀ k, f.abortLate = some k → ∀ r ∈ [TxEnd.lost, .error],
        ∃ t, exec (.canTxDone c ident r) s = .next t
          ∧ t.can c = { s.can c with buffers := dropFrame f (s.can c).buffers }
          ∧ (r = .error → f.state = .committed →
              t.log = s.log.add { code := 0x6002, source := 0x140 + c, count := s.logCount,
                                  detail := 2 ^ 31 + k % 4 * 2 ^ 29 + f.frame.ident.toNat })
          ∧ (r = .lost ∨ f.state ≠ .committed → t.log = s.log)))
    -- which frame that is: the one on the bus; else a halt frame, in ascending input, then the lowest identifier; and no other is sent
    ∧ (∀ f ∈ (s.can c).buffers, (s.can c).haltOnBus = none → (s.can c).halt = [] → (∀ g ∈ (s.can c).buffers, g.state = .pending) →
        (∀ g ∈ (s.can c).buffers, g.frame.ident = f.frame.ident → g = f) →
        (∀ g ∈ (s.can c).buffers, f.frame.ident.toNat ≤ g.frame.ident.toNat) → (s.can c).current = some (.buffer f))
    ∧ (∀ i ∈ (s.can c).halt, (s.can c).haltOnBus = none → (∀ g ∈ (s.can c).buffers, g.state = .pending) →
        (∀ j ∈ (s.can c).halt, i ≤ j) → (s.can c).current = some (.halt i))
    ∧ (∀ (ident : BitVec 11) (r : TxEnd), (∀ f, (s.can c).current = some (.buffer f) → f.frame.ident ≠ ident) →
        (∀ i, (s.can c).current = some (.halt i) → (s.haltFrame i).ident ≠ ident) ∨ (s.can c).off = true ∨ (s.can c).state = .asleep →
        exec (.canTxDone c ident r) s = .next { s with out := [], events := [] })
    -- a halt frame that was sent leaves the halt buffer; interrupted, it is offered again
    ∧ (∀ i : Fin 16, (s.can c).current = some (.halt i) → (s.can c).off = false → (s.can c).state ≠ .asleep →
      (s.field.sleep = .awake →
        ∃ t, exec (.canTxDone c (s.haltFrame i).ident .sent) s = .next t
          ∧ t = { s with out := [], events := [], field := { s.field with can := t.field.can } }
          ∧ (t.can c).halt = (s.can c).halt.filter (fun j => j ≠ i) ∧ (t.can c).haltOnBus = none
          ∧ (t.can c).buffers = (s.can c).buffers)
      ∧ (∀ r ∈ [TxEnd.lost, .error], exec (.canTxDone c (s.haltFrame i).ident r) s
          = .next ({ s with out := [], events := [] }.onCan c (fun x => { x with haltOnBus := none }))))
    -- the warden's abort: pending frames go, frames that won complete late with cause 3, the halt buffer stays
    ∧ (∀ p : Principal, s.warden p = true →
      ∃ t, exec (.canAbortCommand p c) s = .next t
        ∧ t = { s.spendLatch p with out := [.odReply p 0], events := [], field := { s.field with can := t.field.can } }
        ∧ t.can c = { s.can c with queued := [], buffers := (s.can c).buffers.filterMap (fun g =>
              if g.state = .pending then none else some { g with abortLate := some (g.abortLate.getD 3) }) }
        ∧ (∀ d : Fin 2, d ≠ c → t.can d = s.can d))
    -- bus-off
    ∧ ((s.can c).state ≠ .busOff → (s.can c).state ≠ .recovering → (s.can c).state ≠ .asleep →
      ∃ t, exec (.canBusOff c) s = .next t
        ∧ t = { s with out := t.out, events := [], log := t.log, field := { s.field with can := t.field.can } }
        ∧ t.can c = { s.can c with state := .busOff, busOffs := min ((s.can c).busOffs + 1) 0xFFF, buffers := [], queued := [], haltOnBus := none }
        ∧ (∀ d : Fin 2, d ≠ c → t.can d = s.can d)
        ∧ t.log = s.log.add { code := 0x6001, source := 0x140 + c, detail := min ((s.can c).busOffs + 1) 0xFFF, count := s.logCount })
    ∧ ((s.can c).state = .busOff →
      ∃ t, exec (.busOffRecoveryStart c) s = .next t
        ∧ t = { s with out := [], events := [], field := { s.field with can := t.field.can } }
        ∧ t.can c = { s.can c with state := .recovering })
    ∧ ((s.can c).state ≠ .busOff → exec (.busOffRecoveryStart c) s = .next { s with out := [], events := [] })
    ∧ ((s.can c).state ≠ .recovering → exec (.busOffRecoveryDone c) s = .next { s with out := [], events := [] })
    ∧ ((s.can c).state = .recovering →
      ∃ t, exec (.busOffRecoveryDone c) s = .next t
        ∧ t = { s with out := [], events := [], field := t.field }
        ∧ (t.can c).state = .errorActive ∧ (t.can c).tec = 0 ∧ (t.can c).recc = 0 ∧ (t.can c).busOffs = (s.can c).busOffs
        ∧ (t.can c).nominal = s.obj 0x2300 (0x20 + 2 * c) ∧ (t.can c).dataWord = s.obj 0x2300 (0x21 + 2 * c)
        ∧ t.field.errorReg = s.field.errorReg ||| 0x10
        -- EMCY 0x8140 goes out where the service mask lets it
        ∧ (s.field.nmt = .operational ∨ s.field.nmt = .preOperational → s.field.emcyInhibit = false → s.field.emcy = [] →
            bitOf (s.obj 0x2300 0x25) (3 + 4 * c) = true →
            (t.can c).buffers = (s.can c).buffers ++ [{ kind := .emcy, frame :=
              ⟨BitVec.ofNat 11 (s.obj 0x1014 0), true, false, false, [0x40, 0x81, t.field.errorReg, 0, 0, 0, 0, 0], true, false⟩ }])
        ∧ (bitOf (s.obj 0x2300 0x25) (3 + 4 * c) = false ∨ s.field.nmt = .stopped → (t.can c).buffers = (s.can c).buffers))
    -- the error counts
    ∧ (∀ tec rx : Byte,
      ∃ t, exec (.canBusError c tec rx) s = .next t
        ∧ t = { s with out := [], events := [], field := { s.field with can := t.field.can } }
        ∧ t.can c = { s.can c with tec := tec, recc := rx, state := (t.can c).state }
        ∧ ((s.can c).state = .busOff ∨ (s.can c).state = .recovering ∨ (s.can c).state = .asleep →
            (t.can c).state = (s.can c).state)
        ∧ ((s.can c).state = .errorActive ∨ (s.can c).state = .errorPassive →
            ((t.can c).state = .errorPassive ↔ 127 < tec.toNat ∨ 127 < rx.toNat)
            ∧ ((t.can c).state = .errorActive ↔ tec.toNat ≤ 127 ∧ rx.toNat ≤ 127)))

/-- R281 to R284, R294, R295: NMT, heartbeat, EMCY and USDO. -/
def Obligations.NodeAnswersNmtHeartbeatEmcyAndUsdo : Prop :=
  ∀ s : State, s.live = true →
    (∀ node : Byte, node = 0 ∨ node.toNat = s.nodeId →
      -- in Operational the SYNCs of the TPDOs count from anew
      (s.field.emcy = [] ∨ s.field.emcyInhibit = true →
        ∃ t, exec (.nmtStart node) s = .next t
          ∧ t = { s with out := [], events := [], field := { s.field with nmt := .operational, tpdos := t.field.tpdos } }
          ∧ (∀ n : Fin 32, t.tpdo n = if s.field.nmt = .operational then s.tpdo n else { s.tpdo n with syncs := none }))
      ∧ exec (.nmtStop node) s = .next { s with out := [], events := [], field := { s.field with nmt := .stopped } }
      ∧ (s.field.emcy = [] ∨ s.field.emcyInhibit = true →
        exec (.nmtEnterPreoperational node) s
          = .next { s with out := [], events := [], field := { s.field with nmt := .preOperational } })
      -- an EMCY that waited in Stopped goes out (R294)
      ∧ (∀ d, s.field.emcy = [d] → s.field.emcyInhibit = false → s.field.nmt = .stopped →
        ∃ t, exec (.nmtEnterPreoperational node) s = .next t ∧ t.field.emcy = [] ∧ t.field.nmt = .preOperational
          ∧ (∀ c : Fin 2, (s.can c).state ≠ .asleep → (t.can c).buffers = (s.can c).buffers
              ++ (if bitOf (s.obj 0x2300 0x25) (3 + 4 * c) then [{ kind := .emcy, frame := fdFrame (s.obj 0x1014 0) d }] else [])))
      -- both resets: the communication objects take their defaults, the node starts again, nothing else is touched
      ∧ (∀ cmd ∈ [Instr.nmtResetNode node, .nmtResetCommunication node], s.field.emcy = [] →
          ∃ t, exec cmd s = .next t
            ∧ t = { s with out := [], events := [], od := t.od, field := { s.field with
                      errorReg := 0, nmt := t.field.nmt, can := t.field.can, tpdos := t.field.tpdos } }
            ∧ (∀ n : Fin 32, t.tpdo n = {})
            ∧ t.field.nmt = (if s.obj 0x2300 0x2D = 1 then .operational else .preOperational)
            ∧ (∀ i k : Nat, k < 256 → 0x1000 ≤ i → i < 0x2000 → t.obj i k = odDefault s.nodeId i k)
            ∧ (∀ i k : Nat, k < 256 → 0x2000 ≤ i → t.obj i k = s.obj i k)
            ∧ (∀ c : Fin 2, (s.can c).state ≠ .asleep → (t.can c).buffers = (s.can c).buffers
                ++ (if bitOf (s.obj 0x2300 0x25) (4 * c) then
                    [{ kind := .bootup, frame := ⟨BitVec.ofNat 11 (0x700 + s.nodeId), false, false, false, [0], false, false⟩ }] else []))))
    ∧ (∀ node : Byte, node ≠ 0 → node.toNat ≠ s.nodeId →
      ∀ cmd ∈ [Instr.nmtStart node, .nmtStop node, .nmtEnterPreoperational node, .nmtResetNode node, .nmtResetCommunication node],
        exec cmd s = .next { s with out := [], events := [] })
    -- the heartbeat, in every NMT state
    ∧ (s.obj 0x1017 0 = 0 ∨ s.field.sleep ≠ .awake → exec .heartbeatProduce s = .next { s with out := [], events := [] })
    ∧ (s.obj 0x1017 0 ≠ 0 → s.field.sleep = .awake →
      ∃ t, exec .heartbeatProduce s = .next t
        ∧ t = { s with out := [], events := [], field := { s.field with can := t.field.can } }
        ∧ (∀ c : Fin 2, (s.can c).state ≠ .asleep → (t.can c).buffers = (s.can c).buffers
            ++ (if bitOf (s.obj 0x2300 0x25) (4 * c) then [{ kind := .heartbeat, frame :=
                ⟨BitVec.ofNat 11 (0x700 + s.nodeId), false, false, false, [BitVec.ofNat 8 s.field.nmt.code], false, false⟩ }] else [])))
    -- a monitored node is silent
    ∧ (∀ k : Fin 8, bitsOf (s.obj 0x1016 (k + 1)) 0 16 ≠ 0 → bitsOf (s.obj 0x1016 (k + 1)) 16 8 ≠ 0 →
      ∃ t, exec (.heartbeatConsumerTimeout k) s = .next t
        ∧ t = { s with out := [], events := [], field := t.field }
        ∧ t.field.errorReg = s.field.errorReg ||| 0x10
        ∧ t.field.nmt = (if s.obj 0x1029 1 = 0 then .preOperational else if s.obj 0x1029 1 = 2 then .stopped else s.field.nmt)
        -- within the inhibit time the EMCY waits, at most eight of them
        ∧ (s.field.nmt = .operational → s.field.emcyInhibit = true →
            t.field.emcy = (if s.field.emcy.length < 8
              then s.field.emcy ++ [[0x30, 0x81, s.field.errorReg ||| 0x10, 0, 0, 0, 0, 0]] else s.field.emcy)
            ∧ t.field.can = s.field.can))
    ∧ (∀ k : Fin 8, bitsOf (s.obj 0x1016 (k + 1)) 0 16 = 0 →
      exec (.heartbeatConsumerTimeout k) s = .next { s with out := [], events := [] })
    -- the inhibit time ends
    ∧ (s.field.emcy = [] →
      exec .emcyInhibitExpiry s = .next { s with out := [], events := [], field := { s.field with emcyInhibit := false } })
    ∧ (s.field.nmt = .stopped →
      exec .emcyInhibitExpiry s = .next { s with out := [], events := [], field := { s.field with emcyInhibit := false } })
    ∧ (∀ d r, s.field.emcy = d :: r → s.field.nmt = .operational → s.obj 0x1015 0 ≠ 0 →
      ∃ t, exec .emcyInhibitExpiry s = .next t
        ∧ t = { s with out := [], events := [], field := { s.field with
                  emcy := r, emcyInhibit := true, can := t.field.can } }
        ∧ (∀ c : Fin 2, (s.can c).state ≠ .asleep → (t.can c).buffers = (s.can c).buffers
            ++ (if bitOf (s.obj 0x2300 0x25) (3 + 4 * c) then
                [{ kind := .emcy, frame := ⟨BitVec.ofNat 11 (s.obj 0x1014 0), true, false, false, d, true, false⟩ }] else [])))
    -- the warden clears the error register: error code 0x0000
    ∧ (∀ p : Principal, s.warden p = true → s.field.nmt = .operational → s.field.emcyInhibit = false → s.field.emcy = [] →
      ∃ t, exec (.clearErrorRegister p) s = .next t
        ∧ t = { s.spendLatch p with out := [.odReply p 0], events := [], field := { s.field with
                  errorReg := 0, emcyInhibit := decide (s.obj 0x1015 0 ≠ 0), can := t.field.can } }
        ∧ (∀ c : Fin 2, (s.can c).state ≠ .asleep → (t.can c).buffers = (s.can c).buffers
            ++ (if bitOf (s.obj 0x2300 0x25) (3 + 4 * c) then
                [{ kind := .emcy, frame := ⟨BitVec.ofNat 11 (s.obj 0x1014 0), true, false, false, [0, 0, 0, 0, 0, 0, 0, 0], true, false⟩ }]
                else [])))
    -- USDO: one session per controller; each answer goes into a frame of the node's (the frame sizes and its bytes are log 97)
    ∧ (∀ c : Fin 2, ∀ reply : U32 → List Byte → TxFrame, reply = (fun e data => { kind := .usdo, frame :=
        ⟨BitVec.ofNat 11 (0x580 + s.nodeId), true, false, false, Config.usdoAnswer e.toNat data, true, false⟩ }) →
      ∀ answered : U32 → List Byte → State, answered = (fun e data =>
        { s with out := [.usdo c e data], events := [] }.queueFrame c (reply e data)) →
      ((s.can c).transfer = none →
        exec (.usdoInitiate c .badSpecifier) s = .next (answered 0x05040001 [])
        ∧ (∀ (i : U16) (k : Byte), odIndex i.toNat = false →
            exec (.usdoInitiate c (.upload i k)) s = .next (answered 0x06020000 []))
        ∧ exec (.usdoInitiate c (.upload 0x2100 3)) s = .next (answered 0 (toLE 8 s.bell.count.toNat))
        -- a segmented upload of the 64 backup bytes
        ∧ (s.warden (.usdo c) = true → ∀ bytes, bytes = toLE 64 (s.objW 0x2B20 0) →
            exec (.usdoInitiate c (.upload 0x2B20 0)) s = .next ((answered 0 (bytes.take 52)).onCan c (fun x => { x with
              transfer := some (odKey 0x2B20 0, bytes.drop 52, true) })))
        -- a whole download of the minimum flow
        ∧ (∀ v : U32, s.warden (.usdo c) = true → v.toNat ≤ 100000 →
            ∃ t, exec (.usdoInitiate c (.download 0x2510 5 4 (toLE 4 v.toNat))) s = .next t
              ∧ t = { answered 0 [] with od := t.od } ∧ t.obj 0x2510 5 = v.toNat)
        ∧ (∀ (data : List Byte) (last : Bool), exec (.usdoSegment c data last) s = .next (answered 0x05040001 []))
        ∧ exec (.usdoSegmentTimeout c) s = .next { s with out := [], events := [] })
      -- an open transfer: the next segment, the timeout, the general error of a new request
      ∧ (∀ key bytes, (s.can c).transfer = some (key, bytes, true) →
        (∀ (data : List Byte) (last : Bool),
          exec (.usdoSegment c data last) s = .next ((answered 0 (bytes.take 60)).onCan c (fun x => { x with
            transfer := if bytes.length ≤ 60 then none else some (key, bytes.drop 60, true) })))
        ∧ exec (.usdoSegmentTimeout c) s
            = .next ((answered 0x05040000 []).onCan c (fun x => { x with transfer := none }))
        ∧ ∀ n, n = toLE 8 s.bell.count.toNat →
          exec (.usdoInitiate c (.upload 0x2100 3)) s = .next ({ answered 0x08000000 [] with
              out := [.usdo c 0x08000000 [], .usdo c 0 n] }.queueFrame c (reply 0 n) |>.onCan c (fun x => { x with transfer := none })))
      ∧ (∀ key bytes, (s.can c).transfer = some (key, bytes, false) → ∀ data : List Byte,
        exec (.usdoSegment c data false) s = .next ((answered 0 []).onCan c (fun x => { x with
          transfer := some (key, bytes ++ data, false) }))))

/-- R276, R282, R283, R285, R288 to R292, R298: received frames and PDOs without a plan. -/
def Obligations.PdosFollowMappingOwnerAndSync : Prop :=
  ∀ s : State, s.live = true →
    -- RPDOs
    (∀ (n : Fin 32) (data : List Byte),
      (s.field.nmt ≠ .operational ∨ bitOf (s.obj (0x1400 + n) 1) 31 = true →
        exec (.rpdoReceived n data) s = .next { s with out := [], events := [] })
      ∧ (s.field.nmt = .operational → bitOf (s.obj (0x1400 + n) 1) 31 = false →
        ∀ l, l = ((List.range (s.obj (0x1600 + n) 0)).map (fun k => bitsOf (s.obj (0x1600 + n) (k + 1)) 0 8)).sum / 8 →
        -- too short: EMCY 0x8210, not used
        (data.length < l →
          ∃ t, exec (.rpdoReceived n data) s = .next t
            ∧ t = { s with out := [], events := [], field := t.field } ∧ t.field.rpdos = s.field.rpdos
            ∧ t.field.errorReg = s.field.errorReg ||| 0x10)
        -- with an owner it waits for the bell, and the last one counts
        ∧ (l ≤ data.length → bitsOf (s.obj 0x2300 (0x60 + n)) 24 8 ≠ 0xFF →
          ∃ t, exec (.rpdoReceived n data) s = .next t
            ∧ t = { s with out := [], events := [], field := { s.field with rpdos := t.field.rpdos } }
            ∧ t.rpdo n = { s.rpdo n with next := some (data.take l), timeout := false }
            ∧ (∀ m : Fin 32, m ≠ n → t.rpdo m = s.rpdo m))
        -- without one its object is written as the session's principal writes it, whatever the transmission type
        ∧ (∀ e : Nat, l ≤ data.length → bitsOf (s.obj 0x2300 (0x60 + n)) 24 8 = 0xFF →
          s.obj (0x1600 + n) 0 = 1 → s.obj (0x1600 + n) 1 = e →
          ∀ c : Fin 2, c = (if bitOf (s.obj 0x2300 0x27) n then 1 else 0) →
          ∀ y, y = { s with out := [], events := [] }.onRpdo n (fun x => { x with timeout := false }) →
          exec (.rpdoReceived n data) s = run (fun _ =>
            match State.serveWrite (.usdo c) (bitsOf e 16 16) (bitsOf e 8 8) l (leNat (data.take l)) y with
            | .ok u => u
            | .error _ => y) s)))
    ∧ (∀ n : Fin 32,
      (s.obj (0x1400 + n) 5 = 0 → exec (.rpdoEventTimeout n) s = .next { s with out := [], events := [] })
      ∧ (s.obj (0x1400 + n) 5 ≠ 0 →
        ∃ t, exec (.rpdoEventTimeout n) s = .next t
          ∧ t = { s with out := [], events := [], field := { s.field with rpdos := t.field.rpdos } }
          ∧ t.rpdo n = { s.rpdo n with timeout := true } ∧ (∀ m : Fin 32, m ≠ n → t.rpdo m = s.rpdo m)))
    -- unbound TPDOs: sent from their objects at the event timer or the k-th SYNC
    ∧ (∀ (n : Fin 32) (c : Fin 2), s.running = false → s.field.nmt = .operational → s.field.sleep = .awake →
      bitOf (s.obj (0x1800 + n) 1) 31 = false → c = (if bitOf (s.obj 0x2300 0x26) n then 1 else 0) →
      (s.can c).state = .errorActive → s.obj (0x1A00 + n) 0 = 1 → s.obj (0x1A00 + n) 1 = 0x21000340 →
      ∀ bs, bs = toLE 8 s.bell.count.toNat →
      -- a frame becomes pending, and the inhibit time starts
      ∀ sent : State → State, sent = (fun u => (u.onCan c (fun x => { x with buffers := x.buffers ++ [{ kind := .tpdo n, frame :=
          ⟨BitVec.ofNat 11 (s.obj (0x1800 + n) 1 % 2048), true, false, false, bs, true, false⟩ }] })).onTpdo n (fun x => { x with
        last := some bs, due := false, nextAt := s.now + s.obj (0x1800 + n) 3 * 100000 })) →
      ∀ s0, s0 = { s with out := [], events := [] } →
      (254 ≤ s.obj (0x1800 + n) 2 → s.obj (0x1800 + n) 5 ≠ 0 →
        exec (.tpdoEventTimer n) s = .next (if (s.tpdo n).nextAt ≤ s.now then sent s0 else s0.onTpdo n (fun x => { x with due := true })))
      ∧ (bitOf (s.obj 0x1005 0) 30 = false → (∀ m : Fin 32, m ≠ n → 240 < s.obj (0x1800 + m) 2) → ∀ counter : Byte,
        -- type k: at every k-th SYNC, the first one counted from its start value
        (1 ≤ s.obj (0x1800 + n) 2 → s.obj (0x1800 + n) 2 ≤ 240 → ∀ k, k = (s.tpdo n).syncs.getD 0 + 1 →
          ((s.tpdo n).syncs ≠ none ∨ s.obj (0x1800 + n) 6 = 0 ∨ counter.toNat = 0 ∨ counter.toNat = s.obj (0x1800 + n) 6 →
            exec (.syncConsumed ⟨c, counter⟩) s = .next (
              if s.obj (0x1800 + n) 2 ≤ k then sent (s0.onTpdo n (fun x => { x with syncs := some 0 }))
              else s0.onTpdo n (fun x => { x with syncs := some k })))
          ∧ ((s.tpdo n).syncs = none → s.obj (0x1800 + n) 6 ≠ 0 → counter.toNat ≠ 0 → counter.toNat ≠ s.obj (0x1800 + n) 6 →
            exec (.syncConsumed ⟨c, counter⟩) s = .next s0))
        -- type 0: at a SYNC once its objects read otherwise than in the last frame
        ∧ (s.obj (0x1800 + n) 2 = 0 →
            exec (.syncConsumed ⟨c, counter⟩) s = .next (if (s.tpdo n).last = some bs then s0 else sent s0))))
    ∧ (∀ n : Fin 32, s.obj (0x1800 + n) 2 < 254 ∨ s.obj (0x1800 + n) 5 = 0 ∨ s.field.nmt ≠ .operational ∨ s.field.sleep ≠ .awake →
      exec (.tpdoEventTimer n) s = .next { s with out := [], events := [] })
    -- a producer, or a node that is not operational, drives nothing by SYNC
    ∧ (∀ x : SyncSeen, bitOf (s.obj 0x1005 0) 30 = true ∨ s.field.nmt ≠ .operational →
      exec (.syncConsumed x) s = .next { s with out := [], events := [] })
    -- received frames: ignored ones, an NMT command, a wake frame before PNR
    ∧ (∀ (c : Fin 2) (f : CanFrame) (now : Nat), s.field.sleep = .awake → (s.can c).recc = 0 → f.ext = true ∨ f.remote = true →
      exec (.canFrameReceived c f now) s = .next { s with out := [], events := [], now := now })
    -- one received without error lowers the receive error count (log 23)
    ∧ (∀ (c : Fin 2) (f : CanFrame) (now : Nat), s.field.sleep = .awake → (s.can c).off = false → (s.can c).state ≠ .asleep →
      0 < (s.can c).recc.toNat → (s.can c).recc.toNat ≤ 127 → f.ext = true ∨ f.remote = true →
      exec (.canFrameReceived c f now) s = .next ({ s with out := [], events := [], now := now }.onCan c (fun x => { x with
        recc := x.recc - 1, state := if 127 < x.tec.toNat then .errorPassive else .errorActive })))
    ∧ (∀ (c : Fin 2) (f : CanFrame) (now : Nat), s.field.sleep = .awake → (s.can c).state = .errorActive → (s.can c).recc = 0 →
      f = ⟨0, false, false, false, [1, 0], false, false⟩ → s.field.emcy = [] → s.field.nmt = .operational →
      exec (.canFrameReceived c f now) s = .next { s with out := [], events := [], now := now })
    ∧ (∀ (c : Fin 2) (f : CanFrame) (now : Nat), s.field.sleep = .awake → (s.can c).state = .errorActive → (s.can c).recc = 0 →
      f = ⟨0, false, false, false, [2, 0], false, false⟩ →
      exec (.canFrameReceived c f now) s = .next { s with
        out := [], events := [], now := now, field := { s.field with nmt := .stopped } })
    ∧ (∀ (c : Fin 2) (f : CanFrame) (now : Nat), (s.can c).state = .errorActive → (s.can c).recc = 0 → f.ext = false → f.remote = false →
      f.data = [] → s.field.nmt = .stopped → c = 1 → f.ident.toNat ≠ s.obj 0x1005 0 % 2048 → f.ident.toNat ≠ 0x600 + s.nodeId →
      bitOf s.field.sleepMask.toNat c = true → s.field.sleep = .quiet ∨ s.field.sleep = .arming →
      (f.ident.toNat ^^^ s.obj 0x2300 0x32) &&& s.obj 0x2300 0x33 &&& 0x7FF = 0 →
      ∃ t, exec (.canFrameReceived c f now) s = .next t
        ∧ t.field = { s.field with sleep := .awake, swe := 0, armed := false, sleepMask := 0, lastFrame := t.field.lastFrame }
        ∧ t.obj 0x2300 0x30 = 0
        ∧ t.log = s.log.add { code := 0x6003, source := 0x140 + c, count := s.logCount,
                              detail := s.field.sleep.code * 2 ^ 30 + f.ident.toNat })

/-- R296, R297 with Table FIELD-7: the vote, its withdrawal, the quiet instant and the arming. -/
def Obligations.NetworkSleepPhases : Prop :=
  ∀ s : State, s.live = true →
    -- a vote: pending frames of the participating controllers go with cause 2, the halt buffer stays
    (∀ (p : Principal) (m : BitVec 2), s.warden p = true → s.bell.state ≠ .stopped →
      exec (.sleepVote p m) s = .next { (s.spendLatch p).noteAbort p 0x2300 0x30 0x08000022 with
        out := [.odReply p 0x08000022], events := [] })
    ∧ (∀ (p : Principal) (m : BitVec 2), s.warden p = true → s.bell.state = .stopped →
      ∃ t, exec (.sleepVote p m) s = .next t
        ∧ t = { s.spendLatch p with out := [.odReply p 0], events := [], od := t.od, field := { s.field with
                  can := t.field.can, sleep := .quiet, sleepMask := m, lastFrame := s.now, swe := 0, armed := false } }
        ∧ t.obj 0x2300 0x30 = 1 + 2 * m.toNat
        ∧ (∀ c : Fin 2, bitOf m.toNat c = false → t.can c = s.can c)
        ∧ (∀ c : Fin 2, bitOf m.toNat c = true → (s.can c).state ≠ .asleep →
            t.can c = { s.can c with queued := [], buffers :=
              (s.can c).buffers.filterMap (fun g =>
                if g.state = .pending then none else some { g with abortLate := some (g.abortLate.getD 2) })
              ++ (if bitOf (s.obj 0x2300 0x31) 31 then [] else [{ kind := .vote, frame :=
                  ⟨BitVec.ofNat 11 (s.obj 0x2300 0x31 % 2048), false, false, false, [BitVec.ofNat 8 s.nodeId], false, false⟩ }]) }))
    -- the vote is withdrawn before PNR, without an event
    ∧ (∀ p : Principal, s.warden p = true → s.field.sleep ≠ .pastPnr →
      ∃ t, exec (.sleepCancel p) s = .next t
        ∧ t = { s.spendLatch p with out := [.odReply p 0], events := [], od := t.od, field := { s.field with
                  sleep := .awake, swe := 0, armed := false, sleepMask := 0 } }
        ∧ t.obj 0x2300 0x30 = 0)
    ∧ (∀ p : Principal, s.warden p = true → s.field.sleep = .pastPnr →
      exec (.sleepCancel p) s = .next { (s.spendLatch p).noteAbort p 0x2300 0x30 0x08000022 with
        out := [.odReply p 0x08000022], events := [] })
    -- Q after 50 ms without a frame; PNR = Q + A + T_f of the slowest participating controller
    ∧ (∀ now : Nat, s.field.sleep = .quiet → s.field.lastFrame + 50000000 ≤ now → s.field.sleepMask = 1 →
      ∀ tn, tn = nominalTq (s.can 0).nominal → ∀ td, td = dataTq (s.can 0).dataWord →
      exec (.sleepQuietInstant now) s = .next { s with
        out := [], events := [], now := now,
        field := { s.field with
          sleep := .arming, quietAt := now, swe := 1,
          pnrAt := now + s.obj 0x2300 0x34 * 1000 + max (165 * tn * 25 / 2) ((60 * tn + 700 * td) * 25 / 2) } })
    ∧ (∀ now : Nat, s.field.sleep ≠ .quiet ∨ now < s.field.lastFrame + 50000000 →
      exec (.sleepQuietInstant now) s = .next { s with out := [], events := [], now := now })
    -- the transceiver is armed at Q + A
    ∧ (∀ now : Nat, s.field.sleep = .arming → s.field.quietAt + s.obj 0x2300 0x34 * 1000 ≤ now →
      exec (.sleepArmed now) s = .next { s with out := [], events := [], now := now, field := { s.field with armed := true } })
    ∧ (∀ now : Nat, s.field.sleep ≠ .arming → exec (.sleepArmed now) s = .next { s with out := [], events := [], now := now })

/-! ### Object dictionary (13) -/

/-- R300 to R303, R305, R306, R310: whole writes by a warden and by others. The order in which the checks are made is log 22, so
each clause holds the other conditions. No unbound TPDO may have its event at the write: that is a statement of its own
(PdosFollowMappingOwnerAndSync; log 187). -/
def Obligations.DictionaryWritesAreJudged : Prop :=
  ∀ (s : State) (p : Principal) (index : U16) (sub : Byte) (data : List Byte), s.live = true →
    (s.field.nmt ≠ .operational ∨ ∀ n : Fin 32, s.tpdoType n < 254) →
    ∀ i, i = index.toNat → ∀ k, k = sub.toNat → ∀ v, v = leNat data →
    -- absent objects
    (odRow? i k = none →
      exec (.odWrite p (.whole index sub data)) s = .next { s with
        out := [.odReply p (if odIndex i then 0x06090011 else 0x06020000)], events := [] })
    ∧ (∀ r, odRow? i k = some r →
      -- a principal that is not the warden, at an object of owner code W
      (r.own = .w → r.grant = false → s.warden p = false →
        exec (.odWrite p (.whole index sub data)) s = .next { s with out := [.odReply p 0x06010000], events := [] })
      -- const and ro objects
      ∧ (r.acc = .const ∨ r.acc = .ro → r.own = .c →
        exec (.odWrite p (.whole index sub data)) s = .next { s with out := [.odReply p 0x06010002], events := [] })
      -- a grant whose bit is clear refuses the warden too
      ∧ (r.grant = true → bitOf (s.obj 0x2001 2) (i - 0x2800) = false →
        exec (.odWrite p (.whole index sub data)) s = .next { s with out := [.odReply p 0x08000022], events := [] })
      ∧ (r.own = .w → r.grant = false → s.warden p = true → r.acc = .rw ∨ r.acc = .rwb ∨ r.acc = .rwl →
        -- length, then range
        (data.length ≠ r.bytes →
          exec (.odWrite p (.whole index sub data)) s = .next { s with out := [.odReply p 0x06070010], events := [] })
        ∧ (data.length = r.bytes → r.inRange i k (v &&& r.mask) = false →
          exec (.odWrite p (.whole index sub data)) s = .next { s with out := [.odReply p 0x06090030], events := [] })
        ∧ (data.length = r.bytes → r.inRange i k (v &&& r.mask) = true →
          -- rwl: only while STOPPED and the load is empty, running or rejected
          (r.acc = .rwl → s.bell.state ≠ .stopped ∨ (s.plan.status ≠ 0 ∧ s.plan.status ≠ 3 ∧ s.plan.status ≠ 4) →
            exec (.odWrite p (.whole index sub data)) s = .next { s with out := [.odReply p 0x08000022], events := [] })
          -- the orders of the shed thresholds
          ∧ (i = 0x2401 → 1 ≤ k → k ≤ 6 → s.objW 0x2402 k ≤ v →
            exec (.odWrite p (.whole index sub data)) s = .next { s with out := [.odReply p 0x08000020], events := [] })
          ∧ (i = 0x2401 → 2 ≤ k → k ≤ 6 → s.objW 0x2401 (k - 1) ≤ v →
            exec (.odWrite p (.whole index sub data)) s = .next { s with out := [.odReply p 0x08000020], events := [] })
          ∧ (i = 0x2402 → 2 ≤ k → k ≤ 6 → s.objW 0x2402 (k - 1) < v →
            exec (.odWrite p (.whole index sub data)) s = .next { s with out := [.odReply p 0x08000020], events := [] })
          -- a shed map needs a plan
          ∧ (i = 0x2404 → s.plan.running = false →
            exec (.odWrite p (.whole index sub data)) s = .next { s with out := [.odReply p 0x08000020], events := [] })
          -- a value that no rule joins to another object, or that keeps that rule, is taken, its reserved bits cleared: at once, or
          -- into an rwb object of a running plan at the next bell; no other object changes
          ∧ ((r.acc = .rwl → s.bell.state = .stopped ∧ (s.plan.status = 0 ∨ s.plan.status = 3 ∨ s.plan.status = 4)) →
            (if isMapping i then s.mappingOk i k (v &&& r.mask) else s.joined i k (v &&& r.mask)) = .ok () →
            (i ∈ [0x2401, 0x2402, 0x2405] → s.running = true ∨ s.power.evaluated = false) →
            (0x2800 ≤ i → i ≤ 0x2807 → k = 1 → bitOf v 0 = true) → (0x2900 ≤ i → i ≤ 0x2901 → k ≠ 4) →
            (0x1800 ≤ i → i ≤ 0x181F → s.field.nmt ≠ .operational) →
            ownHome i k = false → (0x2B00 ≤ i → i < 0x2D00 → s.island.locked = false) →
            ∃ t, exec (.odWrite p (.whole index sub data)) s = .next t
              ∧ t = { s with out := [.odReply p 0], events := [], od := t.od }
              ∧ assocGet (odKey i k) t.od.written = some (v &&& r.mask)
              ∧ (r.acc = .rwb → s.bell.state ≠ .stopped → t.od.inForce = s.od.inForce)
              ∧ (r.acc ≠ .rwb ∨ s.bell.state = .stopped → assocGet (odKey i k) t.od.inForce = some (v &&& r.mask))
              ∧ (∀ key, key ≠ odKey i k → assocGet key t.od.written = assocGet key s.od.written
                  ∧ assocGet key t.od.inForce = assocGet key s.od.inForce))
          -- a shed object written while STOPPED judges the last reading at once (R371)
          ∧ (i ∈ [0x2401, 0x2402, 0x2405] → s.running = false → s.joined i k (v &&& r.mask) = .ok () →
            exec (.odWrite p (.whole index sub data)) s
              = run (fun u => ((u.setObj i k (v &&& r.mask)).judgeStage).emit (.odReply p 0)) s)
          -- a channel that is switched off opens its switches (R315)
          ∧ (∀ c : Fin 8, i = 0x2800 + c.val → k = 1 → bitOf v 0 = false → s.joined i k (v &&& r.mask) = .ok () →
            s.bell.state = .stopped → s.plan.status = 0 ∨ s.plan.status = 3 ∨ s.plan.status = 4 →
            ∃ t, exec (.odWrite p (.whole index sub data)) s = .next t
              ∧ t = { s with out := [.odReply p 0], events := [], od := t.od, mandible := t.mandible }
              ∧ t.obj i k = v &&& r.mask ∧ (t.ch c).record = none ∧ (t.ch c).drive = .off ∧ (∀ d : Fin 8, d ≠ c → t.ch d = s.ch d))
          -- a wheel that is switched on or off searches, its position standing (R344, R345)
          ∧ (∀ w : Fin 2, i = 0x2900 + w.val → k = 4 → s.bell.state = .stopped →
            s.plan.status = 0 ∨ s.plan.status = 3 ∨ s.plan.status = 4 →
            ∃ t, exec (.odWrite p (.whole index sub data)) s = .next t
              ∧ t = { s with out := [.odReply p 0], events := [], od := t.od, angle := t.angle }
              ∧ t.obj i k = v &&& r.mask
              ∧ (bitOf v 0 = true → s.wheelOn w = true → t.angle = s.angle)
              ∧ (bitOf v 0 = false ∨ s.wheelOn w = false →
                  (t.wheel w).sync = .search ∧ (t.wheel w).last = none ∧ t.wheelPosition w = s.wheelPosition w)))))

/-- R257, R258, R307 to R309, R313: the mirror's reads, the indirect window and the clear of the log. -/
def Obligations.MirrorIndirectWindowAndLogClear : Prop :=
  ∀ (s : State) (p : Principal), s.live = true →
    -- the abort words are read and clear
    (isFunction p = true →
      exec (.mirrorAbortRead p) s = .next { (s.vfAccess p).setCopy p (fun c => { c with latched := none, abortCode := 0, abortObject := 0 }) with
        out := [.odData p (s.copyOf p).abortCode.toNat], events := [] })
    -- an access that is not 4 bytes, naturally aligned, and a word that holds nothing: Unsupported Request
    ∧ (∀ (o : BitVec 24) (size : Nat), isFunction p = true → o.toNat % 4 ≠ 0 ∨ size ≠ 4 →
      exec (.mirrorLowWordRead p ⟨o, size⟩) s = .next { s.vfAccess p with out := [.unsupported p], events := [] })
    ∧ (∀ o : BitVec 24, isFunction p = true → o.toNat % 4 = 0 → 4 < o.toNat → odIndex (o.toNat / 256) = false →
      exec (.mirrorLowWordRead p ⟨o, 4⟩) s = .next { (s.vfAccess p).setCopy p (fun c => { c with latched := none }) with
        out := [.unsupported p], events := [] })
    -- an object of at most four bytes at its own word, and the owner code and class that refuse it
    ∧ (∀ (o : BitVec 24) (r : OdRow), isFunction p = true → o.toNat % 4 = 0 → 4 < o.toNat →
        odRow? (o.toNat / 256) (o.toNat % 256 / 4) = some r → r.bytes ≤ 4 →
        (s.warden p = true → r.own = .w ∨ r.own = .c → r.acc ≠ .wo →
          (∀ x ∈ [(0x2B00, 1), (0x2B30, 7), (0x2C00, 8)], (o.toNat / 256, o.toNat % 256 / 4) ≠ x) →
          exec (.mirrorLowWordRead p ⟨o, 4⟩) s = .next { (s.vfAccess p).setCopy p (fun c => { c with latched := none }) with
            out := [.odData p (((s.vfAccess p).setCopy p (fun c => { c with latched := none })).readObject p r (o.toNat / 256)
              (o.toNat % 256 / 4) % 256 ^ r.bytes)], events := [] })
        ∧ (s.warden p = false → r.own = .w →
          exec (.mirrorLowWordRead p ⟨o, 4⟩) s = .next { (s.vfAccess p).setCopy p (fun c => { c with latched := none }) with
            out := [.unsupported p], events := [] })
        ∧ (r.acc = .wo →
          exec (.mirrorLowWordRead p ⟨o, 4⟩) s = .next { (s.vfAccess p).setCopy p (fun c => { c with latched := none }) with
            out := [.unsupported p], events := [] }))
    -- the alarm 0x2B11:01, 64 bits: the low word latches the high word, which the next access returns
    ∧ (isFunction p = true → s.warden p = true →
      exec (.mirrorLowWordRead p ⟨0x2B1104, 4⟩) s = .next { (s.vfAccess p).setCopy p (fun c => { c with
          latched := some (odKey 0x2B11 1, BitVec.ofNat 32 (s.objW 0x2B11 1 % 2 ^ 64 / 2 ^ 32)) }) with
        out := [.odData p (s.objW 0x2B11 1 % 2 ^ 32)], events := [] })
    ∧ (∀ high : U32, isFunction p = true → s.warden p = true → (s.copyOf p).latched = some (odKey 0x2B11 1, high) →
      exec (.mirrorLowWordRead p ⟨0x2B1108, 4⟩) s = .next { (s.vfAccess p).setCopy p (fun c => { c with latched := none }) with
        out := [.odData p high.toNat], events := [] })
    ∧ (isFunction p = true → s.warden p = true → (s.copyOf p).latched = none →
      exec (.mirrorLowWordRead p ⟨0x2B1108, 4⟩) s = .next { (s.vfAccess p).setCopy p (fun c => { c with latched := none }) with
        out := [.odData p (s.objW 0x2B11 1 % 2 ^ 64 / 2 ^ 32)], events := [] })
    -- the bell count, whose high word another object hides (R308), latches nothing
    ∧ (isFunction p = true →
      exec (.mirrorLowWordRead p ⟨0x21000C, 4⟩) s = .next { (s.vfAccess p).setCopy p (fun c => { c with latched := none }) with
        out := [.odData p (s.bell.count.toNat % 2 ^ 32)], events := [] })
    -- indirect read of the bell count: done, eight bytes, two words
    ∧ (s.warden p = true → (s.copyOf p).indirect.target = 0x21000300 →
      ∃ t, exec (.indirectRead p) s = .next t
        ∧ t = { s with out := [.odReply p 0], events := [], host := t.host }
        ∧ (t.copyOf p).indirect.status = 2 ∧ (t.copyOf p).indirect.abort = 0 ∧ (t.copyOf p).indirect.length = 8
        ∧ (t.copyOf p).indirect.data.getD 0 0 = BitVec.ofNat 32 (s.bell.count.toNat % 2 ^ 32)
        ∧ (t.copyOf p).indirect.data.getD 1 0 = BitVec.ofNat 32 (s.bell.count.toNat / 2 ^ 32)
        ∧ (∀ k : Fin 16, 2 ≤ k.val → (t.copyOf p).indirect.data.getD k 0 = (s.copyOf p).indirect.data.getD k 0)
        ∧ (∀ q : Principal, copyIndex q ≠ copyIndex p → t.copyOf q = s.copyOf q))
    -- an absent target aborts, for a read and for a write
    ∧ (∀ i, i = (s.copyOf p).indirect.target.toNat / 65536 → s.warden p = true → odIndex i = false →
      ∀ c ∈ [Instr.indirectRead p, .indirectWrite p],
        ∃ t, exec c s = .next t
          ∧ t = { s with out := [.odReply p 0], events := [], host := t.host }
          ∧ (t.copyOf p).indirect = { (s.copyOf p).indirect with status := 3, abort := 0x06020000 }
          ∧ (∀ q : Principal, copyIndex q ≠ copyIndex p → t.copyOf q = s.copyOf q))
    -- indirect write of the minimum flow 0x2510:05: the first four bytes of the data words
    ∧ (s.warden p = true → (s.copyOf p).indirect.target = 0x25100500 →
        ((s.copyOf p).indirect.data.getD 0 0).toNat ≤ 100000 →
      ∃ t, exec (.indirectWrite p) s = .next t
        ∧ t.obj 0x2510 5 = ((s.copyOf p).indirect.data.getD 0 0).toNat
        ∧ (t.copyOf p).indirect = { (s.copyOf p).indirect with status := 2, abort := 0, length := 4 }
        ∧ t = { s with out := [.odReply p 0], events := [], host := t.host, od := t.od })
    -- the log is cleared; the entries since cold reset stay counted
    ∧ (s.warden p = true →
      exec (.logClear p) s = .next { s.spendLatch p with
        out := [.odReply p 0], events := [],
        log := { entries := Vector.replicate 64 {}, last := {}, sinceClear := 0, sinceReset := s.log.sinceReset } })
    ∧ (s.warden p = false →
      exec (.logClear p) s = .next { (s.spendLatch p).noteAbort p 0x2F00 3 0x06010000 with
        out := [.odReply p 0x06010000], events := [] })

/-! ### Mandible drivers (14) -/

/-- R325, R326 (with R323, R327, R316, Table MAND-5): what the five commit commands do to an enabled channel that is no bridge
partner and not latched while no device-wide safe state is in force. Every clause names the whole next state but for the channel
commanded, and what that channel holds. -/
def Obligations.MandibleCommitsAct : Prop :=
  ∀ (s : State) (c : Fin 8) (sp hold : U16),
    s.live = true → s.chOn c = true → s.chPartner c = false → s.plan.safe = false → (s.ch c).latched = false →
    -- start: the sequence from its first phase, with the commit's setpoints
    ((s.ch c).limited = false → isRunKind (s.phase c 0).kind = true →
      ∃ t, exec (.mandibleCmdStart c sp hold) s = .next t
        ∧ t = { s with out := [], events := [], mandible := { s.mandible with channels := t.mandible.channels } }
        ∧ (∀ d : Fin 8, d ≠ c → t.ch d = s.ch d)
        ∧ (t.ch c).record = some 0 ∧ (t.ch c).kind = (s.phase c 0).kind ∧ (t.ch c).phaseAt = s.now
        ∧ (t.ch c).setpoint = sp.toNat ∧ (t.ch c).holdOverride = hold.toNat ∧ (t.ch c).current = (s.ch c).current
        ∧ (t.ch c).stale = false ∧ (t.ch c).poisoned = false ∧ (t.ch c).safe = false ∧ (t.ch c).direct = false
        ∧ ((s.phase c 0).kind = 1 → (s.ch c).drive = .on ∨ (s.ch c).drive = .recover ∨ (s.ch c).drive = .off → (s.ch c).gapUntil ≤ s.now →
            (t.ch c).drive = .on)
        -- out of the other diagonal of a bridge every gate is off for 2 µs
        ∧ ((s.phase c 0).kind = 1 → (s.ch c).drive = .reverse → (t.ch c).drive = .off ∧ (t.ch c).gapUntil = s.now + 2000))
    -- update and arm: the setpoints alone
    ∧ (∀ i : Instr, i = .mandibleCmdUpdate c sp hold ∨ i = .mandibleCmdArm c sp hold →
        ∃ t, exec i s = .next t
          ∧ t = { s with out := [], events := [], mandible := { s.mandible with channels := t.mandible.channels } }
          ∧ (∀ d : Fin 8, d ≠ c → t.ch d = s.ch d)
          ∧ t.ch c = { s.ch c with stale := false, poisoned := false, safe := false, safeHold := false, direct := false,
                                   setpoint := sp.toNat, holdOverride := hold.toNat })
    -- off: the release record, else the present phase's switch-off mode, else nothing
    ∧ (∃ t, exec (.mandibleCmdOff c sp hold) s = .next t
        ∧ t = { s with out := [], events := [], mandible := { s.mandible with channels := t.mandible.channels } }
        ∧ (∀ d : Fin 8, d ≠ c → t.ch d = s.ch d)
        ∧ (∀ r, s.recordOf c 5 = some r →
            (t.ch c).record = some r ∧ (t.ch c).kind = 5 ∧ (t.ch c).phaseAt = s.now ∧ (t.ch c).drive ≠ .on)
        ∧ (s.recordOf c 5 = none → (t.ch c).record = none)
        ∧ (∀ r, s.recordOf c 5 = none → (s.ch c).record = some r →
            (t.ch c).kind = 0
            ∧ (t.ch c).drive = (decayOf (s.phase c r).mode s.mandible.overLimit (s.ch c).size 0 (bandOf (s.phase c r))).1)
        ∧ (s.recordOf c 5 = none → (s.ch c).record = none → (t.ch c).drive = (s.ch c).drive))
    -- reverse: the pulse on a bridge, off on a unipolar channel
    ∧ (∀ r, s.chBridge c = true → s.recordOf c 6 = some r →
        ∃ t, exec (.mandibleCmdReverse c sp hold) s = .next t
          ∧ t = { s with out := [], events := [], mandible := { s.mandible with channels := t.mandible.channels } }
          ∧ (∀ d : Fin 8, d ≠ c → t.ch d = s.ch d)
          ∧ (t.ch c).record = some r ∧ (t.ch c).kind = 6 ∧ (t.ch c).phaseAt = s.now ∧ (t.ch c).startedSince = false
          ∧ (t.ch c).drive ≠ .on)
    ∧ (s.chBridge c = false → exec (.mandibleCmdReverse c sp hold) s = exec (.mandibleCmdOff c sp hold) s)

/-- R328, R336: the warden's direct commands and the fault clear. A direct command needs its grant bit in 0x2001:02 and is
otherwise refused with 0x0800_0022; the fault clear takes the latch off and the channel is idle. -/
def Obligations.MandibleDirectCommandsNeedTheirGrant : Prop :=
  ∀ (s : State) (p : Principal) (c : Fin 8), s.live = true → s.warden p = true →
    -- without the grant every direct command is refused and no channel changes
    (∀ i : Instr, i = .mandibleDirectOff p c ∨ i = .mandibleDirectStart p c ∨ i = .mandibleDirectSafeState p c →
        bitOf (s.obj 0x2001 2) c = false →
        ∃ t, exec i s = .next t ∧ t.out = [.odReply p 0x08000022#32]
          ∧ t = { s with out := t.out, events := [], host := { s.host with copies := t.host.copies } })
    -- off
    ∧ (bitOf (s.obj 0x2001 2) c = true → s.directOk c = true →
        ∃ t, exec (.mandibleDirectOff p c) s = .next t ∧ t.out = [.odReply p 0]
          ∧ t = { s with out := t.out, events := [], host := { s.host with copies := t.host.copies },
                         mandible := { s.mandible with channels := t.mandible.channels } }
          ∧ (∀ d : Fin 8, d ≠ c → t.ch d = s.ch d) ∧ (t.ch c).direct = true
          ∧ (t.ch c).record = s.recordOf c 5
          ∧ ((s.recordOf c 5).isSome = true ∨ (s.ch c).record.isSome = true → (t.ch c).drive ≠ .on))
    -- start, with the setpoints of the last commit
    ∧ (bitOf (s.obj 0x2001 2) c = true → s.directOk c = true → s.chFit c = true → (s.ch c).limited = false →
        isRunKind (s.phase c 0).kind = true →
        ∃ t, exec (.mandibleDirectStart p c) s = .next t ∧ t.out = [.odReply p 0]
          ∧ t = { s with out := t.out, events := [], host := { s.host with copies := t.host.copies },
                         mandible := { s.mandible with channels := t.mandible.channels } }
          ∧ (∀ d : Fin 8, d ≠ c → t.ch d = s.ch d) ∧ (t.ch c).direct = true ∧ (t.ch c).record = some 0
          ∧ (t.ch c).kind = (s.phase c 0).kind ∧ (t.ch c).phaseAt = s.now
          ∧ (t.ch c).setpoint = (s.ch c).setpoint ∧ (t.ch c).holdOverride = (s.ch c).holdOverride)
    -- a direct start that breaks R329 is refused
    ∧ (bitOf (s.obj 0x2001 2) c = true → s.chFit c = false →
        ∃ t, exec (.mandibleDirectStart p c) s = .next t ∧ t.out = [.odReply p 0x08000022#32]
          ∧ t = { s with out := t.out, events := [], host := { s.host with copies := t.host.copies } })
    -- the safe state
    ∧ (bitOf (s.obj 0x2001 2) c = true → s.chOn c = true → s.chPartner c = false → (s.ch c).latched = false →
        ∃ t, exec (.mandibleDirectSafeState p c) s = .next t ∧ t.out = [.odReply p 0]
          ∧ t = { s with out := t.out, events := [], host := { s.host with copies := t.host.copies },
                         mandible := { s.mandible with channels := t.mandible.channels } }
          ∧ (∀ d : Fin 8, d ≠ c → t.ch d = s.ch d) ∧ (t.ch c).direct = true ∧ (t.ch c).safe = true
          ∧ ((s.ch c).record.isSome = true → s.obj (0x2800 + c) 2 = 0 → (t.ch c).record = none
              ∧ (t.ch c).drive = if (s.ch c).drive = .off then .off else if s.mandible.overLimit then .freewheel else .recover))
    -- fault clear
    ∧ ((s.ch c).latched = true →
        ∃ t, exec (.mandibleFaultClear p c) s = .next t ∧ t.out = [.odReply p 0]
          ∧ t = { s with out := t.out, events := [], host := { s.host with copies := t.host.copies },
                         mandible := { s.mandible with channels := t.mandible.channels } }
          ∧ (∀ d : Fin 8, d ≠ c → t.ch d = s.ch d)
          ∧ (t.ch c).latched = false ∧ (t.ch c).record = none ∧ (t.ch c).drive = .off)

/-- R319, R320, R323, R332, R333: the sampled loop, the end of a phase, and the two coil protections. -/
def Obligations.MandibleLoopAndProtection : Prop :=
  ∀ (s : State) (c : Fin 8), s.live = true →
    -- a sample in a pull-in phase: the band of R320 around the record's setpoint
    (∀ r, (s.ch c).record = some r → s.chOn c = true → (s.phase c r).kind = 2 → ∀ (mA : Int) (now : Nat),
        ∃ t, exec (.currentSample c mA now) s = .next t
          ∧ t = { s with out := [], events := [], now := now, mandible := { s.mandible with channels := t.mandible.channels } }
          ∧ (∀ d : Fin 8, d ≠ c → t.ch d = s.ch d)
          ∧ (t.ch c).current = mA ∧ (t.ch c).record = some r
          ∧ (t.ch c).sumSq = (s.ch c).sumSq + mA.natAbs * mA.natAbs ∧ (t.ch c).samples = (s.ch c).samples + 1
          ∧ ((mA.natAbs : Rat) < ((s.phase c r).setpoint : Rat) - bandOf (s.phase c r) / 2 →
              (t.ch c).drive = if now < (s.ch c).gapUntil then (s.ch c).drive else .on)
          ∧ (((s.phase c r).setpoint : Rat) + bandOf (s.phase c r) / 2 < (mA.natAbs : Rat) → (s.ch c).drive = .on →
              (t.ch c).drive ≠ .on)
          ∧ (((s.phase c r).setpoint : Rat) - bandOf (s.phase c r) / 2 ≤ (mA.natAbs : Rat) →
              (mA.natAbs : Rat) ≤ ((s.phase c r).setpoint : Rat) + bandOf (s.phase c r) / 2 →
              (s.phase c r).mode ≠ 2 ∨ (s.ch c).drive ≠ .recover → (t.ch c).drive = (s.ch c).drive))
    -- a phase of finite duration that is over: the next record of kinds 1 to 4, or idle
    ∧ (∀ r, (s.ch c).record = some r → (s.ch c).safeHold = false → (s.phase c r).duration ≠ 0 → ∀ now : Nat,
        (s.ch c).phaseAt + (s.phase c r).duration * 10000 ≤ now →
        ∃ t, exec (.phaseEnd c now) s = .next t
          ∧ t = { s with out := [], events := [], now := now, mandible := { s.mandible with channels := t.mandible.channels } }
          ∧ (∀ d : Fin 8, d ≠ c → t.ch d = s.ch d)
          ∧ (isRunKind (s.phase c r).kind = true → r + 1 < 6 → isRunKind (s.phase c (r + 1)).kind = true →
              (t.ch c).record = some (r + 1) ∧ (t.ch c).kind = (s.phase c (r + 1)).kind ∧ (t.ch c).phaseAt = now)
          ∧ (isRunKind (s.phase c r).kind = false ∨ 6 ≤ r + 1 ∨ isRunKind (s.phase c (r + 1)).kind = false →
              (t.ch c).record = none ∧ (t.ch c).drive ≠ .on)
          ∧ ((s.phase c r).kind = 1 → (s.ch c).size < (s.phase c r).setpoint → (t.ch c).peakMissed = true))
    -- the coil estimate of R332, and the limit
    ∧ (∃ t, exec (.coilThermalUpdate c) s = .next t
        ∧ t = { s with out := t.out, events := [], log := t.log, field := t.field,
                       mandible := { s.mandible with channels := t.mandible.channels } }
        ∧ (∀ d : Fin 8, d ≠ c → t.ch d = s.ch d)
        ∧ (∀ tc : Rat, tc = (s.ch c).coil → ∀ r20 : Rat, r20 = (s.obj (0x2800 + c) 8 : Rat) / 1000 →
            ∀ r : Rat, r = r20 * (1 + 393 / 100000 * (tc - 20)) → (s.ch c).samples ≠ 0 →
            ∀ i2 : Rat, i2 = ((s.ch c).sumSq : Rat) / ((s.ch c).samples : Rat) / 1000000 →
            (t.ch c).coil
              = tc + 1 / 1000 / (s.obj (0x2800 + c) 9 : Rat) * ((s.coilTa c : Rat) + s.coilRth c * (i2 * r) - tc))
        ∧ (t.ch c).sumSq = 0 ∧ (t.ch c).samples = 0
        ∧ (bitOf (s.obj (0x2800 + c) 0xD) 0 = true → (s.obj (0x2800 + c) 0xA : Rat) ≤ (t.ch c).coil →
            (s.ch c).thermal = false →
            (t.ch c).thermal = true ∧ t.log.last.code = 0x7005 ∧ t.log.last.source = 0x160 + c
              ∧ t.log.sinceClear = s.log.sinceClear + 1 ∧ (t.ch c).record = s.recordOf c 5)
        ∧ ((s.ch c).thermal = true → (t.ch c).coil ≤ (s.obj (0x2800 + c) 0xA : Rat) - 10 → (t.ch c).thermal = false)
        ∧ ((s.ch c).thermal = true → (s.obj (0x2800 + c) 0xA : Rat) - 10 < (t.ch c).coil → (t.ch c).thermal = true))
    -- the duty of R333 over W seconds, in per mille, and its limit
    ∧ (∃ t, exec (.dutyUpdate c) s = .next t
        ∧ t = { s with out := t.out, events := [], log := t.log, field := t.field,
                       mandible := { s.mandible with channels := t.mandible.channels } }
        ∧ (∀ d : Fin 8, d ≠ c → t.ch d = s.ch d)
        ∧ (t.ch c).dutyBits = ((s.ch c).closedMs :: (s.ch c).dutyBits).take (1000 * s.obj (0x2800 + c) 0xC)
        ∧ (bitOf (s.obj (0x2800 + c) 0xD) 1 = true → (s.ch c).duty = false →
            s.obj (0x2800 + c) 0xB * s.obj (0x2800 + c) 0xC < (t.ch c).dutyBits.count true →
            (t.ch c).duty = true ∧ t.log.last.code = 0x7006 ∧ t.log.last.source = 0x160 + c
              ∧ t.log.sinceClear = s.log.sinceClear + 1)
        ∧ ((s.ch c).duty = true →
            10 * (t.ch c).dutyBits.count true ≤ 9 * s.obj (0x2800 + c) 0xB * s.obj (0x2800 + c) 0xC → (t.ch c).duty = false))

/-- R335 to R338 (Table MAND-7): what each diagnostic signature does to an enabled channel, with the event of R337. -/
def Obligations.MandibleDiagnosticsLatchAndLog : Prop :=
  ∀ (s : State) (c : Fin 8), s.live = true → s.chOn c = true →
    -- rows 6, 3, 5 and 8: a short latches the channel off, once
    (∀ x ∈ [(Instr.shuntComparatorTrip c, 6, 0x7003), (.desatComparatorTrip c true, 3, 0x7002),
          (.desatComparatorTrip c false, 5, 0x7003)], ∀ row, row = x.2.1 → ∀ code, code = x.2.2 →
        (s.ch c).latched = false → (s.ch c).record.isSome = true → (s.ch c).drive = .on ∨ (s.ch c).drive = .reverse →
        ∃ t, exec x.1 s = .next t
          ∧ t = { s with out := t.out, events := [], field := t.field, log := t.log,
                         mandible := { s.mandible with channels := t.mandible.channels } }
          ∧ t.log = s.log.add { code := code, source := 0x160 + c,
                                detail := row * 2 ^ 24 + (s.ch c).kind * 2 ^ 16 + unsignedOf 16 (s.ch c).current,
                                count := s.logCount }
          ∧ (∀ d : Fin 8, d ≠ c → t.ch d = s.ch d)
          ∧ (t.ch c).latched = true ∧ (t.ch c).record = none ∧ (t.ch c).drive = .off
          ∧ ((t.ch c).shortSupply = true ∨ row = 3) ∧ (row = 3 → (t.ch c).shortGnd = true))
    -- row 8: VDS above 2.0 V at the end of blanking of a gate that is still on
    ∧ (∀ vds, 2000 < vds → (s.ch c).latched = false →
        (s.ch c).drive = .on ∨ (s.ch c).drive = .reverse ∨ (s.ch c).drive = .freewheel →
        ∃ t, exec (.desatBlankingEnd c vds) s = .next t
          ∧ t = { s with out := t.out, events := [], field := t.field, log := t.log,
                         mandible := { s.mandible with channels := t.mandible.channels } }
          ∧ t.log = s.log.add { code := 0x7004, source := 0x160 + c,
                                detail := 8 * 2 ^ 24 + (if (s.ch c).record.isSome then (s.ch c).kind else 0xFF) * 2 ^ 16
                                  + unsignedOf 16 (s.ch c).current,
                                count := s.logCount }
          ∧ (∀ d : Fin 8, d ≠ c → t.ch d = s.ch d)
          ∧ (t.ch c).latched = true ∧ (t.ch c).shortRamp = true ∧ (t.ch c).record = none ∧ (t.ch c).drive = .off)
    -- a latched channel logs nothing more
    ∧ ((s.ch c).latched = true → exec (.shuntComparatorTrip c) s = .next { s with out := [], events := [] })
    -- row 1: an open load in the on state is flagged and does not latch
    ∧ (∀ r, (s.ch c).record = some r → bitOf (s.chCfg c) 4 = true → (s.ch c).drive = .on → (s.ch c).openLoad = false →
        (100 : Rat) ≤ s.target c (s.phase c r) →
        (((s.ch c).size : Rat) < 50 ∨ ((s.ch c).size : Rat) * 20 < s.target c (s.phase c r)) →
        ∃ t, exec (.onStateOpenLoad c) s = .next t
          ∧ t = { s with out := t.out, events := [], field := t.field, log := t.log,
                         mandible := { s.mandible with channels := t.mandible.channels } }
          ∧ (∀ d : Fin 8, d ≠ c → t.ch d = s.ch d)
          ∧ t.ch c = { s.ch c with openLoad := true, openAt := s.now }
          ∧ t.log.last.code = 0x7001 ∧ t.log.last.source = 0x160 + c ∧ t.log.sinceClear = s.log.sinceClear + 1)
    -- rows 2, 4, 7 and healthy: a probe of a channel that has been idle for 2 ms counts at its third equal result
    ∧ (∀ (sh dl : Int) (at_ k : Nat), sh ≤ 70000 → dl ≤ 70000 → (s.ch c).record = none → bitOf (s.chCfg c) 3 = true →
        (s.ch c).idleAt + 2000000 ≤ at_ →
        (k = 2 ∧ sh < 1000 ∧ 4000 < dl ∨ k = 3 ∧ sh < 1000 ∧ dl < 1000 ∨ k = 4 ∧ 6000 < sh ∧ 6000 < dl
          ∨ k = 1 ∧ 1000 ≤ sh ∧ sh ≤ 4000 ∧ 1000 ≤ dl ∧ dl ≤ 4000 ∧ sh - dl ≤ 500 ∧ dl - sh ≤ 500) →
        ∃ t, exec (.offStateProbe c ⟨sh, dl⟩ at_) s = .next t
          ∧ t = { s with out := t.out, events := [], now := at_, field := t.field, log := t.log,
                         mandible := { s.mandible with channels := t.mandible.channels } }
          ∧ (∀ d : Fin 8, d ≠ c → t.ch d = s.ch d)
          ∧ ((s.ch c).probeRun.1 ≠ k ∨ (s.ch c).probeRun.2 = 0 ∨ (s.ch c).probeRun.2 = 1 →
              (t.ch c).probe = (s.ch c).probe ∧ t.log = s.log)
          ∧ ((s.ch c).probeRun.1 = k → 2 ≤ (s.ch c).probeRun.2 →
              (t.ch c).probe = k ∧ (k = 1 → (t.ch c).openLoad = false) ∧ (k = 2 → (t.ch c).openLoad = true)
              ∧ (k = 3 → (t.ch c).latched = true) ∧ (k = 4 → (t.ch c).latched = true)))
    -- before the 2 ms are over no probe is made
    ∧ (∀ (sh dl : Int) (at_ : Nat), sh ≤ 70000 → dl ≤ 70000 → at_ < (s.ch c).idleAt + 2000000 →
        exec (.offStateProbe c ⟨sh, dl⟩ at_) s = .next { s with out := [], events := [], now := at_ })

/-- R317, R318, R453: the boost rail's overvoltage turns RECOVER decays into FREEWHEEL until 105 % of the setpoint, and a voltage
beyond Table PINS-9 is outside every rule, on the rail as on the probed pins. -/
def Obligations.BoostOvervoltageTurnsRecoverIntoFreewheel : Prop :=
  ∀ (s : State) (mv platformMv : Nat), s.live = true →
    (mv ≤ 70000 →
      ∃ t, exec (.boostOvervoltage mv platformMv) s = .next t
        ∧ t = { s with out := [], events := [], mandible := t.mandible }
        ∧ t.mandible.boostMv = mv ∧ t.mandible.platformMv = platformMv
        ∧ (s.obj 0x2810 1 * 1100 < mv ∨ 66000 < mv →
            t.mandible.overLimit = true
            ∧ ∀ c : Fin 8, t.ch c = if (s.ch c).drive = .recover
                then { s.ch c with drive := .freewheel, recoverAsFreewheel := true } else s.ch c)
        ∧ (mv ≤ s.obj 0x2810 1 * 1100 → mv ≤ 66000 →
            (t.mandible.overLimit = true ↔ s.mandible.overLimit = true ∧ s.obj 0x2810 1 * 1050 ≤ mv)
            ∧ ∀ c : Fin 8, t.ch c = s.ch c))
    ∧ (70000 < mv → exec (.boostOvervoltage mv platformMv) s = .fault .absoluteMaximum)
    ∧ (∀ (c : Fin 8) (sh dl : Int) (at_ : Nat), 70000 < sh ∨ 70000 < dl →
        exec (.offStateProbe c ⟨sh, dl⟩ at_) s = .fault .absoluteMaximum)

/-! ### Angle engine, limit inputs, homing (15) -/

/-- R341 to R345, R349 to R351 (Table ANGLE-1): what an edge and an inference do to a LOCKED wheel of `n` positions with `m` missing
teeth, `p` ns after the last accepted or inferred tooth at `l`. -/
def Obligations.WheelCountsTeethInLocked : Prop :=
  ∀ (s : State) (w : Fin 2), s.live = true → s.wheelOn w = true → (s.wheel w).sync = .locked →
    ∀ l, (s.wheel w).last = some l → ∀ n, n = s.wheelN w → ∀ m, m = s.wheelM w → ∀ r, r = (s.wheel w).tRef →
    ∀ k, k = (s.wheel w).k → ∀ p : Nat,
    -- noise is rejected and counted
    (2 * p < r →
      ∃ t, exec (.wheelEdge w (l + p)) s = .next t
        ∧ t = { s with out := t.out, events := [], now := l + p, log := t.log, field := t.field,
                       angle := { s.angle with wheels := t.angle.wheels } }
        ∧ t.wheel w = { s.wheel w with noise := satAdd 32 (s.wheel w).noise 1, newNoise := (t.wheel w).newNoise,
                                       noiseLog := (t.wheel w).noiseLog }
        ∧ ((s.wheel w).noiseLog = none → t.log.last.code = 0x7011 ∧ t.log.last.source = 0x170 + w))
    -- tooth k + 1
    ∧ (r ≤ 2 * p → 10 * p ≤ 16 * r → k + m + 1 < n → (s.wheel w).interval = none →
        ∃ t, exec (.wheelEdge w (l + p)) s = .next t
          ∧ t = { s with out := [], events := [], now := l + p, angle := { s.angle with wheels := t.angle.wheels } }
          ∧ (∀ v : Fin 2, v ≠ w → t.wheel v = s.wheel v)
          -- the position counts on from where it stood
          ∧ (∀ reach, reach = min ((s.wheel w).positionAt n m (l + p) + 1) (64 * (k + 1)) →
              (3 * r ≤ 4 * p → 100 * p ≤ 133 * r →
                t.wheel w = { s.wheel w with k := k + 1, last := some (l + p), tRef := p, reach := reach })
              ∧ (4 * p < 3 * r ∨ 133 * r < 100 * p →
                t.wheel w = { s.wheel w with k := k + 1, last := some (l + p), reach := reach })))
    -- the gap: tooth 0, every event of the wheel armed anew
    ∧ ((2 * m + 1) * r ≤ 2 * p → 10 * p ≤ 16 * (m + 1) * r → k + m + 1 = n → r ≤ 2 * p → (s.wheel w).interval = none →
        ∃ t, exec (.wheelEdge w (l + p)) s = .next t
          ∧ t = { s with out := [], events := [], now := l + p,
                         angle := { s.angle with wheels := t.angle.wheels, events := t.angle.events } }
          ∧ (t.wheel w).k = 0 ∧ (t.wheel w).last = some (l + p) ∧ (t.wheel w).sync = .locked ∧ (t.wheel w).fired = 0
          ∧ (∀ e : Fin 64, t.event (64 * w + e) = { s.event (64 * w + e) with spent := false }))
    -- an early tooth in the gap that leaves the wheel's pattern: LOST, detail 2
    ∧ (r ≤ 2 * p → 2 * p < (2 * m + 1) * r → n ≤ k + m + 1 → n - 1 < k + 1 →
        ∃ t, exec (.wheelEdge w (l + p)) s = .next t
          ∧ (t.wheel w).sync = .lost ∧ t.log.last = { code := 0x7012, source := 0x170 + w, detail := 2, count := s.logCount }
          ∧ t = { s with out := t.out, events := [], now := l + p, log := t.log, field := t.field,
                         angle := { s.angle with wheels := t.angle.wheels } })
    -- a gap out of place: tooth 0 with the slip of R351
    ∧ ((2 * m + 1) * r ≤ 2 * p → r ≤ 2 * p → 10 * p ≤ 16 * (m + 1) * r → n < k + m + 1 →
        ∃ t, exec (.wheelEdge w (l + p)) s = .next t
          ∧ (t.wheel w).k = 0 ∧ (t.wheel w).sync = .locked
          ∧ (t.wheel w).slip = ((k : Int) - ((n : Int) - (m : Int) - 1)) * 64
          ∧ t.log.last.code = 0x7013 ∧ t.log.last.source = 0x170 + w
          ∧ t = { s with out := t.out, events := [], now := l + p, log := t.log, field := t.field,
                         angle := { s.angle with wheels := t.angle.wheels, events := t.angle.events } })
    -- no edge by 1.6 T_ref: tooth k + 1 inferred one T_ref after the last, unless it would be the third in a row
    ∧ (10 * l + 16 * r ≤ 10 * (l + p) → k + m + 1 < n → (∀ x, (s.wheel w).interval = some x → x.1 ≠ 2) →
        ∃ t, exec (.toothInference w (l + p)) s = .next t
          ∧ (t.wheel w).k = k + 1 ∧ (t.wheel w).last = some (l + r) ∧ (t.wheel w).tRef = r ∧ (t.wheel w).sync = .locked
          ∧ (t.wheel w).interval.isSome = true)
    ∧ (10 * l + 16 * r ≤ 10 * (l + p) → k + m + 1 < n → (∃ x, (s.wheel w).interval = some x ∧ x.1 = 2) →
        ∃ t, exec (.toothInference w (l + p)) s = .next t
          ∧ (t.wheel w).sync = .lost ∧ (t.wheel w).interval = none
          ∧ (t.wheel w).inferred = satAdd 32 (s.wheel w).inferred 2
          ∧ t.log.last = { code := 0x7012, source := 0x170 + w, detail := 1, count := s.logCount })

/-- R346 to R349: arming by commit, firing, suppression in an inferred interval, and the end of an output pulse. The width of 0 is
the model's reading (log 46). -/
def Obligations.AngleEventsFireOnceOrAreSuppressed : Prop :=
  ∀ (s : State) (w : Fin 2) (e : Fin 64), s.live = true → ∀ i : Nat, i = 64 * w + e →
    -- arm and disarm act on the event alone
    (∀ x : Fin 128, x.val = i → ∀ position width : U16,
        ∃ t, exec (.angleEventArm x position width) s = .next t
          ∧ t = { s with out := [], events := [], od := t.od, angle := { s.angle with events := t.angle.events } }
          ∧ t.event i = { s.event i with armedByCommit := true }
          ∧ (∀ y : Fin 128, y.val ≠ i → t.event y = s.event y)
          ∧ t.obj (0x2910 + i) 1 = position.toNat % 0x4000
          ∧ t.obj (0x2910 + i) 6 = (if width = 0 then s.obj (0x2910 + i) 6 else width.toNat)
          ∧ t.obj (0x2910 + i) 2 = s.obj (0x2910 + i) 2 ∧ t.obj (0x2910 + i) 3 = s.obj (0x2910 + i) 3)
    ∧ (∀ x : Fin 128, x.val = i → ∀ position width : U16,
        ∃ t, exec (.angleEventDisarm ⟨x, position, width⟩) s = .next t
          ∧ t = { s with out := [], events := [], od := t.od, angle := { s.angle with events := t.angle.events } }
          ∧ t.event i = { s.event i with armedByCommit := false }
          ∧ (∀ y : Fin 128, y.val ≠ i → t.event y = s.event y)
          ∧ t.obj (0x2910 + i) 1 = position.toNat % 0x4000
          ∧ t.obj (0x2910 + i) 6 = (if width = 0 then s.obj (0x2910 + i) 6 else width.toNat)
          ∧ t.obj (0x2910 + i) 2 = s.obj (0x2910 + i) 2 ∧ t.obj (0x2910 + i) 3 = s.obj (0x2910 + i) 3)
    ∧ (∀ now : Nat,
        -- a reached, armed, unfired event outside an inferred interval: timestamp, and action 1 unless a safe state stands
        (s.eventArmed i = true → (s.event i).spent = false → (s.wheel w).sync = .locked →
          64 * (s.wheel w).k ≤ s.obj (0x2910 + i) 1 →
          s.obj (0x2910 + i) 1 ≤ (s.wheel w).positionAt (s.wheelN w) (s.wheelM w) now →
          ((s.wheel w).interval = none → s.obj (0x2910 + i) 2 = 1 → s.obj (0x2910 + i) 3 < 8 →
            ∃ t, exec (.angleEventFire w e now) s = .next t
              ∧ t = { s with out := [], events := [], now := now, angle := t.angle }
              ∧ t.event i = { s.event i with stamp := BitVec.ofInt 32 ((now : Int) - (s.bell.at_ : Int)), spent := true }
              ∧ (t.wheel w).fired = (s.wheel w).fired + 1
              ∧ t.angle.angOut = (if s.plan.safe then s.angle.angOut
                  else s.angle.angOut ||| BitVec.ofNat 8 (2 ^ s.obj (0x2910 + i) 3))
              ∧ (s.plan.safe = false → bitOf s.angle.angOut.toNat (s.obj (0x2910 + i) 3) = false →
                  vget t.angle.angEnd (s.obj (0x2910 + i) 3) 0 = now + s.obj (0x2910 + i) 6 * 1000))
          ∧ ((s.wheel w).interval.isSome = true → bitOf (s.obj (0x2910 + i) 4) 0 = false →
            ∃ t, exec (.angleEventFire w e now) s = .next t
              ∧ t = { s with out := [], events := [], now := now, angle := t.angle }
              ∧ t.event i = { s.event i with stamp := 0x80000000#32, spent := true }
              ∧ (t.wheel w).fired = (s.wheel w).fired ∧ t.angle.angOut = s.angle.angOut))
        -- fired, disarmed or unreached: nothing
        ∧ ((s.event i).spent = true ∨ s.eventArmed i = false ∨ (s.wheel w).sync ≠ .locked →
            exec (.angleEventFire w e now) s = .next { s with out := [], events := [], now := now }))
    -- the pulse ends once its width is over
    ∧ (∀ (n : Fin 8) (now : Nat), vget s.angle.angEnd n 0 ≤ now → ∃ t, exec (.angOutPulseEnd ⟨n, now⟩) s = .next t
        ∧ t = { s with out := [], events := [], now := now, angle := { s.angle with angOut := t.angle.angOut } }
        ∧ t.angle.angOut.getLsbD n = false
        ∧ (∀ j : Fin 8, j ≠ n → t.angle.angOut.getLsbD j = s.angle.angOut.getLsbD j))
    ∧ (∀ (n : Fin 8) (now : Nat), now < vget s.angle.angEnd n 0 →
        exec (.angOutPulseEnd ⟨n, now⟩) s = .next { s with out := [], events := [], now := now })

/-- R352 to R355: transitions, trips, chatter, debounce and release of limit input `i` while no axis is moving. -/
def Obligations.LimitInputsTripAndRelease : Prop :=
  ∀ (s : State) (i : Fin 16) (now : Nat), s.live = true → (∀ a : Fin 8, (s.axis a).moving = false) →
    bitOf (s.limitCfg i) 0 = true →
    -- a hard input trips at the first seen transition to active
    (∀ high : Bool, (high != bitOf (s.limitCfg i) 1) = true → (s.limit i).seen = false → (s.limit i).tripped = false →
        bitOf (s.limitCfg i) 2 = true → (s.limit i).chatter = false →
        ((s.limit i).transitions.filter (fun u => now ≤ u + s.obj (0x2A00 + i) 5 * 1000000)).length + 1
          < s.obj (0x2A00 + i) 4 →
        ∃ t, exec (.limitTransition i high now) s = .next t
          ∧ t = { s with out := t.out, events := [], now := now, log := t.log, field := t.field,
                         angle := { s.angle with limits := t.angle.limits } }
          ∧ t.log = s.log.add { code := 0x7020, source := 0x180 + i, count := s.logCount,
                                detail := 2 ^ 24 + (satAdd 32 (s.limit i).trips 1).toNat % 65536 }
          ∧ (t.limit i).tripped = true ∧ (t.limit i).trips = satAdd 32 (s.limit i).trips 1
          ∧ (t.limit i).seen = true ∧ (t.limit i).seenAt = some now ∧ (t.limit i).level = (s.limit i).level
          ∧ (∀ j : Fin 16, j ≠ i → t.limit j = s.limit j)
          ∧ (bitOf (s.limitCfg i) 3 = true → t.haltLow = true)
          ∧ (bitOf (s.limitCfg i) 4 = true → i ∈ (vget t.field.can 0 {}).halt))
    -- a transition that trips nothing is seen, and that is all
    ∧ (∀ high : Bool, (high != bitOf (s.limitCfg i) 1) = !(s.limit i).seen →
        (bitOf (s.limitCfg i) 2 = false ∨ (s.limit i).tripped = true ∨ (s.limit i).seen = true) →
        ((s.limit i).transitions.filter (fun u => now ≤ u + s.obj (0x2A00 + i) 5 * 1000000)).length + 1
          < s.obj (0x2A00 + i) 4 →
        ∃ t, exec (.limitTransition i high now) s = .next t
          ∧ t = { s with out := [], events := [], now := now, angle := { s.angle with limits := t.angle.limits } }
          ∧ (t.limit i).tripped = (s.limit i).tripped ∧ (t.limit i).trips = (s.limit i).trips
          ∧ (t.limit i).seen = !(s.limit i).seen ∧ (t.limit i).level = (s.limit i).level
          ∧ (∀ j : Fin 16, j ≠ i → t.limit j = s.limit j))
    -- K transitions within W ms: chatter, which trips a hard input too
    ∧ (∀ high : Bool, (high != bitOf (s.limitCfg i) 1) = !(s.limit i).seen → (s.limit i).chatter = false →
        s.obj (0x2A00 + i) 4
          ≤ ((s.limit i).transitions.filter (fun u => now ≤ u + s.obj (0x2A00 + i) 5 * 1000000)).length + 1 →
        ∃ t, exec (.limitTransition i high now) s = .next t
          ∧ (t.limit i).chatter = true ∧ (bitOf (s.limitCfg i) 2 = true → (t.limit i).tripped = true)
          ∧ t.log.last.code = 0x7021 ∧ t.log.last.source = 0x180 + i ∧ t.log.last.detail = s.obj (0x2A00 + i) 4
          ∧ t = { s with out := t.out, events := [], now := now, log := t.log, field := t.field,
                         angle := { s.angle with limits := t.angle.limits } })
    -- the debounced level follows after the debounce time
    ∧ (∀ u, (s.limit i).seenAt = some u → u + s.obj (0x2A00 + i) 3 * 100000 ≤ now →
        ∃ t, exec (.limitDebounceExpiry i now) s = .next t
          ∧ t = { s with out := [], events := [], now := now, angle := { s.angle with limits := t.angle.limits } }
          ∧ t.limit i = { s.limit i with level := (s.limit i).seen } ∧ (∀ j : Fin 16, j ≠ i → t.limit j = s.limit j))
    -- chattering clears after W ms without a seen transition
    ∧ (∀ u, (s.limit i).seenAt = some u → (s.limit i).chatter = true → u + s.obj (0x2A00 + i) 5 * 1000000 ≤ now →
        ∃ t, exec (.limitChatterClear i now) s = .next t
          ∧ t = { s with out := [], events := [], now := now, angle := { s.angle with limits := t.angle.limits } }
          ∧ t.limit i = { s.limit i with chatter := false, transitions := [] }
          ∧ (∀ j : Fin 16, j ≠ i → t.limit j = s.limit j))
    -- the release
    ∧ (∀ p : Principal, s.warden p = true →
        ∃ t, exec (.limitTripClear p i) s = .next t
          ∧ t = { s with out := t.out, events := [], host := { s.host with copies := t.host.copies },
                         angle := { s.angle with limits := t.angle.limits } }
          ∧ (∀ j : Fin 16, j ≠ i → t.limit j = s.limit j)
          ∧ ((s.limit i).level = false → (s.limit i).chatter = false →
              t.out = [.odReply p 0] ∧ t.limit i = { s.limit i with tripped := false })
          ∧ ((s.limit i).level = true ∨ (s.limit i).chatter = true →
              t.out = [.odReply p 0x08000022#32] ∧ t.limit i = s.limit i))

/-- R357 to R360: start, abort, velocity frame, drive frame and drive timeout of axis `a`. -/
def Obligations.HomingFollowsItsPhases : Prop :=
  ∀ (s : State) (p : Principal) (a : Fin 8) (now : Nat), s.live = true →
    -- start
    (s.warden p = true → s.startRefused a = false → s.axisTaken a = false →
      ∃ t, exec (.homingStart p a now) s = .next t ∧ t.out = [.odReply p 0]
        ∧ t = { s with out := t.out, events := [], now := now, host := { s.host with copies := t.host.copies },
                       angle := { s.angle with homing := t.angle.homing } }
        ∧ (t.axis a).state = 1 ∧ (t.axis a).since = now ∧ (t.axis a).frame = none
        ∧ (∀ b : Fin 8, b ≠ a → t.axis b = s.axis b))
    ∧ (s.warden p = true → (s.axis a).moving = true ∨ s.axisNode a = 0 ∨ s.axisHome a = 0xFF ∨ s.field.nmt = .stopped →
      ∃ t, exec (.homingStart p a now) s = .next t ∧ t.out = [.odReply p 0x08000022#32] ∧ t.angle = s.angle)
    ∧ (s.warden p = true → s.startRefused a = false → s.axisTaken a = true →
      ∃ t, exec (.homingStart p a now) s = .next t ∧ t.out = [.odReply p 0x08000020#32] ∧ t.angle = s.angle)
    -- abort
    ∧ (s.warden p = true → (s.axis a).moving = true →
      ∃ t, exec (.homingAbort p a) s = .next t ∧ t.out = [.odReply p 0] ∧ (t.axis a).state = 7
        ∧ t = { s with out := t.out, events := [], host := { s.host with copies := t.host.copies },
                       angle := { s.angle with homing := t.angle.homing },
                       field := { s.field with can := t.field.can } }
        ∧ ((vget s.field.can 0 {}).state ≠ .asleep →
            ((vget t.field.can 0 {}).buffers.map TxFrame.frame)
              = (vget s.field.can 0 {}).buffers.map TxFrame.frame
                ++ [classicFrame (0x300 + s.axisNode a) (toLE 2 0x010F ++ toLE 4 0)]))
    -- velocity frame
    ∧ ((s.axis a).moving = true → (vget s.field.can 0 {}).state ≠ .asleep →
      ∃ t, exec (.homingVelocityFrame a) s = .next t
        ∧ t = { s with out := [], events := [], field := { s.field with can := t.field.can } }
        ∧ ((vget t.field.can 0 {}).buffers.map TxFrame.frame)
            = (vget s.field.can 0 {}).buffers.map TxFrame.frame
              ++ [classicFrame (0x300 + s.axisNode a) (toLE 2 0x000F ++ toLE 4 (unsignedOf 32 (s.velocity a)))])
    ∧ ((s.axis a).moving = false → exec (.homingVelocityFrame a) s = .next { s with out := [], events := [] })
    -- drive frame: position, then the fault bit, then the edge of approach
    ∧ (s.axisNode a ≠ 0 → ∀ (status : U16) (position : U32),
      ∃ t, exec (.homingDriveFrame a status position now) s = .next t
        ∧ t = { s with out := [], events := [], now := now, angle := t.angle, field := { s.field with can := t.field.can } }
        ∧ (t.axis a).frame = some (now, signedOf 32 position.toNat)
        ∧ ((s.axis a).moving = true → bitOf status.toNat 3 = true → (t.axis a).state = 9)
        ∧ ((s.axis a).state = 1 → bitOf status.toNat 3 = false → (t.axis a).state = 1)
        ∧ (∀ te, (s.axis a).edgeAt = some te → ∀ f, (s.axis a).frame = some f → (s.axis a).state = 4 →
            (t.axis a).latchedPos = interpolate f.1 f.2 now (signedOf 32 position.toNat) te ∧ (t.axis a).edgeAt = none))
    -- drive timeout
    ∧ ((s.axis a).moving = true → (∀ f, (s.axis a).frame = some f → f.1 + 20000000 ≤ now) → (s.axis a).since + 20000000 ≤ now →
      ∃ t, exec (.homingDriveTimeout a now) s = .next t ∧ (t.axis a).state = 8
        ∧ t = { s with out := [], events := [], now := now, angle := { s.angle with homing := t.angle.homing },
                       field := { s.field with can := t.field.can } })

/-! ### Power and shedding (16), thermal and cooling (17) -/

/-- R368, R371 to R374, R378, R379: samples of the platform supply and the two comparators move the shed stage. The whole number
that stands for V_plat within 1 mV of the formula's value is a free choice (log 10). -/
def Obligations.SupplyMovesTheShedStage : Prop :=
  ∀ (s : State) (now : Nat), s.live = true →
    -- before ten samples exist nothing is evaluated
    (∀ code : BitVec 12, s.power.codes.length < 9 →
        exec (.vplatSample code now) s
          = .next { s with out := [], events := [], now := now,
                           power := { s.power with codes := code.toNat :: s.power.codes } })
    -- a sample gives V_plat, and the deepest stage whose fall threshold lies above it, here one of 1 to 4
    ∧ (∀ code : BitVec 12, s.power.codes.length = 10 →
        ∃ t, exec (.vplatSample code now) s = .next t
          ∧ t.power.codes = (code.toNat :: s.power.codes).take 10
          ∧ (∀ x : Rat, x = (((code.toNat :: s.power.codes).take 10).sum : Rat) / 10 * 2500 * (s.obj 0x2405 1 : Rat) / 409600 →
              x - 1 < ((t.power.vplat - s.objI 16 0x2405 2 : Int) : Rat)
              ∧ ((t.power.vplat - s.objI 16 0x2405 2 : Int) : Rat) < x + 1)
          ∧ ((∀ k : Fin 7, s.power.stage < k.val → (s.obj 0x2401 k : Int) ≤ t.power.vplat) →
              t.power.stage = s.power.stage
              ∧ t = { s with out := [], events := [], now := now, power := t.power })
          ∧ (∀ k : Fin 5, s.power.stage < k.val → t.power.vplat < (s.obj 0x2401 k : Int) →
              (∀ j : Fin 7, k.val < j.val → (s.obj 0x2401 j : Int) ≤ t.power.vplat) →
              t.power.stage = k.val ∧ t.power.changedAt = now
              ∧ t.log = s.log.add { code := 0x8001, source := 0x1B0, count := s.logCount,
                                    detail := unsignedOf 16 (t.power.vplat / 10) * 2 ^ 16 + s.power.stage * 256 + k.val }
              ∧ t.supplyDemand = s.obj 0x2404 k
              ∧ t = { s with out := t.out, events := [], now := now, log := t.log, field := t.field, power := t.power,
                             plan := { s.plan with raiseDemand := false, sentWord := t.plan.sentWord } }))
    -- a stage of 1 to 4 falls by one after the dwell
    ∧ (∀ a, s.power.aboveSince = some a → 1 ≤ s.power.stage → s.power.stage ≤ 4 →
        a + s.obj 0x2403 0 * 1000000 ≤ now → s.power.changedAt + s.obj 0x2403 0 * 1000000 ≤ now →
        ∃ t, exec (.shedStageFall now) s = .next t
          ∧ t.power.stage = s.power.stage - 1 ∧ t.power.changedAt = now
          ∧ t.log.last.code = 0x8001 ∧ t.log.last.source = 0x1B0 ∧ t.log.sinceClear = s.log.sinceClear + 1
          ∧ t = { s with out := t.out, events := [], now := now, log := t.log, field := t.field, power := t.power,
                         plan := { s.plan with raiseDemand := false, sentWord := t.plan.sentWord } })
    ∧ (∀ a, s.power.aboveSince = some a → now < s.power.changedAt + s.obj 0x2403 0 * 1000000 →
        exec (.shedStageFall now) s = .next { s with out := [], events := [], now := now })
    -- comparator A: stage 5, sinks safe, tier 7 at the next bell, the record of cause 5
    ∧ (s.power.stage < 5 →
        ∃ t, exec (.comparatorATrip now) s = .next t
          ∧ t.power.stage = 5 ∧ t.plan.safe = true ∧ (s.running = true → t.plan.fastPath = true)
          ∧ t.supplyDemand = 7 ∧ octet (t.obj 0x2B20 0) 0x30 = 5
          ∧ octets (t.obj 0x2B20 0) 0x38 8 = s.bell.count.toNat
          ∧ t.log.last.code = 0x8001 ∧ t.log.last.source = 0x1B1
          ∧ t.bell = s.bell ∧ t.tiles = s.tiles ∧ t.mem = s.mem ∧ t.island = s.island)
    -- comparator B: stage 6, the record of cause 6, power-down
    ∧ (s.power.stage < 6 →
        ∃ t, exec (.comparatorBTrip now) s = .next t
          ∧ t.power.stage = 6 ∧ t.plan.safe = true ∧ octet (t.obj 0x2B20 0) 0x30 = 6
          ∧ t.island.state = .poweringDown ∧ t.boot.phase = .off ∧ t.bell = s.bell ∧ t.tiles = s.tiles ∧ t.mem = s.mem)
    -- a comparator of a stage already reached changes nothing
    ∧ (5 ≤ s.power.stage → exec (.comparatorATrip now) s = .next { s with out := [], events := [], now := now })

/-- R364, R366, R367: a lost power-good, a poll of the regulators, and the readback after a raise. -/
def Obligations.RailsFailAndVoltageIsReadBack : Prop :=
  ∀ s : State,
    -- a lost power-good while the main domain is up
    (∀ rail : Fin 6, s.island.state = .mainOn → s.live = true →
        ∃ t, exec (.railPgLost rail) s = .next t
          ∧ t.plan.safe = true ∧ t.haltLow = true ∧ t.island.state = .poweringDown ∧ t.island.railRetry = true
          ∧ t.boot.phase = .off ∧ t.boot.released = false
          ∧ t.log.last = { code := 0x8004, source := 0x1C0 + rail, detail := 1, count := s.logCount }
          ∧ octet (t.obj 0x2B20 0) 0x30 = 0xF0 + rail
          ∧ (∀ c : Fin 8, (t.ch c).drive = .off ∧ (t.ch c).record = none)
          ∧ t.bell = s.bell ∧ t.tiles = s.tiles ∧ t.mem = s.mem ∧ t.power = s.power ∧ t.thermal = s.thermal)
    ∧ (∀ rail : Fin 6, s.island.state ≠ .mainOn → exec (.railPgLost rail) s = .next { s with out := [], events := [] })
    -- the poll of every hundredth bell asks each regulator on the segment, the core's always
    ∧ (∀ faults : List (Fin 6), s.live = true → s.running = true → 100 ≤ s.power.pollBells →
        (∀ r : Fin 6, r ∈ faults → r.val ≠ 1 ∧ r ∉ s.board.pmbus) →
        ∃ t, exec (.pmbusPoll faults) s = .next t
          ∧ t = { s with out := t.out, events := [], power := { s.power with pollBells := 0 } }
          ∧ (∀ r : Fin 6, Output.pmbusStatus r ∈ t.out ↔ r.val = 1 ∨ r ∈ s.board.pmbus))
    ∧ (s.live = true → s.running = true → 100 ≤ s.power.pollBells →
        ∃ t, exec (.pmbusPoll [1]) s = .next t
          ∧ t.island.state = .poweringDown ∧ t.plan.safe = true
          ∧ t.log.last = { code := 0x8004, source := 0x1C1, detail := 3, count := s.logCount })
    -- the readback
    ∧ (∀ target mv, s.live = true → s.power.raise = some target → target ≤ mv + 15 →
        exec (.vddCoreReadback mv) s
          = .next { s with out := [.avsRead], events := [], power := { s.power with raise := none } })
    ∧ (∀ target mv, s.live = true → s.power.raise = some target → mv + 15 < target →
        ∃ t, exec (.vddCoreReadback mv) s = .next t
          ∧ t.power.raise = none ∧ t.plan.safe = true ∧ t.supplyDemand = 7
          ∧ t.log.last = { code := 0x8004, source := 0x1C1, detail := 2, count := s.logCount }
          ∧ (∀ pl, s.plan.plan = some pl → ∀ k, pl.tier? 7 = some k →
              t.plan.raiseFailed = some (if k.entry.vddMv ≤ mv then 7 else 15))
          ∧ (s.plan.plan = none → t.plan.raiseFailed = some 15)
          ∧ t.bell = s.bell ∧ t.tiles = s.tiles ∧ t.mem = s.mem)
    ∧ (∀ mv, s.live = true → s.power.raise = none → exec (.vddCoreReadback mv) s = .next { s with out := [], events := [] })

/-- R383, R384, R388: samples, faulty sensors, the trip and its cooldown. -/
def Obligations.ThermalSensorsAndTrip : Prop :=
  ∀ s : State, s.live = true →
    -- a sample of a peripheral sensor is its reading
    (∀ (k : Fin 264) (v : Int), 256 ≤ k.val →
        ∃ t, exec (.thermalSample k (some v)) s = .next t
          ∧ t = { s with out := [], events := [], thermal := { s.thermal with reading := t.thermal.reading,
                                                                              deviates := t.thermal.deviates } }
          ∧ t.reading k = v ∧ (∀ j : Fin 264, j ≠ k → t.reading j = s.reading j))
    -- the sixteenth deviating sample of a tile sensor in a row: faulty, and quarantine asked for by cause 5
    ∧ (∀ (k : Fin 256) (v : Int), s.deviates k v = true → (assocGet k s.thermal.deviates).getD 0 = 15 →
        s.sensorFaulty k = false → s.running = true → (s.tile k).mode = .active →
        ∃ t, exec (.thermalSample ⟨k, by omega⟩ (some v)) s = .next t
          ∧ t.sensorFaulty k = true ∧ (t.tile k).requests = (s.tile k).requests ++ [(1, 5)]
          ∧ t = { s with out := [], events := [], thermal := { s.thermal with
                           reading := t.thermal.reading, deviates := t.thermal.deviates, faulty := t.thermal.faulty },
                         tiles := t.tiles })
    -- a peripheral sensor out of range is excluded from then on, with its log entry
    ∧ (∀ k : Fin 264, 256 ≤ k.val → s.sensorFaulty k = false →
        ∃ t, exec (.thermalSample k none) s = .next t
          ∧ t = { s with out := t.out, events := [], log := t.log, field := t.field,
                         thermal := { s.thermal with faulty := s.thermal.faulty ++ [k.val] } }
          ∧ t.log = s.log.add { code := 0x9001, source := 0x1A0 + (k.val - 256), count := s.logCount,
                                detail := 5 * 2 ^ 24 + s.thermalDemand * 256 + s.thermalDemand })
    -- the trip
    ∧ (∀ (k : Fin 264) (v : Int), s.boot.released = true → 1150 ≤ v → s.sensorFaulty k = false → s.running = true →
        ∃ t, exec (.thermalTrip k v) s = .next t
          ∧ t.bell.state = .stopped ∧ t.plan.plan = none ∧ t.plan.running = false ∧ t.plan.safe = true ∧ t.haltLow = true
          ∧ t.thermal.tripped = true ∧ t.power.vddMv = 600 ∧ Output.avsWrite 600 ∈ t.out
          ∧ t.log.last.code = 0x9003 ∧ t.log.last.detail = unsignedOf 16 v
          ∧ t.log.last.source = (if k.val < 256 then k.val else 0x1A0 + (k.val - 256))
          ∧ (∀ c : Fin 8, (t.ch c).drive = .off) ∧ t.boot = s.boot ∧ t.island = s.island)
    ∧ (∀ (k : Fin 264) (v : Int), v < 1150 → exec (.thermalTrip k v) s = .next { s with out := [], events := [] })
    -- its cooldown
    ∧ (s.reading s.hottest < 950 →
        exec .tripCooldownEnd s = .next { s with out := [], events := [], thermal := { s.thermal with tripped := false } })
    ∧ (950 ≤ s.reading s.hottest → exec .tripCooldownEnd s = .next { s with out := [], events := [] })

/-- R385 to R387, R394: flow pulses, the 100 ms update, and the loss of flow. -/
def Obligations.CoolantFlowIsMeasuredAndItsLossPosted : Prop :=
  ∀ (s : State) (now : Nat), s.live = true →
    (∃ t, exec (.flow0Edge now) s = .next t
        ∧ t = { s with out := [], events := [], now := now, thermal := { s.thermal with pulses := t.thermal.pulses } }
        ∧ t.thermal.pulses = now :: s.thermal.pulses.filter (fun u => now < u + 1000000000))
    -- both NTCs valid and nothing to post: flow, heat and readings
    ∧ (∀ tin tout : Int, -2000 ≤ tin → tin ≤ 12000 → -2000 ≤ tout → tout ≤ 12000 → s.thermal.noFlow = false →
        ∃ t, exec (.flowUpdate (some tin) (some tout) now) s = .next t
          ∧ t = { s with out := [], events := [], now := now, thermal := t.thermal }
          ∧ t.thermal.inlet = some tin ∧ t.thermal.outlet = some tout
          ∧ (∀ n, n = (s.thermal.pulses.filter (fun u => now < u + 1000000000)).length →
              (t.thermal.flow : Rat) < (n : Rat) * 60000 / (s.obj 0x2510 4 : Rat) + 1
              ∧ (n : Rat) * 60000 / (s.obj 0x2510 4 : Rat) < (t.thermal.flow : Rat) + 1)
          ∧ (tout ≤ tin → t.thermal.heat = 0)
          ∧ (tin < tout → ∀ q : Rat, q = (s.obj 0x2510 7 : Rat) * (t.thermal.flow : Rat) / 60000000 * (s.obj 0x2510 6 : Rat)
                * ((tout - tin : Int) : Rat) / 100 →
              2 * (t.thermal.heat : Rat) ≤ 2 * q + 1 ∧ 2 * q < 2 * (t.thermal.heat : Rat) + 1)
          ∧ (t.thermal.flow < s.obj 0x2510 5 ↔ t.thermal.lowSince.isSome = true)
          ∧ (t.thermal.flow < s.obj 0x2510 5 ↔ t.thermal.okSince = none))
    -- a faulty inlet posts the no-flow demand with cause 2
    ∧ (∀ tout : Int, s.thermal.inlet.isSome = true → -2000 ≤ tout → tout ≤ 12000 →
        ∃ t, exec (.flowUpdate none (some tout) now) s = .next t
          ∧ t.thermal.noFlow = true ∧ t.thermal.inlet = none ∧ t.thermal.heat = 0
          ∧ t.log.last.code = 0x9002 ∧ t.log.last.source = 0x1A8
          ∧ t.log.last.detail = 2 * 2 ^ 24 + t.thermal.flow % 2 ^ 16)
    -- two seconds of low flow post it with cause 1, once
    ∧ (∀ l, s.thermal.lowSince = some l → l + 2000000000 ≤ s.now → s.thermal.noFlow = false →
        ∃ t, exec .coolantFlowLow s = .next t
          ∧ t = { s with out := t.out, events := [], log := t.log, field := t.field,
                         thermal := { s.thermal with noFlow := true },
                         plan := { s.plan with sentWord := t.plan.sentWord } }
          ∧ t.log.last = { code := 0x9002, source := 0x1AA, detail := 2 ^ 24 + s.thermal.flow % 2 ^ 16, count := s.logCount }
          ∧ (s.plan.plan = none → t.noFlowDemand = 7)
          ∧ (∀ pl, s.plan.plan = some pl → t.noFlowDemand = (pl.richest (fun x => x.entry.noFlow)).getD 7))
    ∧ (s.thermal.noFlow = true → exec .coolantFlowLow s = .next { s with out := [], events := [] })

/-! ### Chrysalis domain (18) with the wake sequence (16) -/

/-- R361, R381, R414 to R416, R8: the wake sequence, its failures and its success. -/
def Obligations.WakeSequenceBringsUpTheMainDomain : Prop :=
  ∀ s : State, s.island.supplied = true →
    -- rails one by one, then the reference
    (s.island.state = .waking → s.island.waiting = false →
      ∃ t, exec .railSequenceStep s = .next t
        ∧ t = { s with out := [], events := [], island := { s.island with rails := t.island.rails,
                                                                          refEnabled := t.island.refEnabled } }
        ∧ (s.island.rails < 6 → t.island.rails = s.island.rails + 1 ∧ t.island.refEnabled = s.island.refEnabled)
        ∧ (6 ≤ s.island.rails → t.island.rails = s.island.rails ∧ t.island.refEnabled = true))
    -- the reference is valid: MAIN_ON, FAULT_N released, the boot ROM, everything the island does not hold at its default
    ∧ (s.island.state = .waking → s.island.waiting = false → s.island.refEnabled = true → s.island.rails = 6 →
      ∃ t, exec .referenceValid s = .next t
        ∧ t.island = { s.island with state := .mainOn, faultN := false }
        ∧ t.boot = { released := true, phase := .rom, straps := s.boot.straps } ∧ t.radio = s.radio ∧ t.board = s.board
        ∧ t.bell = {} ∧ t.plan = {} ∧ t.mem = {} ∧ t.log.sinceReset = s.log.sinceReset ∧ t.log.sinceClear = 0
        -- a tile out of service stays so until a cold reset (R76), and bus-offs stay counted (R279)
        ∧ (∀ k : Fin 256, (t.tile k).mode
            = if s.board.repair.getLsbD k = true ∨ (s.tile k).mode = .outOfService then .outOfService else .gatedOff)
        ∧ (∀ c : Fin 2, (t.can c).busOffs = (s.can c).busOffs))
    -- an attempt fails: a power-good after 50 ms, or the reference after 20 ms
    ∧ (s.island.state = .waking → s.island.waiting = false → s.island.refEnabled = false →
      exec .wakePgTimeout s = .next { s with out := [], events := [], island := { s.island with
        waiting := true, failKind := 0x8002, failRail := s.island.rails - 1 } })
    ∧ (s.island.state = .waking → s.island.waiting = false → s.island.refEnabled = true →
      exec .wakeReferenceTimeout s = .next { s with out := [], events := [], island := { s.island with
        waiting := true, refEnabled := false, failKind := 0x8003, failRail := 0xFF } })
    -- the next attempt, at most three; after the third WAKE_FAILED with FAULT_N low and the code in 0x2B00:03
    ∧ (s.island.state = .waking → s.island.waiting = true → s.island.attempts < 3 →
      exec .wakeAttemptRetry s = .next { s with out := [], events := [], island := { s.island with
        attempts := s.island.attempts + 1, waiting := false, rails := 1, refEnabled := false } })
    ∧ (s.island.state = .waking → s.island.waiting = true → 3 ≤ s.island.attempts →
      ∃ t, exec .wakeAttemptRetry s = .next t
        ∧ t.island.state = .wakeFailed ∧ t.island.faultN = true ∧ t.island.failCode = s.island.failKind
        ∧ t.radio.faultBeacon = decide (s.obj 0x2C00 7 = 1)
        ∧ octets (t.obj 0x2B20 0) 0x28 2 = s.island.failKind % 65536 ∧ octet (t.obj 0x2B20 0) 0x2A = s.island.failRail % 256
        ∧ octet (t.obj 0x2B20 0) 0x2B = 3)
    -- the rails go down one by one, and the island is in CHRYSALIS, or wakes again for a source it held
    ∧ (s.island.state = .poweringDown →
      exec .powerDownStep s = .next { s with out := [], events := [], island := { s.island with rails := s.island.rails - 1 } })
    ∧ (s.island.state = .poweringDown → s.island.rails = 0 → s.island.heldWake = none →
      ∃ t, exec .powerDownComplete s = .next t ∧ t.island = { s.island with state := .chrysalis }
        ∧ t = { s with out := [], events := [], island := t.island, radio := { s.radio with chrysalisBeacon := true } })
    ∧ (∀ c, s.island.state = .poweringDown → s.island.rails = 0 → s.island.heldWake = some c →
      ∃ t, exec .powerDownComplete s = .next t ∧ t.island.state = .waking ∧ t.island.lastWake = c ∧ t.island.attempts = 1
        ∧ t.island.rails = 1)
    -- wake sources: latched only while enabled, and acting by the island's state
    ∧ (∀ (n : Fin 4) (now : Nat), bitOf (s.obj 0x2B00 4) (3 + n) = true →
      ∃ t, exec (.wakeSourceFire (.gpio n) now) s = .next t
        ∧ t.island.pendingWakes = s.island.pendingWakes ||| BitVec.ofNat 7 (2 ^ (3 + n.val))
        ∧ (s.island.state = .chrysalis ∨ s.island.state = .wakeFailed →
            t.island.state = .waking ∧ t.island.lastWake = 4 + n ∧ t.island.attempts = 1 ∧ t.island.rails = 1)
        -- in the oscillator period of the recorded source the lowest code is recorded, later the first stays
        ∧ (s.island.state = .waking →
            t = { s with out := [], events := [], now := now, island := { s.island with
                    pendingWakes := t.island.pendingWakes, lastWake := t.island.lastWake } }
            ∧ (∀ w, s.island.wakeAt = some w → t.island.lastWake
                = if now ≤ w + 30517 then min s.island.lastWake (4 + n.val) else s.island.lastWake)
            ∧ (s.island.wakeAt = none → t.island.lastWake = s.island.lastWake))
        ∧ (s.island.state = .poweringDown → t.island.state = .poweringDown ∧ t.island.heldWake.isSome = true)
        ∧ (s.island.state = .mainOn → s.live = true →
            t.log.last = { code := 0xA004, source := 0x1D3, detail := 0x10000 + (4 + n), count := s.logCount }))
    ∧ (∀ (n : Fin 4) (now : Nat), bitOf (s.obj 0x2B00 4) (3 + n) = false →
      exec (.wakeSourceFire (.gpio n) now) s = .next { s with out := [], events := [], now := now })
    -- the retry one second after a rail failure
    ∧ (s.island.railRetry = true → s.island.state = .chrysalis →
      ∃ t, exec .railFailureRetry s = .next t ∧ t.island.state = .waking ∧ t.island.lastWake = 0xFE ∧ t.island.railRetry = false
        ∧ t = { s with out := [], events := [], island := t.island })
    -- the point of no return of network sleep
    ∧ (∀ now, s.live = true → s.field.sleep = .arming → s.field.pnrAt ≤ now →
      ∃ t, exec (.sleepPnr now) s = .next t ∧ t.field.sleep = .pastPnr ∧ t.island.state = .poweringDown ∧ t.boot.phase = .off)

/-- R8, R311, R397, R414 (Table BOOT-6): what a cold reset leaves. The reset values that the manual does not give are the model's
(log 2, 3, 4, 5). -/
def Obligations.ColdResetLeavesDefaults : Prop :=
  ∀ s : State,
    (∃ t, exec (.coldReset true) s = .next t
      ∧ t.island.state = .waking ∧ t.island.attempts = 1 ∧ t.island.lastWake = 0 ∧ t.island.rails = 1
      ∧ t.island.supplied = true ∧ t.island.pendingWakes = 0
      ∧ t.island.cutoffLatch = s.island.cutoffLatch ∧ t.island.overcurrent = s.island.overcurrent
      ∧ t.boot = {} ∧ t.bell = {} ∧ t.plan = {} ∧ t.od = {} ∧ t.log = {} ∧ t.mem = {} ∧ t.mesh = {} ∧ t.drove = {}
      ∧ t.host = {} ∧ t.field = {} ∧ t.mandible = {} ∧ t.angle = {} ∧ t.power = {} ∧ t.thermal = {} ∧ t.radio = {}
      ∧ t.board = s.board ∧ t.pending = s.pending
      ∧ (∀ k : Fin 256, (t.tile k).mode = if s.board.repair.getLsbD k then .outOfService else .gatedOff))
    ∧ (∃ t, exec (.coldReset false) s = .next t ∧ t.island.state = .chrysalis ∧ t.island.rails = 0 ∧ t.boot = {} ∧ t.od = {})

/-- R396 to R400 (Tables CHRY-1 and CHRY-2): supplies, protector, chargers and harvesters. Voltages beyond Table PINS-9 stop the
model (R453). -/
def Obligations.StoreAndSuppliesFollowTheirLimits : Prop :=
  ∀ s : State,
    (s.island.supplied = true →
      -- the supply switch with its hysteresis
      (∀ aux store : Nat, aux ≤ 3800 → store ≤ 4500 → s.island.cutOff = false → s.island.ocOpen = false →
        ∃ t, exec (.supplySwitch aux store) s = .next t
          ∧ t = { s with out := [], events := [], island := { s.island with onAux := t.island.onAux, storeMv := store } }
          ∧ (s.island.onAux = false → (t.island.onAux = true ↔ store + 50 < aux ∧ 2900 < aux))
          ∧ (s.island.onAux = true → (t.island.onAux = false ↔ aux + 50 < store ∨ aux < 2800)))
      -- cutoff: the switch opens and the latch is set; without VDD_AUX the island loses its supply
      ∧ (∃ t, exec .storeCutoff s = .next t
          ∧ t.island.cutOff = true ∧ t.island.cutoffLatch = true ∧ t.island.teg = false
          ∧ (s.island.onAux = true → t = { s with out := [], events := [], island := { s.island with
              cutOff := true, cutoffLatch := true, teg := false } })
          ∧ (s.island.onAux = false → t.island.supplied = false ∧ t.boot.phase = .off))
      ∧ (∃ t, exec .storeOvercurrent s = .next t
          ∧ t.island.ocOpen = true ∧ t.island.overcurrent = true
          ∧ (s.island.onAux = true → t = { s with out := [], events := [], island := { s.island with
              ocOpen := true, overcurrent := true } })
          ∧ (s.island.onAux = false → t.island.supplied = false ∧ t.boot.phase = .off))
      -- the low warning is logged at once while DMF runs
      ∧ (s.live = true →
          ∃ t, exec .storeLowWarning s = .next t
            ∧ t = { s with out := t.out, events := [], log := t.log, island := { s.island with lowWarning := true } }
            ∧ t.log = s.log.add { code := 0xA003, source := 0x1D1, detail := 1, count := s.logCount })
      ∧ (s.live = false →
          exec .storeLowWarning s = .next { s with out := [], events := [], island := { s.island with
            lowWarning := true, lowWarningLog := true } })
      -- harvesters
      ∧ (∀ voc uw : Nat, voc ≤ 5500 →
          exec (.pvMpptSample voc uw) s = .next { s with out := [], events := [], island := { s.island with
            pvMv := voc, pvOk := decide (350 ≤ voc ∧ voc ≤ 5000), pvPoint := if voc < 350 then 0 else voc * 76 / 100, harvested := uw } })
      ∧ (∀ mv : Nat, mv ≤ 1000 →
          ∃ t, exec (.tegBoosterThreshold mv) s = .next t
            ∧ t = { s with out := [], events := [], island := { s.island with tegMv := mv, teg := t.island.teg } }
            ∧ (s.island.storeClosed = false → t.island.teg = false)
            ∧ (s.island.storeClosed = true → 20 ≤ mv → t.island.teg = true)
            ∧ (s.island.storeClosed = true → mv < 15 → t.island.teg = false)
            ∧ (s.island.storeClosed = true → 15 ≤ mv → mv < 20 → t.island.teg = s.island.teg))
      -- the charger's inputs
      ∧ (∀ b : Bool, exec (.vchgPresenceChange b) s = .next { s with out := [], events := [], island := { s.island with vchg := b } })
      ∧ exec .chargeTargetReached s = .next { s with out := [], events := [], island := { s.island with atTarget := true } }
      ∧ exec .chargeResume s = .next { s with out := [], events := [], island := { s.island with atTarget := false } }
      ∧ exec (.chargeTemperatureWindow none) s
          = .next { s with out := [], events := [], island := { s.island with ntcBad := true } }
      ∧ (∀ x : Int, exec (.chargeTemperatureWindow (some x)) s = .next { s with out := [], events := [], island := { s.island with
            ntcBad := false, storeTemp := x, tempOut := decide (x < 0 ∨ 450 < x) } }))
    -- release and reclose need no supply: the protector keeps its own
    ∧ exec .storeRelease s = .next { s with out := [], events := [], island := { s.island with cutOff := false, lowWarning := false } }
    ∧ exec .storeSwitchReclose s = .next { s with out := [], events := [], island := { s.island with ocOpen := false } }
    -- the store status, whose read clears the overcurrent bit
    ∧ (∀ p : Principal, s.live = true → s.warden p = true →
        ∃ t, exec (.storeStatusRead p) s = .next t ∧ t.out = [.odData p s.storeStatus]
          ∧ t = { s with out := t.out, events := [], island := { s.island with overcurrent := false },
                         host := { s.host with copies := t.host.copies } })
    -- beyond Table PINS-9
    ∧ (∀ aux store : Nat, 3800 < aux ∨ 4500 < store → exec (.supplySwitch aux store) s = .fault .absoluteMaximum)
    ∧ (∀ voc uw : Nat, 5500 < voc → exec (.pvMpptSample voc uw) s = .fault .absoluteMaximum)
    ∧ (∀ mv : Nat, 1000 < mv → exec (.tegBoosterThreshold mv) s = .fault .absoluteMaximum)

/-- R405 with Table CHRY-5, R406: every field of every calendar that can be stored rolls over as the table says. -/
def Obligations.CalendarCarriesByTableChry5 : Prop :=
  ∀ c : Calendar, c.year ≤ 399 → c.month ≤ 15 → c.weekday ≤ 7 → c.day ≤ 31 → c.hours ≤ 31 → c.minutes ≤ 63 → c.seconds ≤ 63 →
    ∀ leap : Prop, (leap ↔ (2000 + c.year) % 4 = 0 ∧ ((2000 + c.year) % 100 ≠ 0 ∨ (2000 + c.year) % 400 = 0)) →
    ∀ len : Nat, (c.month = 4 ∨ c.month = 6 ∨ c.month = 9 ∨ c.month = 11 → len = 30) → (c.month = 2 → leap → len = 29) →
      (c.month = 2 → ¬ leap → len = 28) →
      (c.month ≠ 2 → c.month ≠ 4 → c.month ≠ 6 → c.month ≠ 9 → c.month ≠ 11 → len = 31) →
    -- seconds and minutes below 59 step, others go to 0 and carry
    (c.seconds < 59 → carrySub c = { c with sub := 0, seconds := c.seconds + 1 })
    ∧ (59 ≤ c.seconds → c.minutes < 59 → carrySub c = { c with sub := 0, seconds := 0, minutes := c.minutes + 1 })
    ∧ (59 ≤ c.seconds → 59 ≤ c.minutes → c.hours < 23 →
        carrySub c = { c with sub := 0, seconds := 0, minutes := 0, hours := c.hours + 1 })
    -- midnight: the weekday steps, 6 and 7 give 0 and 1, and never carries
    ∧ (59 ≤ c.seconds → 59 ≤ c.minutes → 23 ≤ c.hours → c.day < len →
        carrySub c = { c with sub := 0, seconds := 0, minutes := 0, hours := 0, weekday := (c.weekday + 1) % 7, day := c.day + 1 })
    ∧ (59 ≤ c.seconds → 59 ≤ c.minutes → 23 ≤ c.hours → len ≤ c.day → c.month < 12 →
        carrySub c = { c with sub := 0, seconds := 0, minutes := 0, hours := 0, weekday := (c.weekday + 1) % 7, day := 1,
                              month := c.month + 1 })
    ∧ (59 ≤ c.seconds → 59 ≤ c.minutes → 23 ≤ c.hours → len ≤ c.day → 12 ≤ c.month → c.year < 399 →
        carrySub c = { c with sub := 0, seconds := 0, minutes := 0, hours := 0, weekday := (c.weekday + 1) % 7, day := 1,
                              month := 1, year := c.year + 1 })
    ∧ (59 ≤ c.seconds → 59 ≤ c.minutes → 23 ≤ c.hours → len ≤ c.day → 12 ≤ c.month → c.year = 399 →
        carrySub c = { c with sub := 0, seconds := 0, minutes := 0, hours := 0, weekday := (c.weekday + 1) % 7, day := 1,
                              month := 1, year := 0 })

/-- R402, R404, R405, R407, R409, R410, R412: calendar, alarm, register window, interface lock and status. -/
def Obligations.CalendarWindowAndStatus : Prop :=
  ∀ s : State,
    (s.island.supplied = true →
      -- a carry moves the calendar, and fires the alarm that matches it
      (∃ t, exec .calendarCarry s = .next t
        ∧ t.island.calendar = carrySub s.island.calendar ∧ t.bell.timeSeconds = s.bell.timeSeconds + 1
        ∧ (s.obj 0x2B11 3 = 0 →
            t = { s with out := [], events := [], bell := { s.bell with timeSeconds := s.bell.timeSeconds + 1 },
                         island := { s.island with calendar := t.island.calendar, subAt := t.island.subAt } })
        ∧ (s.obj 0x2B11 3 = 1 → alarmMatch (carrySub s.island.calendar) (s.obj 0x2B11 1) = true →
            t.island.alarmFired = true
            ∧ (bitOf (s.obj 0x2B00 4) 0 = true → t.island.pendingWakes = s.island.pendingWakes ||| 1#7)))
      -- the crystal
      ∧ exec .crystalFault s
          = .next { s with out := [], events := [], island := { s.island with crystalFault := true, crystalFaultLog := true } }
      ∧ exec .crystalRecovered s = .next { s with out := [], events := [], island := { s.island with crystalFault := false } }
      -- FREEZE latches every field, TWICE none; the address increments, and a read that reaches 0x09 releases the shadow
      ∧ (∀ (sub : BitVec 15) (more : BitVec 8) (live : Calendar), live = { s.island.calendar with sub := sub.toNat } →
          ∀ i0 : Island, i0 = (if s.obj 0x2B12 0 = 0 then { s.island with shadow := some live, expired := false } else s.island) →
          exec (.windowFreezeLatch ⟨sub, more⟩) s = .next { s with
            out := (List.range (more.toNat + 1)).map (fun a => .windowByte (({ s with island := i0 } : State).windowByte live a)),
            events := [], island := if 9 ≤ more.toNat then { i0 with shadow := none, expired := false } else i0 })
      -- a read of ten bytes in FREEZE mode gives the fields of one instant
      ∧ (∀ sub : BitVec 15, s.obj 0x2B12 0 = 0 → ∀ c, c = s.island.calendar →
          exec (.windowFreezeLatch ⟨sub, 9⟩) s = .next { s with
            out := [.windowByte (sub.toNat % 256), .windowByte (sub.toNat / 256), .windowByte c.seconds, .windowByte c.minutes,
                    .windowByte c.hours, .windowByte c.weekday, .windowByte c.day, .windowByte c.month, .windowByte (c.year % 256),
                    .windowByte (c.year / 256 % 2)],
            events := [], island := { s.island with shadow := none, expired := false } })
      -- the read of 0x09 releases, and 2 ms expire the shadow
      ∧ (∀ c, c = s.island.shadow.getD s.island.calendar →
          exec .windowFreezeRelease s = .next { s with
            out := [.windowByte (c.year / 256 % 2 + (if s.island.expired then 128 else 0))], events := [],
            island := { s.island with shadow := none, expired := false } })
      ∧ (s.island.shadow.isSome = true →
          exec .windowShadowExpiry s
            = .next { s with out := [], events := [], island := { s.island with shadow := none, expired := true } })
      -- the interface lock
      ∧ (∀ mv : Nat, mv < 3050 → s.island.state = .mainOn → s.island.locked = false → s.live = true →
          ∃ t, exec (.chrInterfaceLocked mv) s = .next t
            ∧ t = { s with out := t.out, events := [], log := t.log, island := { s.island with locked := true } }
            ∧ t.log = s.log.add { code := 0xA002, source := 0x1D2, detail := 0, count := s.logCount }))
    -- a write of the calendar: stored as written, flagged where invalid, refused above year 399 and while locked
    ∧ (∀ (p : Principal) (v : U64), s.live = true → s.warden p = true →
        (s.island.locked = false → bitsOf v.toNat 48 9 ≤ 399 → bitsOf v.toNat 57 7 = 0 → bitsOf v.toNat 44 4 = 0 →
          ∃ t, exec (.calendarWrite p v) s = .next t
            ∧ t.island.calendar = unpackCalendar v.toNat
            ∧ ((unpackCalendar v.toNat).invalid = 0 → t.out = [.odReply p 0] ∧ t.log = s.log
                ∧ t.island.invalidDate = s.island.invalidDate)
            ∧ ((unpackCalendar v.toNat).invalid ≠ 0 → t.island.invalidDate = true
                ∧ t.log = s.log.add { code := 0xA001, source := 0x1D0, detail := (unpackCalendar v.toNat).invalid,
                                      count := s.logCount })
            ∧ t = { s with out := t.out, events := [], log := t.log, host := { s.host with copies := t.host.copies },
                           island := { s.island with calendar := t.island.calendar, subAt := t.island.subAt,
                                                     invalidDate := t.island.invalidDate } })
        ∧ (399 < bitsOf v.toNat 48 9 → s.island.locked = false →
          ∃ t, exec (.calendarWrite p v) s = .next t ∧ t.out = [.odReply p 0x06090030#32] ∧ t.island = s.island ∧ t.log = s.log)
        ∧ (s.island.locked = true → bitsOf v.toNat 48 9 ≤ 399 →
          ∃ t, exec (.calendarWrite p v) s = .next t ∧ t.out = [.odReply p 0x08000022#32] ∧ t.island = s.island ∧ t.log = s.log))
    -- the status word, whose read clears its two bits and releases the lock once VDD_AUX is good
    ∧ (∀ (p : Principal) (good : Bool), s.live = true → s.warden p = true →
        ∃ t, exec (.chrysalisStatusRead p good) s = .next t ∧ t.out = [.odData p s.chrysalisStatus]
          ∧ t = { s with out := t.out, events := [], host := { s.host with copies := t.host.copies },
                         island := { s.island with alarmFired := false, invalidDate := false,
                                                   locked := s.island.locked && !good } })

/-! ### Cicada radio (19) -/

/-- R418, R419, R424, R426, R428, R430, R431: slots, receptions, beacons and acknowledgements within the dwell limits. -/
def Obligations.RadioSlotsBeaconsAndDwell : Prop :=
  ∀ (s : State) (now : Nat), s.island.supplied = true →
    -- a slot start in a reception waits for its end; none is pending
    (∀ activity : Bool, s.radio.chrysalisBeacon = false → s.radio.faultBeacon = false → s.radio.rx = true →
        exec (.sniffSlot activity now) s
          = .next { s with out := [], events := [], now := now, radio := { s.radio with crossed := true } })
    -- a slot start outside: the written values are in force, and the radio listens on the channel of Table RADIO-1
    ∧ (∀ activity : Bool, s.radio.chrysalisBeacon = false → s.radio.faultBeacon = false → s.radio.rx = false →
        ∃ t, exec (.sniffSlot activity now) s = .next t
          ∧ t = { s with out := t.out, events := [], now := now, radio := { s.radio with
                    region := s.obj 0x2C00 1, panId := s.obj 0x2C00 2, address := s.obj 0x2C00 3, interval := s.obj 0x2C00 5,
                    slot := t.radio.slot, channel := t.radio.channel, crossed := false, rx := t.radio.rx } }
          ∧ (∀ ms, ms = ({ s with now := now } : State).calendarMs → ms % s.obj 0x2C00 5 = 0 →
              t.radio.slot = ms / s.obj 0x2C00 5)
          ∧ (s.obj 0x2C00 1 = 1 → t.radio.channel = (17 * t.radio.slot + s.obj 0x2C00 2) % 129)
          ∧ (s.obj 0x2C00 1 = 2 → t.radio.channel = (t.radio.slot + s.obj 0x2C00 2) % 3)
          ∧ (∀ run : Bool, (run = true ↔ (s.obj 0x2C00 1 = 1 ∨ s.obj 0x2C00 1 = 2) ∧ s.radio.key.isSome = true
                ∧ s.obj 0x2C00 2 ≠ 0xFFFF ∧ s.obj 0x2C00 3 ≠ 0xFFFF ∧ s.obj 0x2C00 3 ≠ 0xFFFE) →
              (run = true → t.out = [.radioListen t.radio.channel] ∧ t.radio.rx = activity)
              ∧ (run = false → t.out = [] ∧ t.radio.rx = false)))
    -- a reception ends
    ∧ (s.radio.rx = true → s.radio.crossed = false → s.radio.beaconWaits = [] →
        exec (.radioRxIdleTimeout now) s
          = .next { s with out := [], events := [], now := now, radio := { s.radio with rx := false } })
    ∧ (s.radio.rx = true → s.radio.crossed = true → s.radio.beaconWaits = [] →
        ∃ t, exec (.radioRxIdleTimeout now) s = .next t
          ∧ t = { s with out := [], events := [], now := now, radio := { s.radio with
                    region := s.obj 0x2C00 1, panId := s.obj 0x2C00 2, address := s.obj 0x2C00 3, interval := s.obj 0x2C00 5,
                    slot := t.radio.slot, channel := t.radio.channel, crossed := false, rx := false } })
    ∧ (s.radio.rx = false → exec (.radioRxIdleTimeout now) s = .next { s with out := [], events := [], now := now })
    -- an acknowledgement: 3 ms, started only within the limit of its region
    ∧ (s.radio.ackDue = none → exec (.radioAckSend now) s = .next { s with out := [], events := [], now := now })
    ∧ (∀ c, s.radio.ackDue = some c → s.radio.region = 1 →
        ∃ t, exec (.radioAckSend now) s = .next t
          ∧ (∀ used, used = (s.radio.record.map (fun (e : Nat × Nat × Nat) =>
                if e.2.1 = 256 + c then min e.2.2 (e.1 - (now / 1000000 + 3 - 20000)) else 0)).sum →
              (used + 3 ≤ 400 →
                t = { s with out := [.radioAck c], events := [], now := now,
                             radio := { s.radio with ackDue := none, record := t.radio.record } }
                ∧ t.radio.record = (now / 1000000 + 3, 256 + c, 3)
                    :: s.radio.record.filter (fun e => decide (now / 1000000 < e.1 + 3602000)))
              ∧ (400 < used + 3 →
                t.radio.record = s.radio.record ∧ t.radio.ackDue = none ∧ t.radio.refused = true
                ∧ t.radio.refusals = satAdd 32 s.radio.refusals 1 ∧ Output.radioAck c ∉ t.out
                ∧ (s.live = true → (∀ l, s.radio.refusedLog = some l → l + 1000000000 ≤ now) →
                    t.log = s.log.add { code := 0xB001, source := 0x1E0, detail := c * 2 ^ 16 + 3,
                                        count := s.logCount })
                ∧ (∀ l, s.radio.refusedLog = some l → now < l + 1000000000 → t.log = s.log))))
    -- a beacon waits for a reception, is not sent with a spent counter, and otherwise goes out on the slot's channel
    ∧ (s.radio.beaconDue = [] → exec (.statusBeaconSend now) s = .next { s with out := [], events := [], now := now })
    ∧ (∀ rssi : Byte, s.radio.beaconDue = [rssi] → s.radio.rx = true →
        exec (.statusBeaconSend now) s = .next { s with
          out := [], events := [], now := now,
          radio := { s.radio with beaconDue := [], beaconWaits := s.radio.beaconWaits ++ [(4, rssi)] } })
    ∧ (∀ rssi : Byte, s.radio.beaconDue = [rssi] → s.radio.rx = false → s.radio.counter = 0xFFFFFFFF →
        exec (.statusBeaconSend now) s = .next { s with
          out := [], events := [], now := now,
          radio := { s.radio with beaconDue := [] } })
    ∧ (∀ rssi : Byte, s.radio.beaconDue = [rssi] → s.radio.rx = false → s.radio.counter ≠ 0xFFFFFFFF →
        s.radio.running = true → s.radio.record = [] →
        ∃ t, exec (.statusBeaconSend now) s = .next t
          ∧ t = { s with out := t.out, events := [], now := now, fresh := s.fresh + 1,
                         radio := { s.radio with beaconDue := [], counter := s.radio.counter + 1,
                                                 record := [(now / 1000000 + 9, s.radio.region * 256 + s.radio.channel, 9)] } }
          ∧ (∀ c : Calendar, c = ({ s with now := now } : State).calendarNow →
              t.out = [.radioBeacon s.radio.channel 4 (Config.aesCcm (s.radio.key.getD 0) s.radio.counter
                (s.beaconHeader (Config.freeValue s.fresh).toNat)
                (4 :: toLE 8 c.pack ++ toLE 4 s.chrysalisStatus ++ toLE 2 s.island.storeMv ++ [rssi]))]))
    -- the fault beacon of WAKE_FAILED
    ∧ (s.island.state = .wakeFailed → s.obj 0x2C00 7 = 1 → s.radio.rx = false → s.radio.counter ≠ 0xFFFFFFFF →
        s.radio.running = true → s.radio.record = [] →
        ∃ t, exec (.faultBeaconTimer now) s = .next t
          ∧ t = { s with out := t.out, events := [], now := now, fresh := s.fresh + 1,
                         radio := { s.radio with counter := s.radio.counter + 1,
                                                 record := [(now / 1000000 + 10, s.radio.region * 256 + s.radio.channel, 10)] } }
          ∧ (∀ c : Calendar, c = ({ s with now := now } : State).calendarNow →
              t.out = [.radioBeacon s.radio.channel 5 (Config.aesCcm (s.radio.key.getD 0) s.radio.counter
                (s.beaconHeader (Config.freeValue s.fresh).toNat)
                (5 :: toLE 8 (octets (s.obj 0x2B20 0) 0x28 8) ++ toLE 8 c.pack ++ toLE 4 s.chrysalisStatus))]))
    ∧ (s.island.state ≠ .wakeFailed ∨ s.obj 0x2C00 7 = 0 →
        exec (.faultBeaconTimer now) s = .next { s with out := [], events := [], now := now })

/-- R422, R423, R427, R308, R402 with Table RADIO-4: which frames are accepted, and what requests, a key and a status read do. -/
def Obligations.RadioRequestsActAndKeysReset : Prop :=
  ∀ s : State,
    -- a frame that fails a check is dropped silently
    (∀ (f : RadioFrame) (now : Nat), s.island.supplied = true →
        f.fcsOk = false ∨ f.isData = false ∨ f.version1 = false ∨ f.panId.toNat ≠ s.radio.panId ∨ f.secLevel ≠ 6 ∨ f.keyMode ≠ 0
          ∨ (∃ c, replayOf f.source s.radio.replay = some c ∧ f.counter ≤ c) ∨ f.micOk = false
          ∨ leNat ((f.payload.drop 1).take 4) + 60 < ({ s with now := now } : State).calendarNow.totalSeconds
          ∨ ({ s with now := now } : State).calendarNow.totalSeconds + 60 < leNat ((f.payload.drop 1).take 4)
          ∨ (f.payload.head? = some 1 ∧ f.payload.length ≠ 5) ∨ s.radio.rx = false →
        exec (.radioFrameReceived f now) s = .next { s with out := [], events := [], now := now })
    -- an accepted halt request: the replay table, the acknowledgement, bit [2], the log entry, and nothing else
    ∧ (∀ (f : RadioFrame) (now : Nat), s.island.supplied = true → s.radio.rx = true → s.radio.running = true →
        f.fcsOk = true → f.isData = true → f.version1 = true → f.panCompressed = true → f.panId.toNat = s.radio.panId →
        f.dest.toNat = s.radio.address ∨ (f.dest = 0xFFFF ∧ f.ackReq = false) → f.secLevel = 6 → f.keyMode = 0 →
        (∀ c, replayOf f.source s.radio.replay = some c → c < f.counter) → f.micOk = true →
        f.payload.head? = some 2 → f.payload.length = 6 →
        leNat ((f.payload.drop 1).take 4) ≤ ({ s with now := now } : State).calendarNow.totalSeconds + 60 →
        ({ s with now := now } : State).calendarNow.totalSeconds ≤ leNat ((f.payload.drop 1).take 4) + 60 →
        ∃ t, exec (.radioFrameReceived f now) s = .next t
          ∧ t = { s with out := t.out, events := [], now := now, log := t.log, radio := { s.radio with
                    halt := true, ackDue := if f.ackReq then some s.radio.channel else s.radio.ackDue,
                    replay := ((f.source, f.counter) :: s.radio.replay.filter (fun e => decide (e.1 ≠ f.source))).take 8 } }
          ∧ (s.live = true → t.log = s.log.add
                { code := 0xB002, source := 0x1E0, count := s.logCount, detail := f.source.toNat % 65536 * 65536 + f.rssi.toNat * 256 + 2 })
          ∧ (s.live = false → t.log = s.log))
    -- the accepted requests by themselves
    ∧ (∀ (src : U64) (rssi : Byte), s.island.supplied = true → s.radio.running = true →
        ∃ t, exec (.radioHaltRequest src rssi) s = .next t
          ∧ t = { s with out := t.out, events := [], log := t.log, radio := { s.radio with halt := true } }
          ∧ (s.live = true → t.log = s.log.add
                { code := 0xB002, source := 0x1E0, count := s.logCount, detail := src.toNat % 65536 * 65536 + rssi.toNat * 256 + 2 }))
    ∧ (∀ (src : U64) (rssi : Byte) (ack : Bool), s.island.supplied = true → s.radio.running = true →
        ∃ t, exec (.radioLocate src rssi ack) s = .next t
          ∧ t = { s with out := t.out, events := [], log := t.log, radio := { s.radio with
                    beaconDue := s.radio.beaconDue ++ [rssi],
                    ackDue := if ack then some s.radio.channel else s.radio.ackDue } }
          ∧ (s.live = true → t.log = s.log.add
                { code := 0xB002, source := 0x1E0, count := s.logCount, detail := src.toNat % 65536 * 65536 + rssi.toNat * 256 + 3 }))
    ∧ (∀ (src : U64) (rssi : Byte) (now : Nat), s.island.supplied = true → s.radio.running = true →
        ∃ t, exec (.radioWakeRequest src rssi now) s = .next t
          ∧ t.radio = s.radio ∧ t.now = now ∧ t.tiles = s.tiles ∧ t.plan = s.plan ∧ t.bell = s.bell ∧ t.angle = s.angle
          ∧ (bitOf (s.obj 0x2B00 4) 1 = false → t.island = s.island)
          ∧ (bitOf (s.obj 0x2B00 4) 1 = true →
              t.island.pendingWakes = s.island.pendingWakes ||| 2#7
              ∧ (s.island.state = .chrysalis ∨ s.island.state = .wakeFailed →
                  t.island.state = .waking ∧ t.island.lastWake = 2 ∧ t.island.attempts = 1)
              ∧ (s.island.state = .poweringDown → t.island.state = .poweringDown ∧ t.island.heldWake.isSome = true)
              ∧ (s.island.state = .waking → t.island = { s.island with
                  pendingWakes := t.island.pendingWakes, lastWake := t.island.lastWake }
                ∧ (∀ w, s.island.wakeAt = some w →
                    t.island.lastWake = if now ≤ w + 30517 then min s.island.lastWake 2 else s.island.lastWake))
              ∧ (s.island.state = .mainOn → s.live = true →
                  t.island = { s.island with pendingWakes := t.island.pendingWakes }
                  -- two entries of one instant, in the order of their sources
                  ∧ t.log = (s.log.add { code := 0xA004, source := 0x1D3, detail := 0x10002, count := s.logCount }).add
                      { code := 0xB002, source := 0x1E0, count := s.logCount,
                        detail := src.toNat % 65536 * 65536 + rssi.toNat * 256 + 1 })))
    ∧ (∀ (src : U64) (rssi : Byte), s.radio.running = false →
        exec (.radioHaltRequest src rssi) s = .next { s with out := [], events := [] })
    -- a new key: counter 0, no replay entry; the records stay
    ∧ (∀ (p : Principal) (key : BitVec 128), s.live = true → s.warden p = true → s.island.locked = false →
        exec (.networkKeyWrite p key) s = .next { s.spendLatch p with
          out := [.odReply p 0], events := [],
          radio := { s.radio with key := some key, counter := 0, replay := [] } })
    ∧ (∀ (p : Principal) (key : BitVec 128), s.live = true → s.warden p = true → s.island.locked = true →
        exec (.networkKeyWrite p key) s = .next { (s.spendLatch p).noteAbort p 0x2C00 6 0x08000022 with
          out := [.odReply p 0x08000022], events := [] })
    ∧ (∀ (p : Principal) (key : BitVec 128), s.live = true → s.warden p = false →
        exec (.networkKeyWrite p key) s = .next { (s.spendLatch p).noteAbort p 0x2C00 6 0x06010000 with
          out := [.odReply p 0x06010000], events := [] })
    -- the status word, whose read clears [2]
    ∧ (∀ p : Principal, s.live = true → s.warden p = true →
        exec (.radioStatusRead p) s = .next { s.spendLatch p with
          events := [], radio := { s.radio with halt := false },
          out := [.odData p ((if s.radio.running then 1 else 0) + (if s.radio.halt then 4 else 0)
            + (if s.radio.refused then 8 else 0) + (if s.radio.counter = 0xFFFFFFFF then 16 else 0))] })

/-! ### Startup (20) -/

/-- R433 to R435, R437: the boot ROM's choice. Hash and signature verification are unconstrained functions (log 11), so their
answers stand in the conclusion. -/
def Obligations.BootRomSelectsAnImage : Prop :=
  ∀ s : State, s.boot.phase = .rom → s.boot.released = true →
    -- a silent flash rejects both images, and recovery begins
    (∃ t, exec (.bootRomStart true) s = .next t
      ∧ t = { s with out := [], events := [], island := { s.island with faultN := true }, boot := t.boot }
      ∧ t.boot.phase = .recovery
      ∧ t.boot.outcomes = s.boot.outcomes ++ [(0xC001, 0x1F8, 1), (0xC001, 0x1F9, 1)])
    -- the port resets the flash and reads its SFDP; the mode and the clock that it goes on in lie within R273's limits (log 185)
    ∧ (∃ t, exec (.bootRomStart false) s = .next t ∧ t.out.take 3 = [.flash 0x66 0, .flash 0x99 0, .flash 0x5A 0]
        ∧ t.boot.flashLines ∈ [1, 2, 4] ∧ 25 ≤ t.boot.flashMhz ∧ t.boot.flashMhz ≤ 100)
    -- neither image carries the magic: both rejected in the order that the descriptor gives
    ∧ (∀ d, d = s.flashRead 0 256 → u32 (s.flashRead 0x100000 64) 0 ≠ 0x4D444B4A → u32 (s.flashRead 0x1100000 64) 0 ≠ 0x4D444B4A →
        ∃ t, exec (.bootRomStart false) s = .next t
          ∧ t = { s with out := t.out, events := [], fresh := s.fresh + 1, island := { s.island with faultN := true }, boot := t.boot }
          ∧ t.boot.phase = .recovery
          ∧ (u32 d 0 = 0x44464B4A ∧ u16 d 4 = 1 ∧ u32 d 0xFC = crc32 (d.take 0xFC) →
              t.boot.autoload = bitOf (u8 d 7) 0 ∧ t.boot.deferRollback = bitOf (u8 d 7) 1
              ∧ t.boot.stagingOffset = u32 d 8 ∧ t.boot.planLength = u32 d 0xC
              ∧ t.boot.outcomes = s.boot.outcomes
                  ++ (if u8 d 6 = 1 then [(0xC001, 0x1F9, 1), (0xC001, 0x1F8, 1)] else [(0xC001, 0x1F8, 1), (0xC001, 0x1F9, 1)]))
          ∧ (u32 d 0 ≠ 0x44464B4A ∨ u16 d 4 ≠ 1 ∨ u32 d 0xFC ≠ crc32 (d.take 0xFC) →
              t.boot.autoload = false ∧ t.boot.deferRollback = false
              ∧ t.boot.outcomes = s.boot.outcomes ++ [(0xC001, 0x1F8, 1), (0xC001, 0x1F9, 1)]))
    -- image A preferred and whole, image B without its magic: the steps of R435
    ∧ (u32 (s.flashRead 0 256) 0 ≠ 0x44464B4A → u32 (s.flashRead 0x1100000 64) 0 ≠ 0x4D444B4A →
        ∀ h, h = s.flashRead 0x100000 64 → u32 h 0 = 0x4D444B4A → u16 h 4 = 1 → u16 h 6 = 64 → u32 h 8 % 16 = 0 →
        208 ≤ u32 h 8 → u32 h 8 ≤ 2 ^ 24 → u32 h 0x14 = 0x2560 → u16 h 0x18 ≤ s.board.silicon.toNat →
        ∀ blk, blk = s.flashRead (0x100000 + (u32 h 8 - 144)) 144 → u32 blk 0 = 0x31474953 → u32 blk 8 = u32 h 8 - 144 →
        ∀ k, k = vget s.board.fwKeys (u8 blk 4) {} → u8 blk 4 < 4 →
        ∃ t, exec (.bootRomStart false) s = .next t
          ∧ t = { s with out := t.out, events := [], fresh := s.fresh + 1, boot := t.boot,
                         island := { s.island with faultN := t.island.faultN } }
          ∧ (t.boot.phase = .starting ∨ (t.boot.phase = .recovery ∧ t.island.faultN = true))
          ∧ (k.programmed = false ∨ k.revoked = true →
              t.boot.outcomes = s.boot.outcomes ++ [(0xC001, 0x1F8, 2), (0xC001, 0x1F9, 1)])
          ∧ (k.programmed = true → k.revoked = false →
              t.boot.outcomes = s.boot.outcomes
                ++ (if Config.sha256 ((blk.drop 0x10).take 64) ≠ k.digest then [(0xC001, 0x1F8, 3), (0xC001, 0x1F9, 1)]
                    else if u8 blk 5 ≠ 1 ∨ Config.ecdsaP256 ((blk.drop 0x10).take 64)
                        (Config.sha256 (s.flashRead 0x100000 (u32 h 8 - 144))) ((blk.drop 0x50).take 64) = false
                    then [(0xC001, 0x1F8, 4), (0xC001, 0x1F9, 1)]
                    else if u32 h 0x10 < s.board.rollback
                    then [(0xC002, 0x1F8, u32 h 0x10 % 256 * 256 + s.board.rollback), (0xC001, 0x1F9, 1)]
                    else []))
          ∧ (t.boot.phase = .starting → t.boot.image = 0 ∧ t.boot.dmfVersion.toNat = u32 h 0xC % 2 ^ 32
              ∧ t.boot.security = u32 h 0x10 ∧ t.boot.outcomes = s.boot.outcomes))

/-- R437 with Table BOOT-5: the commands of the recovery window. -/
def Obligations.RecoveryWindowCommands : Prop :=
  ∀ s : State,
    (s.boot.phase ≠ .recovery →
      ∀ c ∈ [Instr.recoveryErase, .recoveryProgramWord, .recoveryReadWord, .recoveryProgramKeySlot, .recoveryRevokeKeySlot,
        .recoveryRestart], exec c s = .next { s with out := [], events := [] })
    ∧ (s.boot.phase = .recovery → ∀ off, off = s.boot.recOffset.toNat →
      -- an offset that names no word of the device is refused (log 93)
      (off % 4 ≠ 0 ∨ s.board.flashBytes < off + 4 →
        ∀ c ∈ [Instr.recoveryErase, .recoveryProgramWord, .recoveryReadWord],
          exec c s = .next { s with out := [], events := [], boot := { s.boot with recStatus := 1 } })
      ∧ (off % 4 = 0 → off + 4 ≤ s.board.flashBytes →
        -- erase: the 64 KiB block reads 0xFF, every other byte stays
        (∃ t, exec .recoveryErase s = .next t
          ∧ t = { s with out := [.flash 0x06 0, .flash 0xDC off, .flash 0x05 0], events := [],
                         boot := { s.boot with recStatus := 0 }, board := { s.board with flash := t.board.flash } }
          ∧ (∀ a, t.flashRead a 1 = if a / 65536 = off / 65536 then [0xFF] else s.flashRead a 1))
        -- program: the word's four bytes, which a NOR flash can only clear (log 93)
        ∧ (∃ t, exec .recoveryProgramWord s = .next t
          ∧ t = { s with out := [.flash 0x06 0, .flash 0x12 off, .flash 0x05 0], events := [],
                         boot := { s.boot with recStatus := 0 }, board := { s.board with flash := t.board.flash } }
          ∧ (∀ k : Fin 4, t.flashRead (off + k) 1
              = [(assocGet (off + k) s.board.flash).getD 0xFF &&& BitVec.ofNat 8 (octet s.boot.recData.toNat k)])
          ∧ (∀ a, a < off ∨ off + 4 ≤ a → t.flashRead a 1 = s.flashRead a 1))
        -- read: the word goes to 0x8
        ∧ exec .recoveryReadWord s = .next { s with out := [.flash s.readOpcode off], events := [],
                                                    boot := { s.boot with recStatus := 0,
                                                                          recData := BitVec.ofNat 32 (leNat (s.flashRead off 4)) } })
      -- key slots
      ∧ (∀ k, k = off % 8 → k < 4 → (vget s.board.fwKeys k {}).programmed = true →
          exec .recoveryProgramKeySlot s = .next { s with out := [], events := [], boot := { s.boot with recStatus := 1 } })
      ∧ (∀ k, k = off % 8 → k < 4 → (vget s.board.fwKeys k {}).programmed = false →
          ∃ t, exec .recoveryProgramKeySlot s = .next t
            ∧ t = { s with out := [.flash s.readOpcode 0xFF000], events := [], boot := { s.boot with recStatus := 0 },
                           board := { s.board with fwKeys := t.board.fwKeys } }
            ∧ (∀ j : Fin 4, j.val ≠ k → vget t.board.fwKeys j {} = vget s.board.fwKeys j {})
            ∧ vget t.board.fwKeys k {} = { vget s.board.fwKeys k {} with
                programmed := true, digest := BitVec.ofNat 256 (beNat (s.flashRead 0xFF000 32)) })
      ∧ (∀ k, k = off % 8 → k < 4 →
          ∃ t, exec .recoveryRevokeKeySlot s = .next t
            ∧ t = { s with out := [], events := [], boot := { s.boot with recStatus := 0 },
                           board := { s.board with fwKeys := t.board.fwKeys } }
            ∧ (∀ j : Fin 4, j.val ≠ k → vget t.board.fwKeys j {} = vget s.board.fwKeys j {})
            ∧ vget t.board.fwKeys k {} = { vget s.board.fwKeys k {} with revoked := true })
      ∧ (∀ k, k = off % 8 → 4 ≤ k → ∀ c ∈ [Instr.recoveryProgramKeySlot, .recoveryRevokeKeySlot],
          ∃ t, exec c s = .next t ∧ t.board.fwKeys = s.board.fwKeys ∧ t.board.flash = s.board.flash ∧ t.island = s.island
            ∧ (∀ j : Fin 4, j.val ≠ k - 4 → vget t.board.planKeys j {} = vget s.board.planKeys j {}))
      -- restart: the selection of step 4 again on the port as it is, the earlier outcomes kept
      ∧ (∃ t u, exec .recoveryRestart s = .next t
          ∧ exec (.bootRomStart false) { s with boot := { s.boot with phase := .rom, released := true },
                                                island := { s.island with faultN := false } } = .next u
          ∧ t = { s with out := t.out, events := [], island := u.island,
                         boot := { u.boot with released := s.boot.released, flashLines := s.boot.flashLines,
                                               flashMhz := s.boot.flashMhz } }
          ∧ t.boot.outcomes.take s.boot.outcomes.length = s.boot.outcomes))

/-- R236, R281, R382, R417, R433, R438, R439, R443 with Table BOOT-8: the start of DMF and LP5X training. -/
def Obligations.DmfStartsAndTrainsMemory : Prop :=
  ∀ s : State,
    (∀ reads : StartReads, s.boot.phase ≠ .starting → exec (.dmfStart reads) s = .next { s with out := [], events := [] })
    -- the straps count as the first start after the cold reset read them (R236)
    ∧ (∀ reads : StartReads, s.boot.phase = .starting → ∀ straps, straps = s.boot.straps.getD reads.straps →
        ∃ t, exec (.dmfStart reads) s = .next t
          ∧ t.boot = { s.boot with phase := .dmf, outcomes := [], straps := some straps }
          ∧ t.role = (if straps = 1 then .bellwether else if straps = 2 then .member else .standalone)
          ∧ (straps = 0 ∨ straps = 3 → ∀ p : Fin 8, (t.port p).mode = .disabled)
          ∧ (straps = 1 ∨ straps = 2 → ∀ p : Fin 8, (t.port p).mode = .down)
          ∧ (t.drove.memberId = if straps = 2 then 0xFF else 0)
          -- the boot-up message is queued, and the node is pre-operational unless 0x2300:2D starts it
          ∧ t.field.nmt = (if s.obj 0x2300 0x2D = 1 then .operational else .preOperational)
          -- no record is logged twice
          ∧ octets (t.obj 0x2B20 0) 0x38 8 = 2 ^ 64 - 1 ∧ octet (t.obj 0x2B20 0) 0x2B = 0
          ∧ t.island.pendingWakes = 0 ∧ t.radio.refusalsDown = s.radio.refusals ∧ t.radio.refusals = s.radio.refusals
          ∧ t.mem = s.mem ∧ t.plan.plan = s.plan.plan ∧ t.mandible = s.mandible
          -- that start quarantines the tiles whose self-test failed (log 169), and no other
          ∧ (s.boot.straps.isSome = true ∨ reads.failed = [] → t.tiles = s.tiles)
          ∧ (∀ k : TileNo, s.boot.straps = none → k ∈ reads.failed → (s.tile k).mode = .gatedOff → (t.tile k).mode = .quarantined)
          ∧ (∀ k : TileNo, k ∉ reads.failed ∨ (s.tile k).mode ≠ .gatedOff → t.tile k = s.tile k)
          -- WAKE_SOURCE is always logged: alone when nothing else is due, after the shutdown record otherwise
          ∧ (octets (s.obj 0x2B20 0) 0x38 8 = 2 ^ 64 - 1 → octet (s.obj 0x2B20 0) 0x2B = 0 → s.field.wakeAfterPnr = none →
              s.island.crystalFaultLog = false → s.island.cutoffLatch = false → s.island.lowWarningLog = false →
              s.radio.refusals = s.radio.refusalsDown → s.boot.outcomes = [] → reads.failed = [] → straps ≠ 3 → s.bell.state = .stopped →
              t.log = s.log.add { code := 0xA004, source := 0x1D3, count := 0xFFFFFFFFFFFFFFFF,
                                  detail := (s.island.pendingWakes.toNat &&& (127 - wakeMask s.island.lastWake)) * 2 ^ 24
                                    + s.island.attempts * 256 + s.island.lastWake })
          ∧ (octets (s.obj 0x2B20 0) 0x38 8 ≠ 2 ^ 64 - 1 → octet (s.obj 0x2B20 0) 0x30 = 6 → octet (s.obj 0x2B20 0) 0x2B = 0 →
              s.field.wakeAfterPnr = none → s.island.crystalFaultLog = false → s.island.cutoffLatch = false →
              s.island.lowWarningLog = false → s.radio.refusals = s.radio.refusalsDown → s.boot.outcomes = [] → reads.failed = [] → straps = 3 →
              t.log.sinceReset = s.log.sinceReset + 3
              ∧ t.log.last.code = 0xC001 ∧ t.log.last.source = 0x1F8 + (if s.boot.image = 1 then 1 else 0)
              ∧ t.log.last.detail = 0xFF))
    -- LP5X: trained whole, or without it after a second failure
    ∧ (s.live = true → s.boot.lp5xOk = false → s.boot.lp5xFailed = false → s.role = .member ∨ s.boot.autoload = false →
        s.role ≠ .bellwether →
        exec (.lp5xTrainingDone []) s = .next { s with out := [], events := [], boot := { s.boot with lp5xOk := true } }
        ∧ (∀ c : Fin 4, ∃ t, exec (.lp5xTrainingDone [c]) s = .next t
            ∧ t = { s with out := t.out, events := [], log := t.log, field := t.field,
                           boot := { s.boot with lp5xFailed := true } }
            ∧ t.log = s.log.add { code := 0x3006, source := 0x100 + c, detail := 2, count := s.logCount }))
    -- autoload writes the descriptor's staging offset and length; without LP5X the load is not performed
    ∧ (s.live = true → s.boot.lp5xOk = false → s.boot.lp5xFailed = false → s.role = .standalone → s.boot.autoload = true →
        ∀ c : Fin 4, ∃ t, exec (.lp5xTrainingDone [c]) s = .next t
          ∧ t.obj 0x2200 5 = s.boot.stagingOffset ∧ t.obj 0x2200 6 = s.boot.planLength ∧ t.plan = s.plan
          ∧ t.boot.lp5xFailed = true)
    -- a bellwether goes on to form the domain
    ∧ (s.live = true → s.boot.lp5xOk = false → s.boot.lp5xFailed = false → s.role = .bellwether →
        ∃ t, exec (.lp5xTrainingDone []) s = .next t ∧ t.boot.lp5xOk = true ∧ t.drove.domain = 1 ∧ t.drove.graph = [])
    ∧ (∀ failed : List (Fin 4), s.boot.lp5xOk = true ∨ s.boot.lp5xFailed = true →
        exec (.lp5xTrainingDone failed) s = .next { s with out := [], events := [] })
end

