-- ==== Sys2Proof/Laws/Run.lean ====
section
/-!
SUPPORT. What the frame of a command can do, said once: logging touches the log, the outputs and the field unit alone, and
leaves no event waiting.
-/
namespace Sys2Proof.Machine

theorem queueFrame_frame (s : State) (c : Nat) (f : TxFrame) :
    s.queueFrame c f = { s with field := { s.field with can := (s.queueFrame c f).field.can } } := rfl

theorem queueService_frame (s : State) (b : Nat) (f : TxFrame) :
    s.queueService b f = { s with field := { s.field with can := (s.queueService b f).field.can } } := by
  simp only [State.queueService]; split <;> split <;> rfl

theorem sendEmcy_frame (s : State) (d : List Byte) :
    s.sendEmcy d = { s with field := (s.sendEmcy d).field } := by
  rw [State.sendEmcy]; simp only []; rw [queueService_frame]

/-- Waiting EMCYs that go out touch the field unit alone. -/
theorem drainEmcy_frame (s : State) : s.drainEmcy = { s with field := s.drainEmcy.field } := by
  unfold State.drainEmcy
  generalize s.field.emcy = ds
  induction ds generalizing s with
  | nil => rfl
  | cons d ds ih =>
    rw [List.foldl_cons, ih]
    split
    · rfl
    · rw [sendEmcy_frame]

/-- An EMCY touches the field unit alone. -/
theorem emcy_frame (s : State) (code : Nat) (bit : Option Nat) (event detail : Nat) :
    s.emcy code bit event detail = { s with field := (s.emcy code bit event detail).field } := by
  cases bit <;> simp only [State.emcy] <;> split <;> try rfl
  all_goals split
  all_goals first
    | rfl
    | rw [drainEmcy_frame]

/-- An entry whose event Table FIELD-6 does not name is logged and raises the PF's vector 2, and that is all. -/
theorem writeEntry_plain (s : State) (e : LogEntry) (h : emcyOf e.code = none) :
    s.writeEntry e = { s with log := s.log.add e, out := s.out ++ [.msix 0 2] } := by
  simp [State.writeEntry, State.emit, h]

theorem writeEntry_frame (s : State) (e : LogEntry) :
    s.writeEntry e = { s with log := s.log.add e, out := s.out ++ [.msix 0 2], field := (s.writeEntry e).field } := by
  cases h : emcyOf e.code with
  | none => rw [writeEntry_plain s e h]
  | some p =>
    obtain ⟨c, b⟩ := p
    simp only [State.writeEntry, h]
    rw [emcy_frame]
    rfl

theorem writeEntries_frame (es : List LogEntry) (s : State) :
    es.foldl State.writeEntry s
      = { s with log := es.foldl EventLog.add s.log, out := s.out ++ es.map (fun _ => .msix 0 2),
                 field := (es.foldl State.writeEntry s).field } := by
  induction es generalizing s with
  | nil => simp
  | cons e es ih =>
    rw [List.foldl_cons, ih (s.writeEntry e), writeEntry_frame s e]
    simp

/-- Logging the events of a command touches the log, the outputs and the field unit, and leaves no event waiting. -/
theorem settle_frame (s : State) :
    s.settle = { s with events := [], log := (sortEntries s.events).foldl EventLog.add s.log,
                        out := s.out ++ (sortEntries s.events).map (fun _ => .msix 0 2), field := s.settle.field } := by
  rw [State.settle, writeEntries_frame]

theorem settle_none (s : State) (h : s.events = []) : s.settle = s := by
  cases s; simp_all [State.settle, sortEntries]

theorem settle_one (s : State) (e : LogEntry) (h : s.events = [e]) :
    s.settle = ({ s with events := [] } : State).writeEntry e := by
  simp [State.settle, sortEntries, insertEntry, h]

@[simp] theorem settle_events (s : State) : s.settle.events = [] := by rw [settle_frame]
@[simp] theorem settle_pending (s : State) : s.settle.pending = s.pending := by rw [settle_frame]
@[simp] theorem settle_now (s : State) : s.settle.now = s.now := by rw [settle_frame]
@[simp] theorem settle_fresh (s : State) : s.settle.fresh = s.fresh := by rw [settle_frame]
@[simp] theorem settle_board (s : State) : s.settle.board = s.board := by rw [settle_frame]
@[simp] theorem settle_boot (s : State) : s.settle.boot = s.boot := by rw [settle_frame]
@[simp] theorem settle_role (s : State) : s.settle.role = s.role := by rw [settle_frame]
@[simp] theorem settle_od (s : State) : s.settle.od = s.od := by rw [settle_frame]
@[simp] theorem settle_bell (s : State) : s.settle.bell = s.bell := by rw [settle_frame]
@[simp] theorem settle_plan (s : State) : s.settle.plan = s.plan := by rw [settle_frame]
@[simp] theorem settle_tiles (s : State) : s.settle.tiles = s.tiles := by rw [settle_frame]
@[simp] theorem settle_mesh (s : State) : s.settle.mesh = s.mesh := by rw [settle_frame]
@[simp] theorem settle_mem (s : State) : s.settle.mem = s.mem := by rw [settle_frame]
@[simp] theorem settle_parts (s : State) : s.settle.parts = s.parts := by rw [settle_frame]
@[simp] theorem settle_tallies (s : State) : s.settle.tallies = s.tallies := by rw [settle_frame]
@[simp] theorem settle_drove (s : State) : s.settle.drove = s.drove := by rw [settle_frame]
@[simp] theorem settle_host (s : State) : s.settle.host = s.host := by rw [settle_frame]
@[simp] theorem settle_mandible (s : State) : s.settle.mandible = s.mandible := by rw [settle_frame]
@[simp] theorem settle_angle (s : State) : s.settle.angle = s.angle := by rw [settle_frame]
@[simp] theorem settle_power (s : State) : s.settle.power = s.power := by rw [settle_frame]
@[simp] theorem settle_thermal (s : State) : s.settle.thermal = s.thermal := by rw [settle_frame]
@[simp] theorem settle_island (s : State) : s.settle.island = s.island := by rw [settle_frame]
@[simp] theorem settle_radio (s : State) : s.settle.radio = s.radio := by rw [settle_frame]
@[simp] theorem settle_log (s : State) : s.settle.log = (sortEntries s.events).foldl EventLog.add s.log := by rw [settle_frame]

/-- A command answers a next state, leaves the queue alone and no event waiting. -/
theorem run_next (f : State → State) (s : State) :
    run f s = .next { (f { s with out := [], events := [] }).settle with pending := s.pending } := rfl

theorem run_inv {f : State → State} {s t : State} (h : run f s = .next t) : t.pending = s.pending ∧ t.events = [] := by
  cases h; simp

theorem runLive_dead (f : State → State) (s : State) (h : s.live = false) :
    runLive f s = .next { s with out := [], events := [] } := by
  have : (({ s with out := [], events := [] } : State).live) = false := h
  simp [runLive, run, this, settle_none]

theorem runLive_live (f : State → State) (s : State) (h : s.live = true) : runLive f s = run f s := by
  have : (({ s with out := [], events := [] } : State).live) = true := h
  simp [runLive, run, this]

theorem raise_live (s : State) (code source detail : Nat) (h : s.live = true) :
    s.raise code source detail
      = { s with events := s.events ++ [{ code := code, source := source, detail := detail, count := s.logCount }] } := by
  simp [State.raise, h]

theorem raise_dead (s : State) (code source detail : Nat) (h : s.live = false) : s.raise code source detail = s := by
  simp [State.raise, h]

end Sys2Proof.Machine
end

