-- ==== Sys2Proof/Laws/Access.lean ====
section
/-!
SUPPORT. What a command that stands for a dictionary write or read can do, said once: the checks decide the answer, and the
effect happens only where both they and the command accept it.
-/
namespace Sys2Proof.Machine

/-- The checks refuse: the code is noted and answered, and nothing else happens. -/
theorem ownWrite_refused {p : Principal} {idx sub len v e : Nat} {act : State → Except Nat State} {s : State}
    (h : (s.spendLatch p).checkWrite p idx sub len v = .error e) :
    s.ownWrite p idx sub len v act = ((s.spendLatch p).noteAbort p idx sub e).emit (.odReply p (BitVec.ofNat 32 e)) := by
  simp [State.ownWrite, State.answer, h]

/-- The checks pass and the command refuses: as a refusal by the checks. -/
theorem ownWrite_declined {p : Principal} {idx sub len v e : Nat} {act : State → Except Nat State} {s : State} {x : OdRow × Nat}
    (h : (s.spendLatch p).checkWrite p idx sub len v = .ok x) (ha : act (s.spendLatch p) = .error e) :
    s.ownWrite p idx sub len v act = ((s.spendLatch p).noteAbort p idx sub e).emit (.odReply p (BitVec.ofNat 32 e)) := by
  simp [State.ownWrite, State.answer, h, ha]

/-- Both accept: the effect, and the answer 0. -/
theorem ownWrite_accepted {p : Principal} {idx sub len v : Nat} {act : State → Except Nat State} {s t : State} {x : OdRow × Nat}
    (h : (s.spendLatch p).checkWrite p idx sub len v = .ok x) (ha : act (s.spendLatch p) = .ok t) :
    s.ownWrite p idx sub len v act = t.emit (.odReply p 0) := by
  simp [State.ownWrite, State.answer, h, ha]

/-- A read that the checks allow answers the value before its effect. -/
theorem answerRead_ok {s : State} {p : Principal} {idx sub : Nat} {value : State → Nat} {after : State → State} {x : OdRow}
    (h : (s.spendLatch p).checkRead p idx sub = .ok x) :
    s.answerRead p idx sub value after = (after (s.spendLatch p)).emit (.odData p (value (s.spendLatch p))) := by
  simp [State.answerRead, h]

/-- Without a supply no command of the island does anything (R399). -/
theorem runIsland_unsupplied (f : State → State) (s : State) (h : s.island.supplied = false) :
    runIsland f s = .next { s with out := [], events := [] } := by
  simp [runIsland, run, h, settle_none]

theorem runIsland_supplied (f : State → State) (s : State) (h : s.island.supplied = true) : runIsland f s = run f s := by
  simp [runIsland, run, h]

end Sys2Proof.Machine
end

