-- ==== Sys2Proof/Laws/Memory.lean ====
section
/-!
SUPPORT. Every memory operation keeps the canonical form; a byte reads back as written and the others as before.
-/
namespace Sys2Proof.Machine

/-! ## Keyed lists -/

theorem rising_iff {α : Type} (l : List (Nat × α)) : rising l = true ↔ l.Pairwise (fun a b => a.1 < b.1) := by
  induction l with
  | nil => simp [rising]
  | cons x r ih =>
    obtain ⟨j, v⟩ := x
    cases r with
    | nil => simp [rising]
    | cons y r =>
      obtain ⟨k, w⟩ := y
      simp only [rising, Bool.and_eq_true, decide_eq_true_eq, ih, List.pairwise_cons]
      constructor
      · rintro ⟨hjk, hk, hr⟩
        refine ⟨?_, hk, hr⟩
        intro z hz
        rcases List.mem_cons.mp hz with rfl | hz
        · exact hjk
        · exact Nat.lt_trans hjk (hk z hz)
      · rintro ⟨hj, hk, hr⟩
        exact ⟨hj _ (List.mem_cons_self ..), hk, hr⟩

theorem mem_assocDel {α : Type} {k : Nat} {l : List (Nat × α)} {z : Nat × α} (h : z ∈ assocDel k l) : z ∈ l := by
  induction l with
  | nil => simp [assocDel] at h
  | cons x r ih =>
    obtain ⟨j, v⟩ := x
    simp only [assocDel] at h
    split at h
    · exact List.mem_cons_of_mem _ (ih h)
    · rcases List.mem_cons.mp h with rfl | h
      · exact List.mem_cons_self ..
      · exact List.mem_cons_of_mem _ (ih h)

theorem mem_assocPut {α : Type} {k : Nat} {v : α} {l : List (Nat × α)} {z : Nat × α} (h : z ∈ assocPut k v l) :
    z = (k, v) ∨ z ∈ l := by
  induction l with
  | nil => simpa [assocPut] using h
  | cons x r ih =>
    obtain ⟨j, w⟩ := x
    simp only [assocPut] at h
    split at h
    · exact List.mem_cons.mp h
    · split at h
      · rcases List.mem_cons.mp h with h | h
        · exact .inl h
        · exact .inr (List.mem_cons_of_mem _ h)
      · rcases List.mem_cons.mp h with rfl | h
        · exact .inr (List.mem_cons_self ..)
        · rcases ih h with h | h
          · exact .inl h
          · exact .inr (List.mem_cons_of_mem _ h)

theorem rising_assocDel {α : Type} (k : Nat) {l : List (Nat × α)} (h : rising l = true) : rising (assocDel k l) = true := by
  rw [rising_iff] at *
  induction l with
  | nil => simp [assocDel]
  | cons x r ih =>
    obtain ⟨j, w⟩ := x
    obtain ⟨hj, hr⟩ := List.pairwise_cons.mp h
    simp only [assocDel]
    split
    · exact ih hr
    · exact List.pairwise_cons.mpr ⟨fun z hz => hj z (mem_assocDel hz), ih hr⟩

theorem rising_assocPut {α : Type} (k : Nat) (v : α) {l : List (Nat × α)} (h : rising l = true) : rising (assocPut k v l) = true := by
  rw [rising_iff] at *
  induction l with
  | nil => simp [assocPut]
  | cons x r ih =>
    obtain ⟨j, w⟩ := x
    obtain ⟨hj, hr⟩ := List.pairwise_cons.mp h
    simp only [assocPut]
    split
    · rename_i hk
      refine List.pairwise_cons.mpr ⟨?_, h⟩
      intro z hz
      rcases List.mem_cons.mp hz with rfl | hz
      · exact hk
      · exact Nat.lt_trans hk (hj z hz)
    · split
      · rename_i hk
        subst hk
        exact List.pairwise_cons.mpr ⟨fun z hz => hj z hz, hr⟩
      · refine List.pairwise_cons.mpr ⟨?_, ih hr⟩
        intro z hz
        rcases mem_assocPut hz with rfl | hz
        · show j < k
          omega
        · exact hj z hz

theorem assocGet_put {α : Type} (k : Nat) (v : α) (l : List (Nat × α)) (a : Nat) :
    assocGet a (assocPut k v l) = if a = k then some v else assocGet a l := by
  induction l with
  | nil =>
    by_cases h : a = k
    · simp [assocPut, assocGet, h]
    · simp [assocPut, assocGet, h, Ne.symm h]
  | cons x r ih =>
    obtain ⟨j, w⟩ := x
    by_cases h : a = k
    · subst h
      by_cases h1 : a < j
      · simp [assocPut, assocGet, h1]
      · by_cases h2 : j = a
        · simp [assocPut, assocGet, h2]
        · simp [assocPut, assocGet, h1, h2, ih]
    · by_cases h1 : k < j
      · simp [assocPut, assocGet, h1, h, Ne.symm h]
      · by_cases h2 : j = k
        · subst h2
          simp [assocPut, assocGet, h, Ne.symm h]
        · simp [assocPut, assocGet, h1, h2, ih, h]

theorem assocGet_del {α : Type} (k : Nat) (l : List (Nat × α)) (a : Nat) :
    assocGet a (assocDel k l) = if a = k then none else assocGet a l := by
  induction l with
  | nil => simp [assocDel, assocGet]
  | cons x r ih =>
    obtain ⟨j, w⟩ := x
    simp only [assocDel]
    split
    · rename_i h; subst h
      rw [ih]
      split
      · rfl
      · rename_i h; simp only [assocGet, if_neg (fun e => h (Eq.symm e))]
    · rename_i hjk
      simp only [assocGet, ih]
      split
      · rename_i h; subst h; rw [if_neg hjk]
      · rfl

/-! ## Bytes and marks -/

/-- A written byte reads back; every other byte reads as before. -/
@[simp] theorem byte_setByte (d : Byte) (m : Memory) (a : Nat) (b : Byte) (x : Nat) :
    (m.setByte d a b).byte d x = if x = a then b else m.byte d x := by
  simp only [Memory.setByte, Memory.byte]
  split
  · rename_i h; rw [assocGet_del]; split <;> simp [h]
  · rw [assocGet_put]; split <;> simp

@[simp] theorem byte_setMark (d : Byte) (m : Memory) (w : Nat) (k : Option Mark) (x : Nat) :
    (m.setMark w k).byte d x = m.byte d x := rfl

@[simp] theorem mark_setByte (d : Byte) (m : Memory) (a : Nat) (b : Byte) (w : Nat) : (m.setByte d a b).mark w = m.mark w := rfl

@[simp] theorem mark_setMark (m : Memory) (w : Nat) (k : Option Mark) (x : Nat) :
    (m.setMark w k).mark x = if x = w then k else m.mark x := by
  cases k with
  | none => simp only [Memory.setMark, Memory.mark, assocGet_del]
  | some k => simp only [Memory.setMark, Memory.mark, assocGet_put]

@[simp] theorem mark_write (d : Byte) (bs : List Byte) : ∀ (m : Memory) (a w : Nat), (m.write d a bs).mark w = m.mark w := by
  induction bs with
  | nil => intros; rfl
  | cons b bs ih => intro m a w; simp only [Memory.write, ih, mark_setByte]

/-- Bytes outside those stored read as before, the stored ones as stored. -/
theorem byte_write (d : Byte) (bs : List Byte) : ∀ (m : Memory) (a x : Nat),
    (m.write d a bs).byte d x = if a ≤ x ∧ x < a + bs.length then bs.getD (x - a) 0 else m.byte d x := by
  induction bs with
  | nil => intro m a x; simp only [Memory.write, List.length_nil]; rw [if_neg (by omega)]
  | cons b bs ih =>
    intro m a x
    simp only [Memory.write, ih, byte_setByte, List.length_cons]
    by_cases hx : x = a
    · subst hx
      rw [if_neg (by omega), if_pos rfl, if_pos (by omega), Nat.sub_self]
      rfl
    · by_cases h : a + 1 ≤ x ∧ x < a + 1 + bs.length
      · rw [if_pos h, if_pos (by omega), show x - a = (x - (a + 1)) + 1 by omega]
        rfl
      · rw [if_neg h, if_neg hx, if_neg (by omega)]

/-! ## The canonical form is kept -/

theorem wf_empty (d : Byte) : ({} : Memory).wf d = true := by simp [Memory.wf, rising]

theorem wf_iff (d : Byte) (m : Memory) :
    m.wf d = true ↔ rising m.bytes = true ∧ (∀ c ∈ m.bytes, c.2 ≠ d) ∧ rising m.marks = true := by
  simp [Memory.wf, and_assoc]

theorem wf_setByte {d : Byte} {m : Memory} (a : Nat) (b : Byte) (h : m.wf d = true) : (m.setByte d a b).wf d = true := by
  rw [wf_iff] at *
  obtain ⟨h1, h2, h3⟩ := h
  simp only [Memory.setByte]
  refine ⟨?_, ?_, h3⟩
  · split
    · exact rising_assocDel a h1
    · exact rising_assocPut a b h1
  · split
    · exact fun c hc => h2 c (mem_assocDel hc)
    · rename_i hb
      intro c hc
      rcases mem_assocPut hc with rfl | hc
      · exact hb
      · exact h2 c hc

theorem wf_setMark {d : Byte} {m : Memory} (w : Nat) (k : Option Mark) (h : m.wf d = true) : (m.setMark w k).wf d = true := by
  rw [wf_iff] at *
  obtain ⟨h1, h2, h3⟩ := h
  refine ⟨h1, h2, ?_⟩
  cases k with
  | none => exact rising_assocDel w h3
  | some k => exact rising_assocPut w k h3

theorem wf_write {d : Byte} (bs : List Byte) : ∀ {m : Memory} (a : Nat), m.wf d = true → (m.write d a bs).wf d = true := by
  induction bs with
  | nil => intro m a h; exact h
  | cons b bs ih => intro m a h; exact ih _ (wf_setByte a b h)

theorem wf_poison {d : Byte} {m : Memory} (w : Nat) (h : m.wf d = true) : (m.poison d w).wf d = true :=
  wf_setMark w _ (wf_write _ _ h)

theorem wf_writeWord {d : Byte} {m : Memory} (w : Nat) (x : FWord) (h : m.wf d = true) : (m.writeWord d w x).wf d = true := by
  simp only [Memory.writeWord]
  split
  · exact wf_poison w h
  · exact wf_setMark w _ (wf_write _ _ h)

theorem wf_writeWords {d : Byte} (xs : List FWord) : ∀ {m : Memory} (w : Nat), m.wf d = true → (m.writeWords d w xs).wf d = true := by
  induction xs with
  | nil => intro m w h; exact h
  | cons x xs ih => intro m w h; exact ih _ (wf_writeWord w x h)

theorem wf_patchWord {d : Byte} {m : Memory} (w lo : Nat) (bs : List Byte) (h : m.wf d = true) :
    (m.patchWord d w lo bs).wf d = true := by
  simp only [Memory.patchWord]
  split
  · exact wf_writeWord w _ h
  · split
    · exact h
    · exact wf_setMark w _ (wf_write _ _ h)

theorem wf_patch {d : Byte} (fuel : Nat) : ∀ {m : Memory} (a : Nat) (bs : List Byte), m.wf d = true →
    (Memory.patch d fuel m a bs).wf d = true := by
  induction fuel with
  | zero => intro m a bs h; simpa [Memory.patch] using h
  | succ n ih =>
    intro m a bs h
    cases bs with
    | nil => simpa [Memory.patch] using h
    | cons b bs => exact ih _ _ (wf_patchWord _ _ _ h)

theorem wf_foldl {α : Type} {d : Byte} {f : Memory → α → Memory} (hf : ∀ m x, m.wf d = true → (f m x).wf d = true) (l : List α) :
    ∀ {m : Memory}, m.wf d = true → (l.foldl f m).wf d = true := by
  induction l with
  | nil => intro m h; exact h
  | cons x l ih => intro m h; exact ih (hf m x h)

theorem wf_storeWord {m : Memory} (bs : List (Nat × Byte × Bool)) (w : Nat) (h : m.wf emptyByte = true) :
    (m.storeWord bs w).wf emptyByte = true := by
  simp only [Memory.storeWord]
  split
  · exact wf_poison w h
  · split
    · exact h
    · exact wf_setMark w _ (wf_foldl (fun m x h => wf_setByte _ _ h) _ h)

theorem wf_store {m : Memory} (ws : List ElemWrite) (h : m.wf emptyByte = true) : (m.store ws).wf emptyByte = true :=
  wf_foldl (fun _ _ h => wf_storeWord _ _ h) _ h

theorem wf_copyInto (src : Memory) (from_ : Nat) {dst : Memory} (to_ len : Nat) (h : dst.wf emptyByte = true) :
    (copyInto src from_ dst to_ len).wf emptyByte = true := by
  simp only [copyInto]
  split
  · refine wf_foldl (fun m k h => ?_) _ (wf_patch _ _ _ h)
    split
    · exact wf_poison _ h
    · exact h
  · exact wf_patch _ _ _ h

/-! ## The device's memories -/

theorem memoryOk_memory {s : State} (code : Nat) (h : s.MemoryOk) : (s.memory code).wf emptyByte = true := by
  obtain ⟨h1, h2, h3⟩ := h
  simp only [State.memory]
  split
  · rename_i hc
    simpa [vget, hc] using h3 ⟨code, hc⟩
  · split
    · exact h1
    · exact h2

/-- Replacing one memory by one in canonical form keeps all of them so. -/
theorem memoryOk_setMemory {s : State} (code : Nat) {m : Memory} (hm : m.wf emptyByte = true) (h : s.MemoryOk) :
    (s.setMemory code m).MemoryOk := by
  obtain ⟨h1, h2, h3⟩ := h
  simp only [State.setMemory]
  split
  · rename_i hc
    refine ⟨h1, h2, fun k => ?_⟩
    simp only [vmod, hc, dif_pos]
    show (((s.tiles.set code _ hc)[k.val]).sram).wf emptyByte = true
    rw [Vector.getElem_set]
    split
    · exact hm
    · exact h3 k
  · split
    · exact ⟨hm, h2, h3⟩
    · exact ⟨h1, hm, h3⟩

theorem memoryOk_onMemory {s : State} (code : Nat) {f : Memory → Memory} (hf : ∀ m, m.wf emptyByte = true → (f m).wf emptyByte = true)
    (h : s.MemoryOk) : (s.onMemory code f).MemoryOk :=
  memoryOk_setMemory code (hf _ (memoryOk_memory code h)) h

/-- Nothing but the three kinds of memory decides the form. -/
theorem memoryOk_of_same {s t : State} (ht : t.tiles = s.tiles) (h1 : t.mem.mailbox = s.mem.mailbox) (h2 : t.mem.lp5x = s.mem.lp5x)
    (h : s.MemoryOk) : t.MemoryOk := by
  obtain ⟨a, b, c⟩ := h
  exact ⟨h1 ▸ a, h2 ▸ b, ht ▸ c⟩

end Sys2Proof.Machine
end

