-- ==== Sys2Proof/Laws/State.lean ====
section
/-!
SUPPORT. What each named update of the state changes and what it leaves: one lemma per field per update, and how the keyed
lists and vectors answer after a change. No later proof unfolds a record update.
-/
namespace Sys2Proof.Machine

/-! ## Vectors and keyed lists -/

theorem vget_vmod_same {α : Type} {n : Nat} (v : Vector α n) (i : Nat) (f : α → α) (d : α) (h : i < n) :
    vget (vmod v i f) i d = f (vget v i d) := by
  simp [vget, vmod, h]

theorem vget_vmod_ne {α : Type} {n : Nat} (v : Vector α n) (i j : Nat) (f : α → α) (d : α) (h : i ≠ j) :
    vget (vmod v i f) j d = vget v j d := by
  unfold vget vmod
  split
  · simp [h]
  · rfl

theorem assocGet_put_same {α : Type} (k : Nat) (v : α) (l : List (Nat × α)) : assocGet k (assocPut k v l) = some v := by
  induction l with
  | nil => simp [assocPut, assocGet]
  | cons p l ih =>
    obtain ⟨j, w⟩ := p
    simp only [assocPut]
    split
    · simp [assocGet]
    · split
      · simp [assocGet]
      · rename_i h; simp [assocGet, h, ih]

theorem assocGet_put_ne {α : Type} (k j : Nat) (v : α) (l : List (Nat × α)) (h : k ≠ j) :
    assocGet j (assocPut k v l) = assocGet j l := by
  induction l with
  | nil => simp [assocPut, assocGet, h]
  | cons p l ih =>
    obtain ⟨i, w⟩ := p
    simp only [assocPut]
    split
    · simp [assocGet, h]
    · split
      · rename_i hi; simp [assocGet, h, hi]
      · simp only [assocGet, ih]

theorem assocGet_del_same {α : Type} (k : Nat) (l : List (Nat × α)) : assocGet k (assocDel k l) = none := by
  induction l with
  | nil => rfl
  | cons p l ih =>
    obtain ⟨i, w⟩ := p
    simp only [assocDel]
    split
    · exact ih
    · rename_i h; simp [assocGet, h, ih]

theorem assocGet_del_ne {α : Type} (k j : Nat) (l : List (Nat × α)) (h : k ≠ j) :
    assocGet j (assocDel k l) = assocGet j l := by
  induction l with
  | nil => rfl
  | cons p l ih =>
    obtain ⟨i, w⟩ := p
    simp only [assocDel]
    split
    · rename_i hi; simp [assocGet, ih, show i ≠ j by omega]
    · simp only [assocGet, ih]

/-! ## Updates, field by field -/

section
variable (s : State) (p : Principal) (f : Copy → Copy)
@[simp] theorem setCopy_pending : (s.setCopy p f).pending = s.pending := rfl
@[simp] theorem setCopy_out : (s.setCopy p f).out = s.out := rfl
@[simp] theorem setCopy_events : (s.setCopy p f).events = s.events := rfl
@[simp] theorem setCopy_now : (s.setCopy p f).now = s.now := rfl
@[simp] theorem setCopy_fresh : (s.setCopy p f).fresh = s.fresh := rfl
@[simp] theorem setCopy_board : (s.setCopy p f).board = s.board := rfl
@[simp] theorem setCopy_boot : (s.setCopy p f).boot = s.boot := rfl
@[simp] theorem setCopy_role : (s.setCopy p f).role = s.role := rfl
@[simp] theorem setCopy_od : (s.setCopy p f).od = s.od := rfl
@[simp] theorem setCopy_bell : (s.setCopy p f).bell = s.bell := rfl
@[simp] theorem setCopy_plan : (s.setCopy p f).plan = s.plan := rfl
@[simp] theorem setCopy_tiles : (s.setCopy p f).tiles = s.tiles := rfl
@[simp] theorem setCopy_mesh : (s.setCopy p f).mesh = s.mesh := rfl
@[simp] theorem setCopy_mem : (s.setCopy p f).mem = s.mem := rfl
@[simp] theorem setCopy_parts : (s.setCopy p f).parts = s.parts := rfl
@[simp] theorem setCopy_tallies : (s.setCopy p f).tallies = s.tallies := rfl
@[simp] theorem setCopy_drove : (s.setCopy p f).drove = s.drove := rfl
@[simp] theorem setCopy_host : (s.setCopy p f).host = { s.host with copies := vmod s.host.copies (copyIndex p) f } := rfl
@[simp] theorem setCopy_field : (s.setCopy p f).field = s.field := rfl
@[simp] theorem setCopy_mandible : (s.setCopy p f).mandible = s.mandible := rfl
@[simp] theorem setCopy_angle : (s.setCopy p f).angle = s.angle := rfl
@[simp] theorem setCopy_power : (s.setCopy p f).power = s.power := rfl
@[simp] theorem setCopy_thermal : (s.setCopy p f).thermal = s.thermal := rfl
@[simp] theorem setCopy_island : (s.setCopy p f).island = s.island := rfl
@[simp] theorem setCopy_radio : (s.setCopy p f).radio = s.radio := rfl
@[simp] theorem setCopy_log : (s.setCopy p f).log = s.log := rfl
@[simp] theorem setCopy_obj (idx sub : Nat) : (s.setCopy p f).obj idx sub = s.obj idx sub := rfl
@[simp] theorem setCopy_live : (s.setCopy p f).live = s.live := rfl
end

section
variable (s : State) (m : Nat) (f : Mailbox → Mailbox)
@[simp] theorem onMailbox_pending : (s.onMailbox m f).pending = s.pending := rfl
@[simp] theorem onMailbox_out : (s.onMailbox m f).out = s.out := rfl
@[simp] theorem onMailbox_events : (s.onMailbox m f).events = s.events := rfl
@[simp] theorem onMailbox_now : (s.onMailbox m f).now = s.now := rfl
@[simp] theorem onMailbox_fresh : (s.onMailbox m f).fresh = s.fresh := rfl
@[simp] theorem onMailbox_board : (s.onMailbox m f).board = s.board := rfl
@[simp] theorem onMailbox_boot : (s.onMailbox m f).boot = s.boot := rfl
@[simp] theorem onMailbox_role : (s.onMailbox m f).role = s.role := rfl
@[simp] theorem onMailbox_od : (s.onMailbox m f).od = s.od := rfl
@[simp] theorem onMailbox_bell : (s.onMailbox m f).bell = s.bell := rfl
@[simp] theorem onMailbox_plan : (s.onMailbox m f).plan = s.plan := rfl
@[simp] theorem onMailbox_tiles : (s.onMailbox m f).tiles = s.tiles := rfl
@[simp] theorem onMailbox_mesh : (s.onMailbox m f).mesh = s.mesh := rfl
@[simp] theorem onMailbox_mem : (s.onMailbox m f).mem = s.mem := rfl
@[simp] theorem onMailbox_parts : (s.onMailbox m f).parts = s.parts := rfl
@[simp] theorem onMailbox_tallies : (s.onMailbox m f).tallies = s.tallies := rfl
@[simp] theorem onMailbox_drove : (s.onMailbox m f).drove = s.drove := rfl
@[simp] theorem onMailbox_host : (s.onMailbox m f).host = { s.host with mailboxes := vmod s.host.mailboxes m f } := rfl
@[simp] theorem onMailbox_field : (s.onMailbox m f).field = s.field := rfl
@[simp] theorem onMailbox_mandible : (s.onMailbox m f).mandible = s.mandible := rfl
@[simp] theorem onMailbox_angle : (s.onMailbox m f).angle = s.angle := rfl
@[simp] theorem onMailbox_power : (s.onMailbox m f).power = s.power := rfl
@[simp] theorem onMailbox_thermal : (s.onMailbox m f).thermal = s.thermal := rfl
@[simp] theorem onMailbox_island : (s.onMailbox m f).island = s.island := rfl
@[simp] theorem onMailbox_radio : (s.onMailbox m f).radio = s.radio := rfl
@[simp] theorem onMailbox_log : (s.onMailbox m f).log = s.log := rfl
@[simp] theorem onMailbox_obj (idx sub : Nat) : (s.onMailbox m f).obj idx sub = s.obj idx sub := rfl
@[simp] theorem onMailbox_live : (s.onMailbox m f).live = s.live := rfl
end

section
variable (s : State) (c : Nat) (f : Camera → Camera)
@[simp] theorem onCamera_pending : (s.onCamera c f).pending = s.pending := rfl
@[simp] theorem onCamera_out : (s.onCamera c f).out = s.out := rfl
@[simp] theorem onCamera_events : (s.onCamera c f).events = s.events := rfl
@[simp] theorem onCamera_now : (s.onCamera c f).now = s.now := rfl
@[simp] theorem onCamera_fresh : (s.onCamera c f).fresh = s.fresh := rfl
@[simp] theorem onCamera_board : (s.onCamera c f).board = s.board := rfl
@[simp] theorem onCamera_boot : (s.onCamera c f).boot = s.boot := rfl
@[simp] theorem onCamera_role : (s.onCamera c f).role = s.role := rfl
@[simp] theorem onCamera_od : (s.onCamera c f).od = s.od := rfl
@[simp] theorem onCamera_bell : (s.onCamera c f).bell = s.bell := rfl
@[simp] theorem onCamera_plan : (s.onCamera c f).plan = s.plan := rfl
@[simp] theorem onCamera_tiles : (s.onCamera c f).tiles = s.tiles := rfl
@[simp] theorem onCamera_mesh : (s.onCamera c f).mesh = s.mesh := rfl
@[simp] theorem onCamera_mem : (s.onCamera c f).mem = s.mem := rfl
@[simp] theorem onCamera_parts : (s.onCamera c f).parts = s.parts := rfl
@[simp] theorem onCamera_tallies : (s.onCamera c f).tallies = s.tallies := rfl
@[simp] theorem onCamera_drove : (s.onCamera c f).drove = s.drove := rfl
@[simp] theorem onCamera_host : (s.onCamera c f).host = { s.host with cameras := vmod s.host.cameras c f } := rfl
@[simp] theorem onCamera_field : (s.onCamera c f).field = s.field := rfl
@[simp] theorem onCamera_mandible : (s.onCamera c f).mandible = s.mandible := rfl
@[simp] theorem onCamera_angle : (s.onCamera c f).angle = s.angle := rfl
@[simp] theorem onCamera_power : (s.onCamera c f).power = s.power := rfl
@[simp] theorem onCamera_thermal : (s.onCamera c f).thermal = s.thermal := rfl
@[simp] theorem onCamera_island : (s.onCamera c f).island = s.island := rfl
@[simp] theorem onCamera_radio : (s.onCamera c f).radio = s.radio := rfl
@[simp] theorem onCamera_log : (s.onCamera c f).log = s.log := rfl
@[simp] theorem onCamera_obj (idx sub : Nat) : (s.onCamera c f).obj idx sub = s.obj idx sub := rfl
@[simp] theorem onCamera_live : (s.onCamera c f).live = s.live := rfl
end

section
variable (s : State) (k : Nat) (f : TileState → TileState)
@[simp] theorem onTile_pending : (s.onTile k f).pending = s.pending := rfl
@[simp] theorem onTile_out : (s.onTile k f).out = s.out := rfl
@[simp] theorem onTile_events : (s.onTile k f).events = s.events := rfl
@[simp] theorem onTile_now : (s.onTile k f).now = s.now := rfl
@[simp] theorem onTile_fresh : (s.onTile k f).fresh = s.fresh := rfl
@[simp] theorem onTile_board : (s.onTile k f).board = s.board := rfl
@[simp] theorem onTile_boot : (s.onTile k f).boot = s.boot := rfl
@[simp] theorem onTile_role : (s.onTile k f).role = s.role := rfl
@[simp] theorem onTile_od : (s.onTile k f).od = s.od := rfl
@[simp] theorem onTile_bell : (s.onTile k f).bell = s.bell := rfl
@[simp] theorem onTile_plan : (s.onTile k f).plan = s.plan := rfl
@[simp] theorem onTile_tiles : (s.onTile k f).tiles = vmod s.tiles k f := rfl
@[simp] theorem onTile_mesh : (s.onTile k f).mesh = s.mesh := rfl
@[simp] theorem onTile_mem : (s.onTile k f).mem = s.mem := rfl
@[simp] theorem onTile_parts : (s.onTile k f).parts = s.parts := rfl
@[simp] theorem onTile_tallies : (s.onTile k f).tallies = s.tallies := rfl
@[simp] theorem onTile_drove : (s.onTile k f).drove = s.drove := rfl
@[simp] theorem onTile_host : (s.onTile k f).host = s.host := rfl
@[simp] theorem onTile_field : (s.onTile k f).field = s.field := rfl
@[simp] theorem onTile_mandible : (s.onTile k f).mandible = s.mandible := rfl
@[simp] theorem onTile_angle : (s.onTile k f).angle = s.angle := rfl
@[simp] theorem onTile_power : (s.onTile k f).power = s.power := rfl
@[simp] theorem onTile_thermal : (s.onTile k f).thermal = s.thermal := rfl
@[simp] theorem onTile_island : (s.onTile k f).island = s.island := rfl
@[simp] theorem onTile_radio : (s.onTile k f).radio = s.radio := rfl
@[simp] theorem onTile_log : (s.onTile k f).log = s.log := rfl
@[simp] theorem onTile_obj (idx sub : Nat) : (s.onTile k f).obj idx sub = s.obj idx sub := rfl
@[simp] theorem onTile_live : (s.onTile k f).live = s.live := rfl
end

section
variable (s : State) (p : Nat) (f : Port → Port)
@[simp] theorem onPort_pending : (s.onPort p f).pending = s.pending := rfl
@[simp] theorem onPort_out : (s.onPort p f).out = s.out := rfl
@[simp] theorem onPort_events : (s.onPort p f).events = s.events := rfl
@[simp] theorem onPort_now : (s.onPort p f).now = s.now := rfl
@[simp] theorem onPort_fresh : (s.onPort p f).fresh = s.fresh := rfl
@[simp] theorem onPort_board : (s.onPort p f).board = s.board := rfl
@[simp] theorem onPort_boot : (s.onPort p f).boot = s.boot := rfl
@[simp] theorem onPort_role : (s.onPort p f).role = s.role := rfl
@[simp] theorem onPort_od : (s.onPort p f).od = s.od := rfl
@[simp] theorem onPort_bell : (s.onPort p f).bell = s.bell := rfl
@[simp] theorem onPort_plan : (s.onPort p f).plan = s.plan := rfl
@[simp] theorem onPort_tiles : (s.onPort p f).tiles = s.tiles := rfl
@[simp] theorem onPort_mesh : (s.onPort p f).mesh = s.mesh := rfl
@[simp] theorem onPort_mem : (s.onPort p f).mem = s.mem := rfl
@[simp] theorem onPort_parts : (s.onPort p f).parts = s.parts := rfl
@[simp] theorem onPort_tallies : (s.onPort p f).tallies = s.tallies := rfl
@[simp] theorem onPort_drove : (s.onPort p f).drove = { s.drove with ports := vmod s.drove.ports p f } := rfl
@[simp] theorem onPort_host : (s.onPort p f).host = s.host := rfl
@[simp] theorem onPort_field : (s.onPort p f).field = s.field := rfl
@[simp] theorem onPort_mandible : (s.onPort p f).mandible = s.mandible := rfl
@[simp] theorem onPort_angle : (s.onPort p f).angle = s.angle := rfl
@[simp] theorem onPort_power : (s.onPort p f).power = s.power := rfl
@[simp] theorem onPort_thermal : (s.onPort p f).thermal = s.thermal := rfl
@[simp] theorem onPort_island : (s.onPort p f).island = s.island := rfl
@[simp] theorem onPort_radio : (s.onPort p f).radio = s.radio := rfl
@[simp] theorem onPort_log : (s.onPort p f).log = s.log := rfl
@[simp] theorem onPort_obj (idx sub : Nat) : (s.onPort p f).obj idx sub = s.obj idx sub := rfl
@[simp] theorem onPort_live : (s.onPort p f).live = s.live := rfl
end

section
variable (s : State) (c : Nat) (f : Controller → Controller)
@[simp] theorem onCan_pending : (s.onCan c f).pending = s.pending := rfl
@[simp] theorem onCan_out : (s.onCan c f).out = s.out := rfl
@[simp] theorem onCan_events : (s.onCan c f).events = s.events := rfl
@[simp] theorem onCan_now : (s.onCan c f).now = s.now := rfl
@[simp] theorem onCan_fresh : (s.onCan c f).fresh = s.fresh := rfl
@[simp] theorem onCan_board : (s.onCan c f).board = s.board := rfl
@[simp] theorem onCan_boot : (s.onCan c f).boot = s.boot := rfl
@[simp] theorem onCan_role : (s.onCan c f).role = s.role := rfl
@[simp] theorem onCan_od : (s.onCan c f).od = s.od := rfl
@[simp] theorem onCan_bell : (s.onCan c f).bell = s.bell := rfl
@[simp] theorem onCan_plan : (s.onCan c f).plan = s.plan := rfl
@[simp] theorem onCan_tiles : (s.onCan c f).tiles = s.tiles := rfl
@[simp] theorem onCan_mesh : (s.onCan c f).mesh = s.mesh := rfl
@[simp] theorem onCan_mem : (s.onCan c f).mem = s.mem := rfl
@[simp] theorem onCan_parts : (s.onCan c f).parts = s.parts := rfl
@[simp] theorem onCan_tallies : (s.onCan c f).tallies = s.tallies := rfl
@[simp] theorem onCan_drove : (s.onCan c f).drove = s.drove := rfl
@[simp] theorem onCan_host : (s.onCan c f).host = s.host := rfl
@[simp] theorem onCan_field : (s.onCan c f).field = { s.field with can := vmod s.field.can c f } := rfl
@[simp] theorem onCan_mandible : (s.onCan c f).mandible = s.mandible := rfl
@[simp] theorem onCan_angle : (s.onCan c f).angle = s.angle := rfl
@[simp] theorem onCan_power : (s.onCan c f).power = s.power := rfl
@[simp] theorem onCan_thermal : (s.onCan c f).thermal = s.thermal := rfl
@[simp] theorem onCan_island : (s.onCan c f).island = s.island := rfl
@[simp] theorem onCan_radio : (s.onCan c f).radio = s.radio := rfl
@[simp] theorem onCan_log : (s.onCan c f).log = s.log := rfl
@[simp] theorem onCan_obj (idx sub : Nat) : (s.onCan c f).obj idx sub = s.obj idx sub := rfl
@[simp] theorem onCan_live : (s.onCan c f).live = s.live := rfl
end

section
variable (s : State) (c : Nat) (f : TxFrame)
@[simp] theorem queueFrame_pending : (s.queueFrame c f).pending = s.pending := rfl
@[simp] theorem queueFrame_out : (s.queueFrame c f).out = s.out := rfl
@[simp] theorem queueFrame_events : (s.queueFrame c f).events = s.events := rfl
@[simp] theorem queueFrame_now : (s.queueFrame c f).now = s.now := rfl
@[simp] theorem queueFrame_fresh : (s.queueFrame c f).fresh = s.fresh := rfl
@[simp] theorem queueFrame_board : (s.queueFrame c f).board = s.board := rfl
@[simp] theorem queueFrame_boot : (s.queueFrame c f).boot = s.boot := rfl
@[simp] theorem queueFrame_role : (s.queueFrame c f).role = s.role := rfl
@[simp] theorem queueFrame_od : (s.queueFrame c f).od = s.od := rfl
@[simp] theorem queueFrame_bell : (s.queueFrame c f).bell = s.bell := rfl
@[simp] theorem queueFrame_plan : (s.queueFrame c f).plan = s.plan := rfl
@[simp] theorem queueFrame_tiles : (s.queueFrame c f).tiles = s.tiles := rfl
@[simp] theorem queueFrame_mesh : (s.queueFrame c f).mesh = s.mesh := rfl
@[simp] theorem queueFrame_mem : (s.queueFrame c f).mem = s.mem := rfl
@[simp] theorem queueFrame_parts : (s.queueFrame c f).parts = s.parts := rfl
@[simp] theorem queueFrame_tallies : (s.queueFrame c f).tallies = s.tallies := rfl
@[simp] theorem queueFrame_drove : (s.queueFrame c f).drove = s.drove := rfl
@[simp] theorem queueFrame_host : (s.queueFrame c f).host = s.host := rfl
@[simp] theorem queueFrame_field : (s.queueFrame c f).field = { s.field with can := vmod s.field.can c (·.add f) } := rfl
@[simp] theorem queueFrame_mandible : (s.queueFrame c f).mandible = s.mandible := rfl
@[simp] theorem queueFrame_angle : (s.queueFrame c f).angle = s.angle := rfl
@[simp] theorem queueFrame_power : (s.queueFrame c f).power = s.power := rfl
@[simp] theorem queueFrame_thermal : (s.queueFrame c f).thermal = s.thermal := rfl
@[simp] theorem queueFrame_island : (s.queueFrame c f).island = s.island := rfl
@[simp] theorem queueFrame_radio : (s.queueFrame c f).radio = s.radio := rfl
@[simp] theorem queueFrame_log : (s.queueFrame c f).log = s.log := rfl
@[simp] theorem queueFrame_obj (idx sub : Nat) : (s.queueFrame c f).obj idx sub = s.obj idx sub := rfl
@[simp] theorem queueFrame_live : (s.queueFrame c f).live = s.live := rfl
end

section
variable (s : State) (n : Nmt)
@[simp] theorem setNmt_pending : (s.setNmt n).pending = s.pending := rfl
@[simp] theorem setNmt_out : (s.setNmt n).out = s.out := rfl
@[simp] theorem setNmt_events : (s.setNmt n).events = s.events := rfl
@[simp] theorem setNmt_now : (s.setNmt n).now = s.now := rfl
@[simp] theorem setNmt_fresh : (s.setNmt n).fresh = s.fresh := rfl
@[simp] theorem setNmt_board : (s.setNmt n).board = s.board := rfl
@[simp] theorem setNmt_boot : (s.setNmt n).boot = s.boot := rfl
@[simp] theorem setNmt_role : (s.setNmt n).role = s.role := rfl
@[simp] theorem setNmt_od : (s.setNmt n).od = s.od := rfl
@[simp] theorem setNmt_bell : (s.setNmt n).bell = s.bell := rfl
@[simp] theorem setNmt_plan : (s.setNmt n).plan = s.plan := rfl
@[simp] theorem setNmt_tiles : (s.setNmt n).tiles = s.tiles := rfl
@[simp] theorem setNmt_mesh : (s.setNmt n).mesh = s.mesh := rfl
@[simp] theorem setNmt_mem : (s.setNmt n).mem = s.mem := rfl
@[simp] theorem setNmt_parts : (s.setNmt n).parts = s.parts := rfl
@[simp] theorem setNmt_tallies : (s.setNmt n).tallies = s.tallies := rfl
@[simp] theorem setNmt_drove : (s.setNmt n).drove = s.drove := rfl
@[simp] theorem setNmt_host : (s.setNmt n).host = s.host := rfl
@[simp] theorem setNmt_field : (s.setNmt n).field = { s.field with nmt := n } := rfl
@[simp] theorem setNmt_mandible : (s.setNmt n).mandible = s.mandible := rfl
@[simp] theorem setNmt_angle : (s.setNmt n).angle = s.angle := rfl
@[simp] theorem setNmt_power : (s.setNmt n).power = s.power := rfl
@[simp] theorem setNmt_thermal : (s.setNmt n).thermal = s.thermal := rfl
@[simp] theorem setNmt_island : (s.setNmt n).island = s.island := rfl
@[simp] theorem setNmt_radio : (s.setNmt n).radio = s.radio := rfl
@[simp] theorem setNmt_log : (s.setNmt n).log = s.log := rfl
@[simp] theorem setNmt_obj (idx sub : Nat) : (s.setNmt n).obj idx sub = s.obj idx sub := rfl
@[simp] theorem setNmt_live : (s.setNmt n).live = s.live := rfl
end

section
variable (s : State) (n : Nat) (f : Rpdo → Rpdo)
@[simp] theorem onRpdo_pending : (s.onRpdo n f).pending = s.pending := rfl
@[simp] theorem onRpdo_out : (s.onRpdo n f).out = s.out := rfl
@[simp] theorem onRpdo_events : (s.onRpdo n f).events = s.events := rfl
@[simp] theorem onRpdo_now : (s.onRpdo n f).now = s.now := rfl
@[simp] theorem onRpdo_fresh : (s.onRpdo n f).fresh = s.fresh := rfl
@[simp] theorem onRpdo_board : (s.onRpdo n f).board = s.board := rfl
@[simp] theorem onRpdo_boot : (s.onRpdo n f).boot = s.boot := rfl
@[simp] theorem onRpdo_role : (s.onRpdo n f).role = s.role := rfl
@[simp] theorem onRpdo_od : (s.onRpdo n f).od = s.od := rfl
@[simp] theorem onRpdo_bell : (s.onRpdo n f).bell = s.bell := rfl
@[simp] theorem onRpdo_plan : (s.onRpdo n f).plan = s.plan := rfl
@[simp] theorem onRpdo_tiles : (s.onRpdo n f).tiles = s.tiles := rfl
@[simp] theorem onRpdo_mesh : (s.onRpdo n f).mesh = s.mesh := rfl
@[simp] theorem onRpdo_mem : (s.onRpdo n f).mem = s.mem := rfl
@[simp] theorem onRpdo_parts : (s.onRpdo n f).parts = s.parts := rfl
@[simp] theorem onRpdo_tallies : (s.onRpdo n f).tallies = s.tallies := rfl
@[simp] theorem onRpdo_drove : (s.onRpdo n f).drove = s.drove := rfl
@[simp] theorem onRpdo_host : (s.onRpdo n f).host = s.host := rfl
@[simp] theorem onRpdo_field : (s.onRpdo n f).field = { s.field with rpdos := vmod s.field.rpdos n f } := rfl
@[simp] theorem onRpdo_mandible : (s.onRpdo n f).mandible = s.mandible := rfl
@[simp] theorem onRpdo_angle : (s.onRpdo n f).angle = s.angle := rfl
@[simp] theorem onRpdo_power : (s.onRpdo n f).power = s.power := rfl
@[simp] theorem onRpdo_thermal : (s.onRpdo n f).thermal = s.thermal := rfl
@[simp] theorem onRpdo_island : (s.onRpdo n f).island = s.island := rfl
@[simp] theorem onRpdo_radio : (s.onRpdo n f).radio = s.radio := rfl
@[simp] theorem onRpdo_log : (s.onRpdo n f).log = s.log := rfl
@[simp] theorem onRpdo_obj (idx sub : Nat) : (s.onRpdo n f).obj idx sub = s.obj idx sub := rfl
@[simp] theorem onRpdo_live : (s.onRpdo n f).live = s.live := rfl
end

section
variable (s : State) (n : Nat) (f : Tpdo → Tpdo)
@[simp] theorem onTpdo_pending : (s.onTpdo n f).pending = s.pending := rfl
@[simp] theorem onTpdo_out : (s.onTpdo n f).out = s.out := rfl
@[simp] theorem onTpdo_events : (s.onTpdo n f).events = s.events := rfl
@[simp] theorem onTpdo_now : (s.onTpdo n f).now = s.now := rfl
@[simp] theorem onTpdo_fresh : (s.onTpdo n f).fresh = s.fresh := rfl
@[simp] theorem onTpdo_board : (s.onTpdo n f).board = s.board := rfl
@[simp] theorem onTpdo_boot : (s.onTpdo n f).boot = s.boot := rfl
@[simp] theorem onTpdo_role : (s.onTpdo n f).role = s.role := rfl
@[simp] theorem onTpdo_od : (s.onTpdo n f).od = s.od := rfl
@[simp] theorem onTpdo_bell : (s.onTpdo n f).bell = s.bell := rfl
@[simp] theorem onTpdo_plan : (s.onTpdo n f).plan = s.plan := rfl
@[simp] theorem onTpdo_tiles : (s.onTpdo n f).tiles = s.tiles := rfl
@[simp] theorem onTpdo_mesh : (s.onTpdo n f).mesh = s.mesh := rfl
@[simp] theorem onTpdo_mem : (s.onTpdo n f).mem = s.mem := rfl
@[simp] theorem onTpdo_parts : (s.onTpdo n f).parts = s.parts := rfl
@[simp] theorem onTpdo_tallies : (s.onTpdo n f).tallies = s.tallies := rfl
@[simp] theorem onTpdo_drove : (s.onTpdo n f).drove = s.drove := rfl
@[simp] theorem onTpdo_host : (s.onTpdo n f).host = s.host := rfl
@[simp] theorem onTpdo_field : (s.onTpdo n f).field = { s.field with tpdos := vmod s.field.tpdos n f } := rfl
@[simp] theorem onTpdo_mandible : (s.onTpdo n f).mandible = s.mandible := rfl
@[simp] theorem onTpdo_angle : (s.onTpdo n f).angle = s.angle := rfl
@[simp] theorem onTpdo_power : (s.onTpdo n f).power = s.power := rfl
@[simp] theorem onTpdo_thermal : (s.onTpdo n f).thermal = s.thermal := rfl
@[simp] theorem onTpdo_island : (s.onTpdo n f).island = s.island := rfl
@[simp] theorem onTpdo_radio : (s.onTpdo n f).radio = s.radio := rfl
@[simp] theorem onTpdo_log : (s.onTpdo n f).log = s.log := rfl
@[simp] theorem onTpdo_obj (idx sub : Nat) : (s.onTpdo n f).obj idx sub = s.obj idx sub := rfl
@[simp] theorem onTpdo_live : (s.onTpdo n f).live = s.live := rfl
end

section
variable (s : State) (f : Boot → Boot)
@[simp] theorem onBoot_pending : (s.onBoot f).pending = s.pending := rfl
@[simp] theorem onBoot_out : (s.onBoot f).out = s.out := rfl
@[simp] theorem onBoot_events : (s.onBoot f).events = s.events := rfl
@[simp] theorem onBoot_now : (s.onBoot f).now = s.now := rfl
@[simp] theorem onBoot_fresh : (s.onBoot f).fresh = s.fresh := rfl
@[simp] theorem onBoot_board : (s.onBoot f).board = s.board := rfl
@[simp] theorem onBoot_boot : (s.onBoot f).boot = f s.boot := rfl
@[simp] theorem onBoot_role : (s.onBoot f).role = s.role := rfl
@[simp] theorem onBoot_od : (s.onBoot f).od = s.od := rfl
@[simp] theorem onBoot_bell : (s.onBoot f).bell = s.bell := rfl
@[simp] theorem onBoot_plan : (s.onBoot f).plan = s.plan := rfl
@[simp] theorem onBoot_tiles : (s.onBoot f).tiles = s.tiles := rfl
@[simp] theorem onBoot_mesh : (s.onBoot f).mesh = s.mesh := rfl
@[simp] theorem onBoot_mem : (s.onBoot f).mem = s.mem := rfl
@[simp] theorem onBoot_parts : (s.onBoot f).parts = s.parts := rfl
@[simp] theorem onBoot_tallies : (s.onBoot f).tallies = s.tallies := rfl
@[simp] theorem onBoot_drove : (s.onBoot f).drove = s.drove := rfl
@[simp] theorem onBoot_host : (s.onBoot f).host = s.host := rfl
@[simp] theorem onBoot_field : (s.onBoot f).field = s.field := rfl
@[simp] theorem onBoot_mandible : (s.onBoot f).mandible = s.mandible := rfl
@[simp] theorem onBoot_angle : (s.onBoot f).angle = s.angle := rfl
@[simp] theorem onBoot_power : (s.onBoot f).power = s.power := rfl
@[simp] theorem onBoot_thermal : (s.onBoot f).thermal = s.thermal := rfl
@[simp] theorem onBoot_island : (s.onBoot f).island = s.island := rfl
@[simp] theorem onBoot_radio : (s.onBoot f).radio = s.radio := rfl
@[simp] theorem onBoot_log : (s.onBoot f).log = s.log := rfl
@[simp] theorem onBoot_obj (idx sub : Nat) : (s.onBoot f).obj idx sub = s.obj idx sub := rfl
end

section
variable (s : State) (f : List Host.Cell → List Host.Cell)
@[simp] theorem onFlash_pending : (s.onFlash f).pending = s.pending := rfl
@[simp] theorem onFlash_out : (s.onFlash f).out = s.out := rfl
@[simp] theorem onFlash_events : (s.onFlash f).events = s.events := rfl
@[simp] theorem onFlash_now : (s.onFlash f).now = s.now := rfl
@[simp] theorem onFlash_fresh : (s.onFlash f).fresh = s.fresh := rfl
@[simp] theorem onFlash_board : (s.onFlash f).board = { s.board with flash := f s.board.flash } := rfl
@[simp] theorem onFlash_boot : (s.onFlash f).boot = s.boot := rfl
@[simp] theorem onFlash_role : (s.onFlash f).role = s.role := rfl
@[simp] theorem onFlash_od : (s.onFlash f).od = s.od := rfl
@[simp] theorem onFlash_bell : (s.onFlash f).bell = s.bell := rfl
@[simp] theorem onFlash_plan : (s.onFlash f).plan = s.plan := rfl
@[simp] theorem onFlash_tiles : (s.onFlash f).tiles = s.tiles := rfl
@[simp] theorem onFlash_mesh : (s.onFlash f).mesh = s.mesh := rfl
@[simp] theorem onFlash_mem : (s.onFlash f).mem = s.mem := rfl
@[simp] theorem onFlash_parts : (s.onFlash f).parts = s.parts := rfl
@[simp] theorem onFlash_tallies : (s.onFlash f).tallies = s.tallies := rfl
@[simp] theorem onFlash_drove : (s.onFlash f).drove = s.drove := rfl
@[simp] theorem onFlash_host : (s.onFlash f).host = s.host := rfl
@[simp] theorem onFlash_field : (s.onFlash f).field = s.field := rfl
@[simp] theorem onFlash_mandible : (s.onFlash f).mandible = s.mandible := rfl
@[simp] theorem onFlash_angle : (s.onFlash f).angle = s.angle := rfl
@[simp] theorem onFlash_power : (s.onFlash f).power = s.power := rfl
@[simp] theorem onFlash_thermal : (s.onFlash f).thermal = s.thermal := rfl
@[simp] theorem onFlash_island : (s.onFlash f).island = s.island := rfl
@[simp] theorem onFlash_radio : (s.onFlash f).radio = s.radio := rfl
@[simp] theorem onFlash_log : (s.onFlash f).log = s.log := rfl
@[simp] theorem onFlash_obj (idx sub : Nat) : (s.onFlash f).obj idx sub = s.obj idx sub := rfl
@[simp] theorem onFlash_live : (s.onFlash f).live = s.live := rfl
end

section
variable (s : State) (f : Island → Island)
@[simp] theorem onIsland_pending : (s.onIsland f).pending = s.pending := rfl
@[simp] theorem onIsland_out : (s.onIsland f).out = s.out := rfl
@[simp] theorem onIsland_events : (s.onIsland f).events = s.events := rfl
@[simp] theorem onIsland_now : (s.onIsland f).now = s.now := rfl
@[simp] theorem onIsland_fresh : (s.onIsland f).fresh = s.fresh := rfl
@[simp] theorem onIsland_board : (s.onIsland f).board = s.board := rfl
@[simp] theorem onIsland_boot : (s.onIsland f).boot = s.boot := rfl
@[simp] theorem onIsland_role : (s.onIsland f).role = s.role := rfl
@[simp] theorem onIsland_od : (s.onIsland f).od = s.od := rfl
@[simp] theorem onIsland_bell : (s.onIsland f).bell = s.bell := rfl
@[simp] theorem onIsland_plan : (s.onIsland f).plan = s.plan := rfl
@[simp] theorem onIsland_tiles : (s.onIsland f).tiles = s.tiles := rfl
@[simp] theorem onIsland_mesh : (s.onIsland f).mesh = s.mesh := rfl
@[simp] theorem onIsland_mem : (s.onIsland f).mem = s.mem := rfl
@[simp] theorem onIsland_parts : (s.onIsland f).parts = s.parts := rfl
@[simp] theorem onIsland_tallies : (s.onIsland f).tallies = s.tallies := rfl
@[simp] theorem onIsland_drove : (s.onIsland f).drove = s.drove := rfl
@[simp] theorem onIsland_host : (s.onIsland f).host = s.host := rfl
@[simp] theorem onIsland_field : (s.onIsland f).field = s.field := rfl
@[simp] theorem onIsland_mandible : (s.onIsland f).mandible = s.mandible := rfl
@[simp] theorem onIsland_angle : (s.onIsland f).angle = s.angle := rfl
@[simp] theorem onIsland_power : (s.onIsland f).power = s.power := rfl
@[simp] theorem onIsland_thermal : (s.onIsland f).thermal = s.thermal := rfl
@[simp] theorem onIsland_island : (s.onIsland f).island = f s.island := rfl
@[simp] theorem onIsland_radio : (s.onIsland f).radio = s.radio := rfl
@[simp] theorem onIsland_log : (s.onIsland f).log = s.log := rfl
@[simp] theorem onIsland_obj (idx sub : Nat) : (s.onIsland f).obj idx sub = s.obj idx sub := rfl
@[simp] theorem onIsland_live : (s.onIsland f).live = s.live := rfl
end

section
variable (s : State) (f : Radio → Radio)
@[simp] theorem onRadio_pending : (s.onRadio f).pending = s.pending := rfl
@[simp] theorem onRadio_out : (s.onRadio f).out = s.out := rfl
@[simp] theorem onRadio_events : (s.onRadio f).events = s.events := rfl
@[simp] theorem onRadio_now : (s.onRadio f).now = s.now := rfl
@[simp] theorem onRadio_fresh : (s.onRadio f).fresh = s.fresh := rfl
@[simp] theorem onRadio_board : (s.onRadio f).board = s.board := rfl
@[simp] theorem onRadio_boot : (s.onRadio f).boot = s.boot := rfl
@[simp] theorem onRadio_role : (s.onRadio f).role = s.role := rfl
@[simp] theorem onRadio_od : (s.onRadio f).od = s.od := rfl
@[simp] theorem onRadio_bell : (s.onRadio f).bell = s.bell := rfl
@[simp] theorem onRadio_plan : (s.onRadio f).plan = s.plan := rfl
@[simp] theorem onRadio_tiles : (s.onRadio f).tiles = s.tiles := rfl
@[simp] theorem onRadio_mesh : (s.onRadio f).mesh = s.mesh := rfl
@[simp] theorem onRadio_mem : (s.onRadio f).mem = s.mem := rfl
@[simp] theorem onRadio_parts : (s.onRadio f).parts = s.parts := rfl
@[simp] theorem onRadio_tallies : (s.onRadio f).tallies = s.tallies := rfl
@[simp] theorem onRadio_drove : (s.onRadio f).drove = s.drove := rfl
@[simp] theorem onRadio_host : (s.onRadio f).host = s.host := rfl
@[simp] theorem onRadio_field : (s.onRadio f).field = s.field := rfl
@[simp] theorem onRadio_mandible : (s.onRadio f).mandible = s.mandible := rfl
@[simp] theorem onRadio_angle : (s.onRadio f).angle = s.angle := rfl
@[simp] theorem onRadio_power : (s.onRadio f).power = s.power := rfl
@[simp] theorem onRadio_thermal : (s.onRadio f).thermal = s.thermal := rfl
@[simp] theorem onRadio_island : (s.onRadio f).island = s.island := rfl
@[simp] theorem onRadio_radio : (s.onRadio f).radio = f s.radio := rfl
@[simp] theorem onRadio_log : (s.onRadio f).log = s.log := rfl
@[simp] theorem onRadio_obj (idx sub : Nat) : (s.onRadio f).obj idx sub = s.obj idx sub := rfl
@[simp] theorem onRadio_live : (s.onRadio f).live = s.live := rfl
end

section
variable (s : State) (p : Nat) (f : PartState → PartState)
@[simp] theorem onPart_pending : (s.onPart p f).pending = s.pending := rfl
@[simp] theorem onPart_out : (s.onPart p f).out = s.out := rfl
@[simp] theorem onPart_events : (s.onPart p f).events = s.events := rfl
@[simp] theorem onPart_now : (s.onPart p f).now = s.now := rfl
@[simp] theorem onPart_fresh : (s.onPart p f).fresh = s.fresh := rfl
@[simp] theorem onPart_board : (s.onPart p f).board = s.board := rfl
@[simp] theorem onPart_boot : (s.onPart p f).boot = s.boot := rfl
@[simp] theorem onPart_role : (s.onPart p f).role = s.role := rfl
@[simp] theorem onPart_od : (s.onPart p f).od = s.od := rfl
@[simp] theorem onPart_bell : (s.onPart p f).bell = s.bell := rfl
@[simp] theorem onPart_plan : (s.onPart p f).plan = s.plan := rfl
@[simp] theorem onPart_tiles : (s.onPart p f).tiles = s.tiles := rfl
@[simp] theorem onPart_mesh : (s.onPart p f).mesh = s.mesh := rfl
@[simp] theorem onPart_mem : (s.onPart p f).mem = s.mem := rfl
@[simp] theorem onPart_parts : (s.onPart p f).parts = vmod s.parts p f := rfl
@[simp] theorem onPart_tallies : (s.onPart p f).tallies = s.tallies := rfl
@[simp] theorem onPart_drove : (s.onPart p f).drove = s.drove := rfl
@[simp] theorem onPart_host : (s.onPart p f).host = s.host := rfl
@[simp] theorem onPart_field : (s.onPart p f).field = s.field := rfl
@[simp] theorem onPart_mandible : (s.onPart p f).mandible = s.mandible := rfl
@[simp] theorem onPart_angle : (s.onPart p f).angle = s.angle := rfl
@[simp] theorem onPart_power : (s.onPart p f).power = s.power := rfl
@[simp] theorem onPart_thermal : (s.onPart p f).thermal = s.thermal := rfl
@[simp] theorem onPart_island : (s.onPart p f).island = s.island := rfl
@[simp] theorem onPart_radio : (s.onPart p f).radio = s.radio := rfl
@[simp] theorem onPart_log : (s.onPart p f).log = s.log := rfl
@[simp] theorem onPart_obj (idx sub : Nat) : (s.onPart p f).obj idx sub = s.obj idx sub := rfl
@[simp] theorem onPart_live : (s.onPart p f).live = s.live := rfl
end

section
variable (s : State) (i : Nat) (x : Tally)
@[simp] theorem setTally_pending : (s.setTally i x).pending = s.pending := rfl
@[simp] theorem setTally_out : (s.setTally i x).out = s.out := rfl
@[simp] theorem setTally_events : (s.setTally i x).events = s.events := rfl
@[simp] theorem setTally_now : (s.setTally i x).now = s.now := rfl
@[simp] theorem setTally_fresh : (s.setTally i x).fresh = s.fresh := rfl
@[simp] theorem setTally_board : (s.setTally i x).board = s.board := rfl
@[simp] theorem setTally_boot : (s.setTally i x).boot = s.boot := rfl
@[simp] theorem setTally_role : (s.setTally i x).role = s.role := rfl
@[simp] theorem setTally_od : (s.setTally i x).od = s.od := rfl
@[simp] theorem setTally_bell : (s.setTally i x).bell = s.bell := rfl
@[simp] theorem setTally_plan : (s.setTally i x).plan = s.plan := rfl
@[simp] theorem setTally_tiles : (s.setTally i x).tiles = s.tiles := rfl
@[simp] theorem setTally_mesh : (s.setTally i x).mesh = s.mesh := rfl
@[simp] theorem setTally_mem : (s.setTally i x).mem = s.mem := rfl
@[simp] theorem setTally_parts : (s.setTally i x).parts = s.parts := rfl
@[simp] theorem setTally_tallies : (s.setTally i x).tallies = if x = {} then assocDel i s.tallies else assocPut i x s.tallies := rfl
@[simp] theorem setTally_drove : (s.setTally i x).drove = s.drove := rfl
@[simp] theorem setTally_host : (s.setTally i x).host = s.host := rfl
@[simp] theorem setTally_field : (s.setTally i x).field = s.field := rfl
@[simp] theorem setTally_mandible : (s.setTally i x).mandible = s.mandible := rfl
@[simp] theorem setTally_angle : (s.setTally i x).angle = s.angle := rfl
@[simp] theorem setTally_power : (s.setTally i x).power = s.power := rfl
@[simp] theorem setTally_thermal : (s.setTally i x).thermal = s.thermal := rfl
@[simp] theorem setTally_island : (s.setTally i x).island = s.island := rfl
@[simp] theorem setTally_radio : (s.setTally i x).radio = s.radio := rfl
@[simp] theorem setTally_log : (s.setTally i x).log = s.log := rfl
@[simp] theorem setTally_obj (idx sub : Nat) : (s.setTally i x).obj idx sub = s.obj idx sub := rfl
@[simp] theorem setTally_live : (s.setTally i x).live = s.live := rfl
end

section
variable (s : State) (c : Nat) (f : Channel → Channel)
@[simp] theorem onCh_pending : (s.onCh c f).pending = s.pending := rfl
@[simp] theorem onCh_out : (s.onCh c f).out = s.out := rfl
@[simp] theorem onCh_events : (s.onCh c f).events = s.events := rfl
@[simp] theorem onCh_now : (s.onCh c f).now = s.now := rfl
@[simp] theorem onCh_fresh : (s.onCh c f).fresh = s.fresh := rfl
@[simp] theorem onCh_board : (s.onCh c f).board = s.board := rfl
@[simp] theorem onCh_boot : (s.onCh c f).boot = s.boot := rfl
@[simp] theorem onCh_role : (s.onCh c f).role = s.role := rfl
@[simp] theorem onCh_od : (s.onCh c f).od = s.od := rfl
@[simp] theorem onCh_bell : (s.onCh c f).bell = s.bell := rfl
@[simp] theorem onCh_plan : (s.onCh c f).plan = s.plan := rfl
@[simp] theorem onCh_tiles : (s.onCh c f).tiles = s.tiles := rfl
@[simp] theorem onCh_mesh : (s.onCh c f).mesh = s.mesh := rfl
@[simp] theorem onCh_mem : (s.onCh c f).mem = s.mem := rfl
@[simp] theorem onCh_parts : (s.onCh c f).parts = s.parts := rfl
@[simp] theorem onCh_tallies : (s.onCh c f).tallies = s.tallies := rfl
@[simp] theorem onCh_drove : (s.onCh c f).drove = s.drove := rfl
@[simp] theorem onCh_host : (s.onCh c f).host = s.host := rfl
@[simp] theorem onCh_field : (s.onCh c f).field = s.field := rfl
@[simp] theorem onCh_mandible : (s.onCh c f).mandible = { s.mandible with channels := vmod s.mandible.channels c f } := rfl
@[simp] theorem onCh_angle : (s.onCh c f).angle = s.angle := rfl
@[simp] theorem onCh_power : (s.onCh c f).power = s.power := rfl
@[simp] theorem onCh_thermal : (s.onCh c f).thermal = s.thermal := rfl
@[simp] theorem onCh_island : (s.onCh c f).island = s.island := rfl
@[simp] theorem onCh_radio : (s.onCh c f).radio = s.radio := rfl
@[simp] theorem onCh_log : (s.onCh c f).log = s.log := rfl
@[simp] theorem onCh_obj (idx sub : Nat) : (s.onCh c f).obj idx sub = s.obj idx sub := rfl
@[simp] theorem onCh_live : (s.onCh c f).live = s.live := rfl
end

section
variable (s : State) (w : Nat) (f : Wheel → Wheel)
@[simp] theorem onWheel_pending : (s.onWheel w f).pending = s.pending := rfl
@[simp] theorem onWheel_out : (s.onWheel w f).out = s.out := rfl
@[simp] theorem onWheel_events : (s.onWheel w f).events = s.events := rfl
@[simp] theorem onWheel_now : (s.onWheel w f).now = s.now := rfl
@[simp] theorem onWheel_fresh : (s.onWheel w f).fresh = s.fresh := rfl
@[simp] theorem onWheel_board : (s.onWheel w f).board = s.board := rfl
@[simp] theorem onWheel_boot : (s.onWheel w f).boot = s.boot := rfl
@[simp] theorem onWheel_role : (s.onWheel w f).role = s.role := rfl
@[simp] theorem onWheel_od : (s.onWheel w f).od = s.od := rfl
@[simp] theorem onWheel_bell : (s.onWheel w f).bell = s.bell := rfl
@[simp] theorem onWheel_plan : (s.onWheel w f).plan = s.plan := rfl
@[simp] theorem onWheel_tiles : (s.onWheel w f).tiles = s.tiles := rfl
@[simp] theorem onWheel_mesh : (s.onWheel w f).mesh = s.mesh := rfl
@[simp] theorem onWheel_mem : (s.onWheel w f).mem = s.mem := rfl
@[simp] theorem onWheel_parts : (s.onWheel w f).parts = s.parts := rfl
@[simp] theorem onWheel_tallies : (s.onWheel w f).tallies = s.tallies := rfl
@[simp] theorem onWheel_drove : (s.onWheel w f).drove = s.drove := rfl
@[simp] theorem onWheel_host : (s.onWheel w f).host = s.host := rfl
@[simp] theorem onWheel_field : (s.onWheel w f).field = s.field := rfl
@[simp] theorem onWheel_mandible : (s.onWheel w f).mandible = s.mandible := rfl
@[simp] theorem onWheel_angle : (s.onWheel w f).angle = { s.angle with wheels := vmod s.angle.wheels w f } := rfl
@[simp] theorem onWheel_power : (s.onWheel w f).power = s.power := rfl
@[simp] theorem onWheel_thermal : (s.onWheel w f).thermal = s.thermal := rfl
@[simp] theorem onWheel_island : (s.onWheel w f).island = s.island := rfl
@[simp] theorem onWheel_radio : (s.onWheel w f).radio = s.radio := rfl
@[simp] theorem onWheel_log : (s.onWheel w f).log = s.log := rfl
@[simp] theorem onWheel_obj (idx sub : Nat) : (s.onWheel w f).obj idx sub = s.obj idx sub := rfl
@[simp] theorem onWheel_live : (s.onWheel w f).live = s.live := rfl
end

section
variable (s : State) (e : Nat) (f : AngleEvent → AngleEvent)
@[simp] theorem onEvent_pending : (s.onEvent e f).pending = s.pending := rfl
@[simp] theorem onEvent_out : (s.onEvent e f).out = s.out := rfl
@[simp] theorem onEvent_events : (s.onEvent e f).events = s.events := rfl
@[simp] theorem onEvent_now : (s.onEvent e f).now = s.now := rfl
@[simp] theorem onEvent_fresh : (s.onEvent e f).fresh = s.fresh := rfl
@[simp] theorem onEvent_board : (s.onEvent e f).board = s.board := rfl
@[simp] theorem onEvent_boot : (s.onEvent e f).boot = s.boot := rfl
@[simp] theorem onEvent_role : (s.onEvent e f).role = s.role := rfl
@[simp] theorem onEvent_od : (s.onEvent e f).od = s.od := rfl
@[simp] theorem onEvent_bell : (s.onEvent e f).bell = s.bell := rfl
@[simp] theorem onEvent_plan : (s.onEvent e f).plan = s.plan := rfl
@[simp] theorem onEvent_tiles : (s.onEvent e f).tiles = s.tiles := rfl
@[simp] theorem onEvent_mesh : (s.onEvent e f).mesh = s.mesh := rfl
@[simp] theorem onEvent_mem : (s.onEvent e f).mem = s.mem := rfl
@[simp] theorem onEvent_parts : (s.onEvent e f).parts = s.parts := rfl
@[simp] theorem onEvent_tallies : (s.onEvent e f).tallies = s.tallies := rfl
@[simp] theorem onEvent_drove : (s.onEvent e f).drove = s.drove := rfl
@[simp] theorem onEvent_host : (s.onEvent e f).host = s.host := rfl
@[simp] theorem onEvent_field : (s.onEvent e f).field = s.field := rfl
@[simp] theorem onEvent_mandible : (s.onEvent e f).mandible = s.mandible := rfl
@[simp] theorem onEvent_angle : (s.onEvent e f).angle = { s.angle with events := vmod s.angle.events e f } := rfl
@[simp] theorem onEvent_power : (s.onEvent e f).power = s.power := rfl
@[simp] theorem onEvent_thermal : (s.onEvent e f).thermal = s.thermal := rfl
@[simp] theorem onEvent_island : (s.onEvent e f).island = s.island := rfl
@[simp] theorem onEvent_radio : (s.onEvent e f).radio = s.radio := rfl
@[simp] theorem onEvent_log : (s.onEvent e f).log = s.log := rfl
@[simp] theorem onEvent_obj (idx sub : Nat) : (s.onEvent e f).obj idx sub = s.obj idx sub := rfl
@[simp] theorem onEvent_live : (s.onEvent e f).live = s.live := rfl
end

section
variable (s : State) (i : Nat) (f : Limit → Limit)
@[simp] theorem onLimit_pending : (s.onLimit i f).pending = s.pending := rfl
@[simp] theorem onLimit_out : (s.onLimit i f).out = s.out := rfl
@[simp] theorem onLimit_events : (s.onLimit i f).events = s.events := rfl
@[simp] theorem onLimit_now : (s.onLimit i f).now = s.now := rfl
@[simp] theorem onLimit_fresh : (s.onLimit i f).fresh = s.fresh := rfl
@[simp] theorem onLimit_board : (s.onLimit i f).board = s.board := rfl
@[simp] theorem onLimit_boot : (s.onLimit i f).boot = s.boot := rfl
@[simp] theorem onLimit_role : (s.onLimit i f).role = s.role := rfl
@[simp] theorem onLimit_od : (s.onLimit i f).od = s.od := rfl
@[simp] theorem onLimit_bell : (s.onLimit i f).bell = s.bell := rfl
@[simp] theorem onLimit_plan : (s.onLimit i f).plan = s.plan := rfl
@[simp] theorem onLimit_tiles : (s.onLimit i f).tiles = s.tiles := rfl
@[simp] theorem onLimit_mesh : (s.onLimit i f).mesh = s.mesh := rfl
@[simp] theorem onLimit_mem : (s.onLimit i f).mem = s.mem := rfl
@[simp] theorem onLimit_parts : (s.onLimit i f).parts = s.parts := rfl
@[simp] theorem onLimit_tallies : (s.onLimit i f).tallies = s.tallies := rfl
@[simp] theorem onLimit_drove : (s.onLimit i f).drove = s.drove := rfl
@[simp] theorem onLimit_host : (s.onLimit i f).host = s.host := rfl
@[simp] theorem onLimit_field : (s.onLimit i f).field = s.field := rfl
@[simp] theorem onLimit_mandible : (s.onLimit i f).mandible = s.mandible := rfl
@[simp] theorem onLimit_angle : (s.onLimit i f).angle = { s.angle with limits := vmod s.angle.limits i f } := rfl
@[simp] theorem onLimit_power : (s.onLimit i f).power = s.power := rfl
@[simp] theorem onLimit_thermal : (s.onLimit i f).thermal = s.thermal := rfl
@[simp] theorem onLimit_island : (s.onLimit i f).island = s.island := rfl
@[simp] theorem onLimit_radio : (s.onLimit i f).radio = s.radio := rfl
@[simp] theorem onLimit_log : (s.onLimit i f).log = s.log := rfl
@[simp] theorem onLimit_obj (idx sub : Nat) : (s.onLimit i f).obj idx sub = s.obj idx sub := rfl
@[simp] theorem onLimit_live : (s.onLimit i f).live = s.live := rfl
end

section
variable (s : State) (a : Nat) (f : Homing → Homing)
@[simp] theorem onAxis_pending : (s.onAxis a f).pending = s.pending := rfl
@[simp] theorem onAxis_out : (s.onAxis a f).out = s.out := rfl
@[simp] theorem onAxis_events : (s.onAxis a f).events = s.events := rfl
@[simp] theorem onAxis_now : (s.onAxis a f).now = s.now := rfl
@[simp] theorem onAxis_fresh : (s.onAxis a f).fresh = s.fresh := rfl
@[simp] theorem onAxis_board : (s.onAxis a f).board = s.board := rfl
@[simp] theorem onAxis_boot : (s.onAxis a f).boot = s.boot := rfl
@[simp] theorem onAxis_role : (s.onAxis a f).role = s.role := rfl
@[simp] theorem onAxis_od : (s.onAxis a f).od = s.od := rfl
@[simp] theorem onAxis_bell : (s.onAxis a f).bell = s.bell := rfl
@[simp] theorem onAxis_plan : (s.onAxis a f).plan = s.plan := rfl
@[simp] theorem onAxis_tiles : (s.onAxis a f).tiles = s.tiles := rfl
@[simp] theorem onAxis_mesh : (s.onAxis a f).mesh = s.mesh := rfl
@[simp] theorem onAxis_mem : (s.onAxis a f).mem = s.mem := rfl
@[simp] theorem onAxis_parts : (s.onAxis a f).parts = s.parts := rfl
@[simp] theorem onAxis_tallies : (s.onAxis a f).tallies = s.tallies := rfl
@[simp] theorem onAxis_drove : (s.onAxis a f).drove = s.drove := rfl
@[simp] theorem onAxis_host : (s.onAxis a f).host = s.host := rfl
@[simp] theorem onAxis_field : (s.onAxis a f).field = s.field := rfl
@[simp] theorem onAxis_mandible : (s.onAxis a f).mandible = s.mandible := rfl
@[simp] theorem onAxis_angle : (s.onAxis a f).angle = { s.angle with homing := vmod s.angle.homing a f } := rfl
@[simp] theorem onAxis_power : (s.onAxis a f).power = s.power := rfl
@[simp] theorem onAxis_thermal : (s.onAxis a f).thermal = s.thermal := rfl
@[simp] theorem onAxis_island : (s.onAxis a f).island = s.island := rfl
@[simp] theorem onAxis_radio : (s.onAxis a f).radio = s.radio := rfl
@[simp] theorem onAxis_log : (s.onAxis a f).log = s.log := rfl
@[simp] theorem onAxis_obj (idx sub : Nat) : (s.onAxis a f).obj idx sub = s.obj idx sub := rfl
@[simp] theorem onAxis_live : (s.onAxis a f).live = s.live := rfl
end

section
variable (s : State) (o : Output)
@[simp] theorem emit_pending : (s.emit o).pending = s.pending := rfl
@[simp] theorem emit_out : (s.emit o).out = s.out ++ [o] := rfl
@[simp] theorem emit_events : (s.emit o).events = s.events := rfl
@[simp] theorem emit_now : (s.emit o).now = s.now := rfl
@[simp] theorem emit_fresh : (s.emit o).fresh = s.fresh := rfl
@[simp] theorem emit_board : (s.emit o).board = s.board := rfl
@[simp] theorem emit_boot : (s.emit o).boot = s.boot := rfl
@[simp] theorem emit_role : (s.emit o).role = s.role := rfl
@[simp] theorem emit_od : (s.emit o).od = s.od := rfl
@[simp] theorem emit_bell : (s.emit o).bell = s.bell := rfl
@[simp] theorem emit_plan : (s.emit o).plan = s.plan := rfl
@[simp] theorem emit_tiles : (s.emit o).tiles = s.tiles := rfl
@[simp] theorem emit_mesh : (s.emit o).mesh = s.mesh := rfl
@[simp] theorem emit_mem : (s.emit o).mem = s.mem := rfl
@[simp] theorem emit_parts : (s.emit o).parts = s.parts := rfl
@[simp] theorem emit_tallies : (s.emit o).tallies = s.tallies := rfl
@[simp] theorem emit_drove : (s.emit o).drove = s.drove := rfl
@[simp] theorem emit_host : (s.emit o).host = s.host := rfl
@[simp] theorem emit_field : (s.emit o).field = s.field := rfl
@[simp] theorem emit_mandible : (s.emit o).mandible = s.mandible := rfl
@[simp] theorem emit_angle : (s.emit o).angle = s.angle := rfl
@[simp] theorem emit_power : (s.emit o).power = s.power := rfl
@[simp] theorem emit_thermal : (s.emit o).thermal = s.thermal := rfl
@[simp] theorem emit_island : (s.emit o).island = s.island := rfl
@[simp] theorem emit_radio : (s.emit o).radio = s.radio := rfl
@[simp] theorem emit_log : (s.emit o).log = s.log := rfl
@[simp] theorem emit_obj (idx sub : Nat) : (s.emit o).obj idx sub = s.obj idx sub := rfl
@[simp] theorem emit_live : (s.emit o).live = s.live := rfl
end

section
variable (s : State) (t : Nat)
@[simp] theorem clock_pending : (s.clock t).pending = s.pending := rfl
@[simp] theorem clock_out : (s.clock t).out = s.out := rfl
@[simp] theorem clock_events : (s.clock t).events = s.events := rfl
@[simp] theorem clock_now : (s.clock t).now = t := rfl
@[simp] theorem clock_fresh : (s.clock t).fresh = s.fresh := rfl
@[simp] theorem clock_board : (s.clock t).board = s.board := rfl
@[simp] theorem clock_boot : (s.clock t).boot = s.boot := rfl
@[simp] theorem clock_role : (s.clock t).role = s.role := rfl
@[simp] theorem clock_od : (s.clock t).od = s.od := rfl
@[simp] theorem clock_bell : (s.clock t).bell = s.bell := rfl
@[simp] theorem clock_plan : (s.clock t).plan = s.plan := rfl
@[simp] theorem clock_tiles : (s.clock t).tiles = s.tiles := rfl
@[simp] theorem clock_mesh : (s.clock t).mesh = s.mesh := rfl
@[simp] theorem clock_mem : (s.clock t).mem = s.mem := rfl
@[simp] theorem clock_parts : (s.clock t).parts = s.parts := rfl
@[simp] theorem clock_tallies : (s.clock t).tallies = s.tallies := rfl
@[simp] theorem clock_drove : (s.clock t).drove = s.drove := rfl
@[simp] theorem clock_host : (s.clock t).host = s.host := rfl
@[simp] theorem clock_field : (s.clock t).field = s.field := rfl
@[simp] theorem clock_mandible : (s.clock t).mandible = s.mandible := rfl
@[simp] theorem clock_angle : (s.clock t).angle = s.angle := rfl
@[simp] theorem clock_power : (s.clock t).power = s.power := rfl
@[simp] theorem clock_thermal : (s.clock t).thermal = s.thermal := rfl
@[simp] theorem clock_island : (s.clock t).island = s.island := rfl
@[simp] theorem clock_radio : (s.clock t).radio = s.radio := rfl
@[simp] theorem clock_log : (s.clock t).log = s.log := rfl
@[simp] theorem clock_obj (idx sub : Nat) : (s.clock t).obj idx sub = s.obj idx sub := rfl
@[simp] theorem clock_live : (s.clock t).live = s.live := rfl
end

section
variable (s : State) (i j v : Nat)
@[simp] theorem setObj_pending : (s.setObj i j v).pending = s.pending := rfl
@[simp] theorem setObj_out : (s.setObj i j v).out = s.out := rfl
@[simp] theorem setObj_events : (s.setObj i j v).events = s.events := rfl
@[simp] theorem setObj_now : (s.setObj i j v).now = s.now := rfl
@[simp] theorem setObj_fresh : (s.setObj i j v).fresh = s.fresh := rfl
@[simp] theorem setObj_board : (s.setObj i j v).board = s.board := rfl
@[simp] theorem setObj_boot : (s.setObj i j v).boot = s.boot := rfl
@[simp] theorem setObj_role : (s.setObj i j v).role = s.role := rfl
@[simp] theorem setObj_od : (s.setObj i j v).od = { written := assocPut (odKey i j) v s.od.written, inForce := assocPut (odKey i j) v s.od.inForce } := rfl
@[simp] theorem setObj_bell : (s.setObj i j v).bell = s.bell := rfl
@[simp] theorem setObj_plan : (s.setObj i j v).plan = s.plan := rfl
@[simp] theorem setObj_tiles : (s.setObj i j v).tiles = s.tiles := rfl
@[simp] theorem setObj_mesh : (s.setObj i j v).mesh = s.mesh := rfl
@[simp] theorem setObj_mem : (s.setObj i j v).mem = s.mem := rfl
@[simp] theorem setObj_parts : (s.setObj i j v).parts = s.parts := rfl
@[simp] theorem setObj_tallies : (s.setObj i j v).tallies = s.tallies := rfl
@[simp] theorem setObj_drove : (s.setObj i j v).drove = s.drove := rfl
@[simp] theorem setObj_host : (s.setObj i j v).host = s.host := rfl
@[simp] theorem setObj_field : (s.setObj i j v).field = s.field := rfl
@[simp] theorem setObj_mandible : (s.setObj i j v).mandible = s.mandible := rfl
@[simp] theorem setObj_angle : (s.setObj i j v).angle = s.angle := rfl
@[simp] theorem setObj_power : (s.setObj i j v).power = s.power := rfl
@[simp] theorem setObj_thermal : (s.setObj i j v).thermal = s.thermal := rfl
@[simp] theorem setObj_island : (s.setObj i j v).island = s.island := rfl
@[simp] theorem setObj_radio : (s.setObj i j v).radio = s.radio := rfl
@[simp] theorem setObj_log : (s.setObj i j v).log = s.log := rfl
@[simp] theorem setObj_live : (s.setObj i j v).live = s.live := rfl
end

section
variable (s : State) (code source detail : Nat)
@[simp] theorem raise_pending : (s.raise code source detail).pending = s.pending := by unfold State.raise; split <;> rfl
@[simp] theorem raise_out : (s.raise code source detail).out = s.out := by unfold State.raise; split <;> rfl
@[simp] theorem raise_now : (s.raise code source detail).now = s.now := by unfold State.raise; split <;> rfl
@[simp] theorem raise_fresh : (s.raise code source detail).fresh = s.fresh := by unfold State.raise; split <;> rfl
@[simp] theorem raise_board : (s.raise code source detail).board = s.board := by unfold State.raise; split <;> rfl
@[simp] theorem raise_boot : (s.raise code source detail).boot = s.boot := by unfold State.raise; split <;> rfl
@[simp] theorem raise_role : (s.raise code source detail).role = s.role := by unfold State.raise; split <;> rfl
@[simp] theorem raise_od : (s.raise code source detail).od = s.od := by unfold State.raise; split <;> rfl
@[simp] theorem raise_bell : (s.raise code source detail).bell = s.bell := by unfold State.raise; split <;> rfl
@[simp] theorem raise_plan : (s.raise code source detail).plan = s.plan := by unfold State.raise; split <;> rfl
@[simp] theorem raise_tiles : (s.raise code source detail).tiles = s.tiles := by unfold State.raise; split <;> rfl
@[simp] theorem raise_mesh : (s.raise code source detail).mesh = s.mesh := by unfold State.raise; split <;> rfl
@[simp] theorem raise_mem : (s.raise code source detail).mem = s.mem := by unfold State.raise; split <;> rfl
@[simp] theorem raise_parts : (s.raise code source detail).parts = s.parts := by unfold State.raise; split <;> rfl
@[simp] theorem raise_tallies : (s.raise code source detail).tallies = s.tallies := by unfold State.raise; split <;> rfl
@[simp] theorem raise_drove : (s.raise code source detail).drove = s.drove := by unfold State.raise; split <;> rfl
@[simp] theorem raise_host : (s.raise code source detail).host = s.host := by unfold State.raise; split <;> rfl
@[simp] theorem raise_field : (s.raise code source detail).field = s.field := by unfold State.raise; split <;> rfl
@[simp] theorem raise_mandible : (s.raise code source detail).mandible = s.mandible := by unfold State.raise; split <;> rfl
@[simp] theorem raise_angle : (s.raise code source detail).angle = s.angle := by unfold State.raise; split <;> rfl
@[simp] theorem raise_power : (s.raise code source detail).power = s.power := by unfold State.raise; split <;> rfl
@[simp] theorem raise_thermal : (s.raise code source detail).thermal = s.thermal := by unfold State.raise; split <;> rfl
@[simp] theorem raise_island : (s.raise code source detail).island = s.island := by unfold State.raise; split <;> rfl
@[simp] theorem raise_radio : (s.raise code source detail).radio = s.radio := by unfold State.raise; split <;> rfl
@[simp] theorem raise_log : (s.raise code source detail).log = s.log := by unfold State.raise; split <;> rfl
@[simp] theorem raise_obj (idx sub : Nat) : (s.raise code source detail).obj idx sub = s.obj idx sub := by
  unfold State.raise; split <;> rfl
@[simp] theorem raise_isLive : (s.raise code source detail).live = s.live := by unfold State.raise; split <;> rfl
end

/-! ## A unit after a change of it -/

@[simp] theorem ch_onCh_same (s : State) (c : Fin 8) (f : Channel → Channel) : (s.onCh c f).ch c = f (s.ch c) :=
  vget_vmod_same _ _ _ _ c.isLt

theorem ch_onCh_ne (s : State) (c d : Nat) (f : Channel → Channel) (h : c ≠ d) : (s.onCh c f).ch d = s.ch d :=
  vget_vmod_ne _ _ _ _ _ h

@[simp] theorem obj_setObj_same (s : State) (i j v : Nat) : (s.setObj i j v).obj i j = v := by
  simp [State.obj, State.setObj, assocGet_put_same]

end Sys2Proof.Machine
end

