-- ==== Sys2Proof/WellFormed.lean ====
section
/-!
DEFINITION. Which commands can arrive at all: the shapes that a port or a path gives its operands (10 Table DROVE-2; 11 R254,
R255; 12 R276; 13 R256; 19). The step does not test them; a command outside them stands for nothing the hardware can meet.
-/
namespace Sys2Proof

/-- Payload lengths of a classical or FD frame (ISO 11898-1; R276). -/
def canLengthOk (fd : Bool) (n : Nat) : Bool :=
  decide (n ≤ 8) || (fd && (n = 12 || n = 16 || n = 20 || n = 24 || n = 32 || n = 48 || n = 64))

/-- A frame that a controller can receive. -/
def CanFrame.wf (f : CanFrame) : Bool := canLengthOk f.fd f.data.length

/-- A flagged word carries data 0 (08, Ground). -/
def FWord.wf (w : FWord) : Bool := !w.poison || decide (w.data = 0)

/-- A cell carries 240 bytes of flow data (R230, Table DROVE-2). -/
def Cell.wf (c : Cell) : Bool := decide (c.words.length = 30) && c.words.all FWord.wf

/-- A dictionary write as its path carries it (R256, R304). -/
def WritePath.wf : WritePath → Bool
  | .mirror _ _ size => decide (1 ≤ size ∧ size ≤ 4)
  | .whole _ _ data => decide (1 ≤ data.length)

/-- Bytes of a window (Table HOST-1). -/
def WindowBar.size : WindowBar → Nat
  | .mailbox => 2 ^ 16
  | .memory => 2 ^ 36

/-- The command can arrive. A read request asks for at most 4,096 bytes, a write carries at most 512 (R252). -/
def Instr.wf : Instr → Bool
  | .bell _ stuck upsets => decide stuck.Nodup && upsets.all (fun u => decide (u.memory < 256 ∨ u.memory = 0x100 ∨ u.memory = 0x110))
  | .pmbusPoll faults => decide faults.Nodup
  | .planVerificationDone _ _ => true
  | .tallyIncrementArrival _ x => !x.entries.isEmpty && decide x.entries.Nodup
  | .mailboxDataArrival _ len words => decide (len ≤ 65536) && decide (words.length = (len + 7) / 8) && words.all FWord.wf
  | .droveCellReceived _ _ c _ => c.wf
  | .memoryWindowRead _ x len => decide (1 ≤ len ∧ len ≤ 4096 ∧ x.offset + len ≤ x.bar.size)
  | .memoryWindowWrite _ x data _ => decide (1 ≤ data.length ∧ data.length ≤ 512 ∧ x.offset + data.length ≤ x.bar.size)
  | .mirrorLowWordRead _ x => decide (1 ≤ x.size ∧ x.size ≤ 4096)
  | .odWrite _ path => path.wf
  | .canFrameReceived _ f _ => f.wf
  | .lp5xTrainingDone failed => decide failed.Nodup
  | .dmfStart x => decide x.failed.Nodup
  | _ => true

end Sys2Proof
end

