-- ==== Sys2Proof/Tests/Slice0.lean ====
section
/-!
SUPPORT. The model's own tests: an ill-formed command for each check of WellFormed, worked examples of the spec, and for every
statement a state and operands that meet its hypotheses.
-/
set_option Elab.async false

namespace Sys2Proof.Tests

open Sys2Proof Sys2Proof.Machine

/-- The main domain runs DMF. -/
def live : State := { State.reset with boot := { phase := .dmf } }

/-- A plan's bell runs. -/
def ringing : State := { live with bell := { live.bell with state := .source } }

/-- Network sleep armed, PNR at 5 ms. -/
def arming : State := { live with field := { live.field with sleep := .arming, pnrAt := 5000000 } }

/-- A partition entry: 16 tallies, a window of 1 MiB and one mailbox and camera of its number. -/
def partOf (k : Nat) : PartEntry :=
  { present := true, cls := k, tallyBase := 16 * k, tallyCount := 16, winBase := k * 2 ^ 20, winSize := 2 ^ 20,
    mailboxes := 2 ^ k, cameras := if k < 4 then 2 ^ k else 0 }

/-- A tier at 1,000 MHz that runs partitions 0 to 2, every tile partition 1's, with the given bindings. -/
def tierOf (index : Nat) (bs : List Binding) : Tier :=
  { entry := { index := index, present := true, clock := 3, vddMv := 800, partSet := 7, memberMask := 1, tileMask := 2 ^ 256 - 1 },
    bindings := bs, ownership := List.replicate 256 1 }

/-- A plan of the tiers 0 and 7. -/
def planOf (bs : List Binding) : Plan :=
  { header := { planId := 0x77, tierMask := 0x81, setMask := 1, bellPeriod := 2500, slot := 100, guard := 2, cutoff := 600 },
    tiers := [some (tierOf 0 bs), none, none, none, none, none, none, some (tierOf 7 bs)],
    parts := [partOf 0, partOf 1, partOf 2], shedMap := [0, 1, 2, 7] }

/-- That plan runs on tier 0, at bell 7, 100 µs after it. -/
def planned (bs : List Binding) : State :=
  { ringing with bell := { ringing.bell with count := 7, at_ := 1000000 }, now := 1100000,
                 plan := { ringing.plan with plan := some (planOf bs), running := true, status := 3 } }

/-! ### Ill-formed commands, one for each check -/

theorem test_wf_bell_stuck : Instr.wf (.bell 0 [3, 3] []) = false := by decide
theorem test_wf_bell_upset : Instr.wf (.bell 0 [] [⟨0x101, 0, false⟩]) = false := by decide
theorem test_wf_pmbus : Instr.wf (.pmbusPoll [1, 1]) = false := by decide
theorem test_wf_tally : Instr.wf (.tallyIncrementArrival 0 ⟨7, []⟩) = false := by decide
theorem test_wf_mailbox_length : Instr.wf (.mailboxDataArrival 0 9 [⟨0, false⟩]) = false := by decide
theorem test_wf_mailbox_flag : Instr.wf (.mailboxDataArrival 0 8 [⟨1, true⟩]) = false := by decide
theorem test_wf_cell : Instr.wf (.droveCellReceived 0 0 { flow := 0, index := 0, parity := false, kind := 1, words := [] } true) = false := by
  decide
theorem test_wf_window_read : Instr.wf (.memoryWindowRead .pf ⟨.memory, 0⟩ 4097) = false := by decide
theorem test_wf_window_write : Instr.wf (.memoryWindowWrite .pf ⟨.memory, 0⟩ [] false) = false := by decide
theorem test_wf_mirror : Instr.wf (.mirrorLowWordRead .pf ⟨4, 0⟩) = false := by decide
theorem test_wf_write_mirror : Instr.wf (.odWrite .pf (.mirror 0 0 5)) = false := by decide
theorem test_wf_can : Instr.wf (.canFrameReceived 0 { ident := 0, fd := true, ext := false, remote := false, data := List.replicate 9 0 } 0) = false := by decide
theorem test_wf_training : Instr.wf (.lp5xTrainingDone [2, 2]) = false := by decide
theorem test_wf_window_place : Instr.wf (.memoryWindowRead .pf ⟨.mailbox, 65533⟩ 4) = false := by decide
theorem test_wf_whole : Instr.wf (.odWrite .pf (.whole 0x2100 1 [])) = false := by decide
theorem test_wf_start : Instr.wf (.dmfStart ⟨0, [5, 5]⟩) = false := by decide
theorem test_wf_well_formed : Instr.wf (.bell 0 [3, 4] [⟨0x110, 0, false⟩]) = true := by decide

/-! ### Worked examples of the spec -/

/-- 19, Worked example: 06:00:00 on 2024-03-10 is t_ms = 763,365,600,000; with I = 2,000 ms and PAN ID 19,233 the slot channel of region
A is 105. -/
theorem test_radio_instant :
    ({ year := 24, month := 3, day := 10, hours := 6, minutes := 0, seconds := 0, sub := 0, weekday := 0 } : Calendar).totalSeconds * 1000
      = 763365600000 := by decide +kernel
theorem test_radio_channel : slotChannel 1 19233 (763365600000 / 2000) = 105 := by decide +kernel

/-- 06: x = 1 + 2^-8 is stored as BF16 0x3F81 when u is at least 32,768 and as 0x3F80 otherwise; nearest even gives 0x3F80. -/
theorem test_bf16_stochastic_up : narrow 0x10 (.stochastic 32768) true (.flt 0x3F808000) = 0x3F81 := by decide +kernel
theorem test_bf16_stochastic_down : narrow 0x10 (.stochastic 32767) true (.flt 0x3F808000) = 0x3F80 := by decide +kernel
theorem test_bf16_nearest : narrow 0x10 .nearest true (.flt 0x3F808000) = 0x3F80 := by decide +kernel

/-- 10, Worked example: P = 2,500 µs and M = 100 µs give S = 144,326 plan slots, 4,329 of them retry slots at budget 30. -/
theorem test_plan_slots : (planned []).planSlots = 144326 ∧ 144326 * 30 / 1000 = 4329 := by decide +kernel

/-! ### The block as a machine -/

/-- `live` with two commands waiting. -/
def waiting : State := { live with pending := [.referenceClockFailure, .bellOutPulseEnd] }

/-- The outcome is the fault of R453. -/
def overRated (r : Result) : Bool :=
  match r with
  | .fault _ => true
  | _ => false

theorem witness_StepTakesTheFrontCommand :
    waiting.pending = [.referenceClockFailure, .bellOutPulseEnd] ∧ live.pending = [] := by decide +kernel

theorem witness_ResetHoldsTheInvariant :
    (odRow? 0x2100 1).isSome = true ∧ (odRow? 0x2100 1).map OdRow.dflt = some 2500 := by decide +kernel

theorem witness_EveryStepKeepsTheInvariantAndTheQueue :
    waiting.events = [] ∧ waiting.pending = .referenceClockFailure :: [.bellOutPulseEnd]
    ∧ (match step waiting with
        | .next t => decide (t.pending = [Instr.bellOutPulseEnd] ∧ t.bell.refOk = false)
        | _ => false) = true := by decide +kernel

theorem witness_EveryCommandCompletesWithinTheRatings :
    overRated (exec (.supplySwitch 3801 0) live) = true ∧ overRated (exec (.supplySwitch 3800 4500) live) = false
    ∧ overRated (exec (.tegBoosterThreshold 1001) live) = true ∧ overRated (exec (.offStateProbe 0 ⟨70001, 0⟩ 0) live) = true
    ∧ overRated (exec (.pvMpptSample 5501 0) live) = true ∧ overRated (exec (.boostOvervoltage 70001 0) live) = true
    ∧ overRated (exec (.boostOvervoltage 70000 0) live) = false := by decide +kernel

theorem witness_EventsOfOneInstantAreLoggedInOrder :
    live.live = true ∧ live.warden .pf = true ∧ (1 : Fin 64).val ≠ live.log.sinceClear.toNat % 64
    ∧ (({ live with events := [{ code := 7 }, { code := 5, source := 2 }, { code := 5 }] } : State).settle.log.entries.toList.take 3).map
        (fun e => (e.code, e.source)) = [(5, 0), (5, 2), (7, 0)] := by decide +kernel

theorem witness_EveryStepKeepsMemoryCanonical :
    State.reset.mem.mailbox.wf emptyByte = true
    ∧ ((live.memory 0x100).setByte emptyByte 3 7).wf emptyByte = true := by decide +kernel

theorem witness_PowerGovernorDemandsTheRichestThatFits :
    (planned []).plan.plan = some (planOf [])
    ∧ ((planOf []).tier? 0).any (fun t => t.entry.peakMw ≤ (planned []).obj 0x2210 6) = true
    ∧ (∀ j < 8, (({ planOf [] with tiers := [some { tierOf 0 [] with entry := { index := 0, present := true, peakMw := 95001 } }] } :
        Plan).tier? j).any (fun t => t.entry.peakMw ≤ (planned []).obj 0x2210 6) = false) := by decide +kernel

theorem witness_LeapYearsFollowTheGregorianRule : (2024 : Nat) = 2000 + 24 ∧ leapYear 24 = true := by decide +kernel

/-! ### The bell, the tick, plans and tiers -/

/-- `planned` as a member of member ID 1, its primary port DRV0 eligible. -/
def follower (st : BellState) (missed : Nat) (seen : Bool) : State :=
  let s := planned []
  { s with role := .member
           bell := { s.bell with state := st, missed := missed, markerSeen := seen, primary := some 0 }
           drove := { s.drove with memberId := 1, ports := (s.drove.ports.set 0 { mode := .eligible }).set 1 { mode := .eligible } } }

/-- A marker of bell 8. -/
def marker8 (hops tier : BitVec 4) (switch stop restart : Bool) : Marker :=
  { hops := hops, tier := tier, switch := switch, stop := stop, restart := restart, target := 7, bellsToTarget := 1, count := 8,
    pathDelayNs := 300 }

/-- `planned` with a switch to the given tier at the given bell announced. -/
def announced (tier bell : Nat) : State :=
  let s := planned []
  { s with plan := { s.plan with pending := some { tier := tier, bell := bell, cause := 4 } } }

/-- `planned` on tier 7 with nothing demanding it, below since bell `n`. -/
def poorer (n : Int) : State :=
  let s := planned []
  { s with plan := { s.plan with effective := 7, domainTier := 7, belowSince := some n, lastSwitch := -20000 } }

/-- `planned` with BELL_IN disciplining the bell. -/
def disciplined (s : State) : State := s.setObj 0x2100 8 4

/-- `planned` with one binding of partition 1 and a descriptor of 4 bytes. -/
def bound (kind index source : Nat) (emitted : List Emitted) : State :=
  let s := planned [{ kind := kind, index := index, owner := 1, source := source }]
  { s with plan := { s.plan with plan := s.plan.plan.map (fun p => { p with
      descs := [{ base := 0, ety := 0x21, rank := 1, dims := [1, 1, 1, 1, 1], strides := [16, 0, 0, 0], companion := 0xFFFF }] }) }
           mesh := { s.mesh with emitted := emitted } }

/-- `planned` with one tile at work. -/
def tiledShort (k : Nat) : State := (planned []).onTile k (fun x => { x with mode := .active })

/-- A device ready to load, with a staging area of 64 bytes. -/
def loading (r : Role) : State :=
  let s := live
  let s := { s with role := r, drove := { s.drove with domain := 2 } }
  (s.setObj 0x2200 6 64).setObj 0x2200 5 0

/-- A verified plan awaits its bell 0. -/
def verified : State :=
  let s := planned []
  { s with bell := live.bell, plan := { s.plan with running := false, status := 1 } }

theorem witness_BellCountsSwitchesAndStartsTheTick :
    live.live = true ∧ live.plan.plan = none ∧ (live.memory 0).mark 3 = none
    ∧ (planned []).live = true ∧ (planned []).plan.plan = some (planOf []) ∧ (planned []).bell.state = .source ∧ (planned []).role ≠ .member
    ∧ (planned []).restartDue = none ∧ (planned []).plan.stopAt = none ∧ (planned []).ticks 1 = true
    ∧ (planned []).plan.fastPath = false ∧ (planned []).plan.raiseFailed = none ∧ (planned []).plan.pending = none
    ∧ (announced 7 8).plan.pending = some ⟨7, 8, 4⟩ ∧ (announced 7 8).bell.count.toNat + 1 = 8
    ∧ (announced 7 9).bell.count.toNat + 1 < 9
    ∧ ({ planned [] with plan := { (planned []).plan with fastPath := true } } : State).plan.effective ≠ (planOf []).resolve 7
    ∧ ({ planned [] with plan := { (planned []).plan with stopAt := some 8 } } : State).plan.reformAfterStop = false
    ∧ ({ planned [] with bell := { (planned []).bell with restart := some (3, 1) } } : State).restartDue = some 3
    ∧ ((planned []).onTile 3 (fun x => { x with mode := .quarantined })).tile 3 = { (planned []).tile 3 with mode := .quarantined }
    ∧ ((planned []).tile 3).requests = [] ∧ (planned []).drove.readmit = [] ∧ (planned []).plan.effective = (planned []).plan.domainTier
    ∧ (vget (planned []).parts 1 {}).resetRequest = false ∧ (vget (planned []).parts 1 {}).resetting = false := by
  decide +kernel

theorem witness_MembersFollowMarkersOrAreOrphaned :
    (follower .locked 0 true).live = true ∧ (follower .locked 0 true).plan.plan = some (planOf []) ∧ (follower .locked 0 true).role = .member
    ∧ (follower .locked 0 true).restartDue = none ∧ (follower .locked 0 false).plan.stopAt = none
    ∧ (follower .holdover 7 false).bell.missed < 8 ∧ (follower .holdover 8 false).bell.missed = 8
    ∧ ((follower .holdover 3 false).port 0).mode = .eligible ∧ ((follower .holdover 3 false).port 1).mode = .eligible
    ∧ (marker8 7 0 true false false).count.toNat = ((follower .holdover 3 false).bell.count.toNat + 1) % 2 ^ 32
    ∧ (marker8 7 0 true false false).tier.toNat = (follower .holdover 3 false).plan.domainTier
    ∧ (marker8 8 7 false true true).tier.toNat ≠ (follower .holdover 3 false).plan.domainTier
    ∧ (marker8 7 0 true false false).hops.toNat < 8 ∧ 8 ≤ (marker8 8 7 false true true).hops.toNat
    ∧ (disciplined (planned [])).obj 0x2100 8 / 4 % 4 = 1 ∧ (disciplined (planned [])).running = true
    ∧ (disciplined (planned [])).plan.awaitBell0 = false ∧ (planned []).obj 0x2100 8 / 4 % 4 ≠ 1
    ∧ (disciplined { verified with plan := { verified.plan with awaitBell0 := true } }).obj 0x2100 8 / 4 % 4 = 1
    ∧ (disciplined { verified with plan := { verified.plan with awaitBell0 := true } }).plan.plan = some (planOf [])
    ∧ (disciplined { planned [] with bell := { (planned []).bell with inMissed := 8 } }).bell.inMissed = 8
    ∧ (disciplined { planned [] with bell := { (planned []).bell with inMissed := 8 } }).running = true
    -- a marker of DRV1 waits while DRV0 is the primary; the tier of a switch that is due at bell 8 is this device's
    ∧ ((follower .locked 0 false).bell.heldMarkers = [] ∧ (follower .locked 0 false).bell.primary = some 0 ∧ (0 : PortNo) ≠ 1)
    ∧ (let s : State := { follower .locked 0 false with bell :=
          { (follower .locked 0 false).bell with heldMarkers := [(1, marker8 1 0 true false false, 5)] } }
       s.bell.heldMarkers = [(1, marker8 1 0 true false false, 5)] ∧ (marker8 1 0 true false false).stop = false
         ∧ (marker8 1 0 true false false).restart = false ∧ s.bell.markerSeen = false)
    ∧ (announced 7 8).plan.pending = some ⟨7, 8, 4⟩ ∧ 8 ≤ (announced 7 8).bell.count.toNat + 1
    ∧ (marker8 8 7 false true true).stop = true ∧ (marker8 8 7 false true true).restart = true
    ∧ ((-60 : Int).natAbs ≤ 1000 ∧ (-60 : Int) < -10 - (planned []).bell.inMoved ∧ 100 ≤ 100) := by decide +kernel

theorem witness_ArbitrationFollowsTheDemands :
    (planOf []).resolve 3 = 7 ∧ (planned []).bell.state = .source ∧ (planned []).plan.pending = none ∧ (planned []).bell.restart = none
    ∧ ((planned []).setObj 0x2210 1 3).plan.domainTier < (planOf []).resolve (((planned []).setObj 0x2210 1 3).rawTarget (planOf [])).1
    ∧ (announced 7 8).plan.pending = some ⟨7, 8, 4⟩
    ∧ (poorer (-20000)).bell.state = .source ∧ (poorer (-20000)).plan.pending = none
    ∧ (planOf []).resolve ((poorer (-20000)).rawTarget (planOf [])).1 < (poorer (-20000)).plan.domainTier
    ∧ (planOf []).richer? (poorer (-20000)).plan.domainTier = some 0
    ∧ max (-20000) (poorer (-20000)).plan.lastSwitch + ((poorer (-20000)).obj 0x2210 5 : Int) ≤ (poorer (-20000)).bell.count.toNat
    ∧ ((poorer 7).bell.count.toNat : Int) < max 7 (poorer 7).plan.lastSwitch + ((poorer 7).obj 0x2210 5 : Int)
    ∧ (poorer 7).live = true ∧ (poorer 7).plan.plan = some (planOf []) ∧ (poorer 7).plan.stopAt = none ∧ (poorer 7).plan.belowSince = some 7
    ∧ (poorer (-20000)).plan.belowSince = some (-20000)
    ∧ (({ planned [] with plan := { (planned []).plan with stopAt := some 10 } } : State)).plan.stopAt.isSome = true
    ∧ ((planned []).setObj 0x2210 1 3).live = true := by decide +kernel

theorem witness_GuardCommitsAndMaintenanceSlot :
    (planned []).live = true ∧ (planned []).running = true ∧ live.running = false ∧ (planned []).ticks 1 = true
    ∧ (planned []).commitOf 0 = none
    ∧ (bound 6 0 0xFFFF []).commitOf 0 = some ({ kind := 6, index := 0, owner := 1 }, 0, false)
    ∧ (bound 6 0 0xFFFF []).inTier 1 = true ∧ (vget (bound 6 0 0xFFFF []).parts 1 {}).skipTick = false
    ∧ (bound 4 1 0xFFFF []).sinkBlocked { kind := 4, index := 1, owner := 1 } = false
    ∧ (bound 1 1 0 []).mesh.emitted.find? (fun e => e.binding = 0 && e.complete) = none
    ∧ (bound 4 1 0 [⟨0, [⟨0, true⟩, ⟨0, false⟩], true⟩]).mesh.emitted.find? (fun e => e.binding = 0 && e.complete) = some ⟨0, [⟨0, true⟩, ⟨0, false⟩], true⟩
    ∧ ((((bound 4 1 0 []).plan.plan.bind (fun p => p.descs[0]?)).getD ({} : Desc)).dataOf [⟨0, true⟩, ⟨0, false⟩]).2 = true
    ∧ ((planned []).tier?).isSome = true
    ∧ (vget ({ planned [] with parts := (planned []).parts.set 1 { overruns := 2 } } : State).parts 1 {}).overruns = 2
    ∧ (((planned []).onTile 5 (fun x => { x with mode := .active })).missing 1).length ≠ 0
    ∧ (((planned []).onPort 0 (fun x => { x with mode := .training, phase := 2, signal := true })).port 0).mode = .training
    ∧ ((bound 6 16 0xFFFF []).partEntry 1).tallyCount ≤ 16 ∧ 0 < ((bound 6 0 0xFFFF []).partEntry 1).tallyCount
    ∧ (∀ kind ∈ [1, 2, 4, 5, 6], (bound kind 1 0 []).sinkBlocked { kind := kind, index := 1, owner := 1, source := 0 } = false)
    ∧ (planned []).plan.plan = some (planOf []) ∧ ((planned []).onPart 1 (fun x => { x with failed := true })).running = true := by
  decide +kernel

/-- An orphaned member whose domain, told of tier 0, takes it back at the next bell. -/
def returning : State :=
  let s := follower .orphaned 0 false
  { s with plan := { s.plan with effective := 7 }, bell := { s.bell with restart := some (3, 1), announced := some (0, 0) } }

theorem witness_GuardCommitsAndMaintenanceSlot_vdd :
    ((announced 7 8).tier?).isSome = true ∧ (announced 7 8).bell.state ≠ .orphaned ∧ (announced 7 8).plan.fastPath = false
    ∧ (announced 7 8).plan.raiseFailed = none ∧ ((planOf []).tier? 7).isSome = true
    ∧ (announced 7 8).staysBelow (planOf []) ⟨7, 8, 4⟩ = false
    ∧ returning.bell.state = .orphaned ∧ returning.restartDue.isSome = true ∧ returning.running = true ∧ returning.tier?.isSome = true
    ∧ ((planOf []).tier? returning.toldTier).isSome = true := by decide +kernel

/-- What a completed command leaves, as a test sees it. -/
def after (r : Result) (f : State → Bool) : Bool :=
  match r with
  | .next t => f t
  | _ => false

/-- R20: the guard counts and logs the tile that is short of its marker. -/
theorem test_overrunGuard_logs :
    after (exec (.overrunGuard 2400000) (tiledShort 5)) (fun t => (vget t.parts 1 {}).overrun && t.log.last.code = 0x1001) = true := by
  decide +kernel

/-- R21, R213: a commit without data is never withheld. -/
theorem test_commit_tally :
    after (exec (.commit 0 1200000) (bound 6 3 0xFFFF [])) (fun t => (t.tally 19).value = 1 && (t.tally 20).value = 0) = true := by
  decide +kernel

/-- R18: the slot raises VDD_CORE to tier 7's 800 mV. -/
theorem test_maintenanceSlotOpen_vdd :
    after (exec (.maintenanceSlotOpen 3400000) (planned [])) (fun t => t.power.vddMv = 800 && t.out.contains (.avsWrite 800)) = true := by
  decide +kernel

theorem witness_PlansLoadStopAndStart :
    (planned []).warden .pf = true ∧ (planned []).warden (.vf 3) = false ∧ (planned []).plan.status = 3 ∧ (planned []).role ≠ .member
    ∧ (loading .standalone).mayLoad = true ∧ (loading .bellwether).mayLoad = true ∧ (loading .standalone).live = true
    ∧ ((loading .standalone).setObj 0x2200 6 0).mayLoad = true
    ∧ (planned []).bell.state ≠ .stopped ∧ (loading .member).role = .member ∧ (loading .member).bell.state = .stopped
    ∧ (loading .member).boot.lp5xFailed = false
    ∧ verified.plan.plan = some (planOf []) ∧ verified.running = false ∧ verified.plan.status = 1 ∧ verified.plan.awaitBell0 = false
    ∧ verified.role ≠ .member ∧ verified.obj 0x2100 8 / 4 % 4 ≠ 1 ∧ (disciplined verified).obj 0x2100 8 / 4 % 4 = 1
    ∧ ({ verified with role := .member } : State).running = false ∧ (1 : Fin 128).val ≠ 0
    ∧ ({ verified with drove := { verified.drove with present := 3 } } : State).drove.present.getLsbD 1 = true
    ∧ (let s : State := { announced 7 9 with role := .bellwether };
      s.plan.status = 3 ∧ s.role ≠ .standalone ∧ s.plan.pending = some ⟨7, 9, 4⟩ ∧ s.bell.count.toNat + 1 < 9)
    ∧ (let s : State := { planned [] with role := .bellwether }; s.plan.pending = none ∧ s.bell.restart = none)
    ∧ (let s := follower .orphaned 0 false; s.role = .member ∧ s.bell.state = .orphaned ∧ s.live = true)
    ∧ (let s : State := { planned [] with drove := { (planned []).drove with resend := [(1, 0)] } };
      s.running = true ∧ s.drove.resend = (1, 0) :: []) := by decide +kernel

/-! ### Tile states -/

/-- `planned`, or no plan at all, with tile 5 in the given mode, its rebuild and its failures so far. -/
def tileIn (run : Bool) (mode : TileMode) (rebuild : Rebuild) (fails : Nat) : State :=
  (if run then planned [] else live).onTile 5 (fun x => { x with mode := mode, rebuild := rebuild, failCount := fails, attempts := 2 })
    |>.setCopy .pf (fun c => { c with tileSelect := 5 })

theorem witness_TileCommandsAndReadmission :
    (tileIn true .active .none 0).warden .pf = true ∧ (tileIn true .active .none 0).warden (.vf 3) = false
    ∧ ((tileIn true .active .none 0).copyOf .pf).tileSelect = 5 ∧ (tileIn true .active .none 0).running = true
    ∧ (tileIn false .active .none 0).running = false ∧ (tileIn false .active .none 0).live = true
    ∧ ((tileIn false .quarantined .none 1).tile 5).mode = .quarantined
    ∧ ((tileIn true .testing .selfTest 2).tile 5).rebuild = .selfTest
    ∧ ((tileIn true .testing .scrub 0).plan.plan.map (fun p => p.usesTile 5)) = some true
    ∧ (tileIn false .testing .scrub 0).plan.plan = none ∧ ((tileIn false .testing .scrub 0).tile 5).requests = []
    ∧ ((tileIn true .testing (.load 0) 0).tile 5).rebuild = .load 0
    ∧ ((tileIn true .testing (.load 3) 0).tile 5).rebuild = .load 3
    ∧ (∀ r ∈ (tileIn false .active .none 0).mesh.replies, r.responder ≠ some 5) := by decide +kernel

/-! ### Tiles and their operations -/

/-- A matrix of elements of a type, its rows at 16-byte steps. -/
def matD (base ety rows cols : Nat) (companion : Nat := 0xFFFF) : Desc :=
  let s := cdiv (cols * elemBytes ety) 16 * 16
  { base := base, ety := ety, rank := 2, dims := [cols, rows, 1, 1, 1], strides := [s, 0, 0, 0], companion := companion }

/-- A tier-0 plan whose tile 5 runs one list of records over the given descriptors, mesh slots and drove entries; the tile's SRAM, all
of it partition 1's, holds the given bytes. -/
def tiled (rs : List OpRecord) (ds : List Desc) (bytes : List (Nat × Byte)) (slots : List SlotEntry := []) (drove : List DroveEntry := [])
    (forks : List ForkTable := []) : State :=
  let s := planned []
  let t := tierOf 0 []
  let p := planOf []
  let s : State := { s with
    plan := { s.plan with plan := some { p with
      descs := ds, forks := forks
      tiers := [some { t with lists := [{ executor := 5, records := rs }], slots := slots
                              entry := { t.entry with droveMask := 1 }, drove := { t.drove with entries := drove } },
                none, none, none, none, none, none, some (tierOf 7 [])] } }
    drove := { s.drove with ports := s.drove.ports.set 0 { mode := .eligible } } }
  s.onTile 5 (fun x => { x with
    mode := .active, regions := [{ base := 0, length := 0xC0000, owner := 1, attrs := 1 }], sram := { bytes := bytes } })

/-- A record of partition 1 at cycle 100. -/
def rec1 (opcode a b c d : Nat) (imm0 imm1 imm2 flags : Nat := 0) : OpRecord :=
  { opcode := opcode, part := 1, issue := 100, a := a, b := b, c := c, d := d, imm0 := imm0, imm1 := imm1, imm2 := imm2, flags := flags }

/-- Descriptors of the examples: FP32 3 × 5 (0, 1, D 4), a row and a column (2, 3), INT8 4 × 32 and 32 × 3 with INT32 4 × 3 (6 to 9), BF16
2 × 8 and 8 × 4 with FP32 2 × 4 (10 to 13), S24 weights (14, 15), and so on as the witnesses use them. -/
def descsA : List Desc :=
  [matD 0 0x20 3 5, matD 0x8000 0x20 3 5, matD 0x9000 0x20 1 5, matD 0xA000 0x20 3 1, matD 0x10000 0x20 3 5, matD 0x10800 0x10 3 5,
   matD 0x18000 0 4 32, matD 0x1A000 0 32 3, matD 0x20000 0x21 4 3, matD 0x21000 0x21 4 3]
def descsB : List Desc :=
  [matD 0x22000 0x10 2 8, matD 0x23000 0x10 8 4, matD 0x24000 0x20 2 4, matD 0x25000 0x20 2 4, matD 0x26000 0x10 4 4 15,
   matD 0x27000 0x03 1 4, matD 0x28000 0x20 3 1, matD 0x29000 0x20 3 2, matD 0x2A000 0x20 3 1, matD 0x2B000 0x20 6 4,
   matD 0x2C000 0x20 3 4, matD 0x2D000 0x20 3 2]
def descsC : List Desc :=
  [matD 0x2E000 0x22 3 8, matD 0x2F000 0x22 1 24, matD 0x30000 0x22 1 6, matD 0x31000 0x22 1 6, matD 0x32000 0x10 2 4,
   matD 0x33000 0x21 2 1, matD 0x34000 0x10 2 256 29, matD 0x35000 0x03 1 1, matD 0x36000 0x10 1 16, matD 0x37000 0x20 1 32,
   matD 0x38000 0 1 4 33, matD 0x39000 0x22 1 5, matD 0x3A000 0x21 4 3]
def descsD : List Desc :=
  [{ matD 0x3B000 0 12 2 with dims := [2, 4, 3, 1, 1], strides := [16, 64, 0, 0], rank := 3 }, matD 0x3C000 0 8 2, matD 0x3D000 0x21 6 2,
   matD 0x3E000 0x20 1 3]
def descs : List Desc := descsA ++ descsB ++ descsC ++ descsD

/-- `tiled` with one record over these descriptors. -/
def one (r : OpRecord) : State := tiled [r] descs []

/-- The context of tile 5's first record. -/
def ctx5 : RecordCtx := { tile := 5, executor := 5, counters := [], issues := 0, planId := 0x77, bell := 7 }

/-- `State.Free` and `State.Clean` can be decided. -/
def freeOf (s : State) (k : TileNo) (cycle opcode : Nat) (units : List Nat) (c : RecordCtx) (r : OpRecord) :
    Decidable (s.Free k cycle opcode units c r) := by
  unfold State.Free; infer_instance
def cleanOf (s : State) (k : TileNo) (p : Nat) (d : Desc) : Decidable (s.Clean k p d) := by
  exact decidable_of_iff ((s.tile k).allowsDesc p false d = true ∧ ∀ w ∈ d.words ++ d.fetched, (s.tile k).sram.mark w = none)
    (by simp [State.Clean, List.mem_append])

/-- The record is next, nothing holds it back at cycle 100, and its operands A to C that are present are clean. -/
def goes (s : State) (units : List Nat) (r : OpRecord) : Bool :=
  @decide _ (freeOf s 5 100 r.opcode units ctx5 r)
  && [0, 1, 2].all (fun i => (s.operand ctx5 r i).toList.all (fun d => @decide _ (cleanOf s 5 1 d)))

/-- A record in flight until cycle 120 with one element, a pair for the matcher, and a slot or none. -/
def done120 (slot : Option (Nat × Desc)) : InFlight :=
  { done := 120, reads := [], writes := [2], slotsRead := [], eot := false, slotWrite := slot
    elems := [{ addr := 0x10000, size := 4, value := 7, poison := false }]
    matcher := some (.load [{ key := 3, value := 4, keyPoison := false, valuePoison := false }]) }

theorem witness_RecordsIssueInOrderAndComplete :
    goes (one (rec1 0 0xFFFF 0xFFFF 0xFFFF 0xFFFF)) [unitSQ] (rec1 0 0xFFFF 0xFFFF 0xFFFF 0xFFFF)
    ∧ goes (one (rec1 1 0xFFFF 0xFFFF 0xFFFF 0xFFFF 3 2 50)) [unitSQ] (rec1 1 0xFFFF 0xFFFF 0xFFFF 0xFFFF 3 2 50)
    ∧ (one (rec1 0x29 0 0xFFFF 0xFFFF 4)).live = true
    ∧ (one (rec1 0x29 0 0xFFFF 0xFFFF 4)).tileOwner 5 = some 1 ∧ (one (rec1 0x29 0 0xFFFF 0xFFFF 4)).tileRuns 5 = true
    ∧ (one (rec1 0x29 0 0xFFFF 0xFFFF 4)).partRuns 1 = true
    ∧ ((one (rec1 0x29 0 0xFFFF 0xFFFF 4)).tile 5).allows 1 true 0x10000 4 = true
    ∧ ((one (rec1 0x29 0 0xFFFF 0xFFFF 4)).tile 5).allows 1 true 0xC0000 4 = false
    ∧ 0 ∈ (descs.getD 0 {}).banks ∧ 2 ∈ (descs.getD 4 {}).banks
    -- a wait tally reached at cycle 95; the earliest issue cycle; a record in flight until 120 that loads the matcher; FMAP's slot
    ∧ (let r := { rec1 0 0xFFFF 0xFFFF 0xFFFF 0xFFFF with flags := 1, wait := 20 }
      let s := (one r).setTally 20 { value := 1, reached := true, at_ := some 95 }
      s.nextRecord 5 = some (ctx5, r) ∧ r.flag 0 = true ∧ (s.tally (r.wait % 4096)).at_ = some 95 ∧ ((100 : Nat) : Int) < 95 + 12)
    ∧ ((one (rec1 0 0xFFFF 0xFFFF 0xFFFF 0xFFFF)).tile 5).seq.free (rec1 0 0xFFFF 0xFFFF 0xFFFF 0xFFFF) [unitSQ] < 101
    ∧ (let s := (one (rec1 0x29 0 0xFFFF 0xFFFF 4)).onTile 5 (fun x => { x with seq := { x.seq with inFlight := [done120 none] } })
      (s.tile 5).seq.inFlight.find? (fun f => f.done = 120) = some (done120 none) ∧ s.tileOwner 5 = some 1 ∧ s.tileRuns 5 = true
      ∧ (∀ w ∈ (done120 none).elems, (s.tile 5).allows 1 true w.addr w.size = true)
      ∧ (s.tile 5).seq.inFlight.find? (fun f => f.done = 121) = none)
    ∧ (({ matD 32 0x20 3 5 with } : Desc).tileBase % 16 = 0 ∧ ({ matD 36 0x20 3 5 with } : Desc).tileBase % 16 ≠ 0)
    ∧ ((one (rec1 0x29 0 0xFFFF 0xFFFF 4)).onPart 1 (fun x => { x with failed := true })).partRuns 1 = false := by decide +kernel

theorem witness_VectorRecordsComputeAndComplete :
    goes (one (rec1 0x20 0 2 0xFFFF 4)) [unitVE] (rec1 0x20 0 2 0xFFFF 4)
    ∧ goes (one (rec1 0x21 0 0xFFFF 0xFFFF 4)) [unitVE] (rec1 0x21 0 0xFFFF 0xFFFF 4)
    ∧ goes (one (rec1 0x22 0 3 0xFFFF 4)) [unitVE] (rec1 0x22 0 3 0xFFFF 4)
    ∧ goes (one (rec1 0x24 0 1 0xFFFF 4)) [unitVE] (rec1 0x24 0 1 0xFFFF 4)
    ∧ goes (one (rec1 0x25 0 1 0xFFFF 5)) [unitVE] (rec1 0x25 0 1 0xFFFF 5)
    ∧ goes (one (rec1 0x23 0 1 0 4)) [unitVE] (rec1 0x23 0 1 0 4)
    ∧ goes (one (rec1 0x28 0 1 0 4)) [unitVE] (rec1 0x28 0 1 0 4)
    ∧ goes (one (rec1 0x26 0 3 0xFFFF 4)) [unitVE] (rec1 0x26 0 3 0xFFFF 4)
    ∧ (∀ op ∈ [0x27, 0x29, 0x2A, 0x2B, 0x2C, 0x2D, 0x2E, 0x2F],
        goes (one (rec1 op 0 0xFFFF 0xFFFF 4)) [unitVE] (rec1 op 0 0xFFFF 0xFFFF 4))
    ∧ (∀ op ∈ [0x30, 0x31, 0x32], goes (one (rec1 op 0 0xFFFF 0xFFFF 16)) [unitVE] (rec1 op 0 0xFFFF 0xFFFF 16))
    ∧ @decide _ (freeOf ((one (rec1 0x29 0 0xFFFF 0xFFFF 4)).onTile 5 (fun x => { x with regions := [] })) 5 100 0x29 [unitVE] ctx5
        (rec1 0x29 0 0xFFFF 0xFFFF 4)) = true
    ∧ (((one (rec1 0x29 0 0xFFFF 0xFFFF 4)).onTile 5 (fun x => { x with regions := [] })).tile 5).allowsDesc 1 false
        (descs.getD 0 {}) = false := by decide +kernel

/-- A fork table of two futures of two pages. -/
def fork0 : ForkTable := { futures := 2, pages := 2, pageBytes := 4096, poolBase := 0x40000, entries := [0, 3, 0xFFFFFFFF, 1] }

theorem witness_AttentionMatcherAndMergeRecords :
    goes (one (rec1 0x40 0 0xFFFF 17 4 0x3F000000 0 18)) [unitVE] (rec1 0x40 0 0xFFFF 17 4 0x3F000000 0 18)
    ∧ goes (one (rec1 0x41 19 0xFFFF 0xFFFF 20 2)) [unitVE, unitMT] (rec1 0x41 19 0xFFFF 0xFFFF 20 2)
    ∧ 2 * (descs.getD 20 {}).rows ≤ (descs.getD 19 {}).rows
    ∧ goes (one (rec1 0x42 20 0xFFFF 0xFFFF 21 0 0 0xFFFF)) [unitVE] (rec1 0x42 20 0xFFFF 0xFFFF 21 0 0 0xFFFF)
    ∧ goes (one (rec1 0x48 22 0xFFFF 0xFFFF 23)) [unitMT] (rec1 0x48 22 0xFFFF 0xFFFF 23)
    ∧ (descs.getD 23 {}).count = 2 * (3 * ((descs.getD 22 {}).count / 2 / 3))
    ∧ goes (one (rec1 0x51 24 0xFFFF 0xFFFF 25)) [unitIM] (rec1 0x51 24 0xFFFF 0xFFFF 25)
    ∧ goes (one (rec1 0x50 24 0xFFFF 0xFFFF 0xFFFF)) [unitIM] (rec1 0x50 24 0xFFFF 0xFFFF 0xFFFF)
    ∧ goes (one (rec1 0x52 0xFFFF 0xFFFF 0xFFFF 0xFFFF)) [unitIM] (rec1 0x52 0xFFFF 0xFFFF 0xFFFF 0xFFFF)
    ∧ goes (one (rec1 0x60 0 0xFFFF 0xFFFF 4)) [unitDMA] (rec1 0x60 0 0xFFFF 0xFFFF 4)
    ∧ goes (one (rec1 0x80 26 0xFFFF 27 0xFFFF)) [unitVE] (rec1 0x80 26 0xFFFF 27 0xFFFF)
    ∧ goes (tiled [rec1 0x88 0 0xFFFF 0xFFFF 0xFFFF 0x300 0 1] descs [] [] [] [fork0]) [unitSQ] (rec1 0x88 0 0xFFFF 0xFFFF 0xFFFF 0x300 0 1)
    ∧ goes (tiled [rec1 0x38 32 7 0xFFFF 38 0 0 4] descs ((List.range 4).map (fun i => (0x39000 + i, 0xFF)))) [unitVE]
        (rec1 0x38 32 7 0xFFFF 38 0 0 4)
    ∧ (cooEntries ((tiled [rec1 0x38 32 7 0xFFFF 38 0 0 4] descs ((List.range 4).map (fun i => (0x39000 + i, 0xFF)))).tile 5)
        (descs.getD 32 {}) (descs.getD 33 {})).1.length ≤ 4
    ∧ ((one (rec1 0x38 32 7 0xFFFF 38)).companion (descs.getD 32 {})).isSome = true
    ∧ fork0.entries[1 * fork0.pages + 0]? = some 0xFFFFFFFF ∧ fork0.entries[0 * fork0.pages + 1]? = some 3 ∧ fork0.futures ≤ 2
    ∧ fork0.pages ≤ 2
    -- a full matcher that holds none of the pair's keys
    ∧ (let x := ((one (rec1 0x50 24 0xFFFF 0xFFFF 0xFFFF)).onTile 5 (fun x => { x with
          matcher := List.replicate 1024 { key := 9, value := 1 } })).tile 5
      x.matcher.length = 1024 ∧ ((x.pairs (descs.getD 24 {})).head?.map (fun e => e.key)) = some 0 ∧ (∀ m ∈ x.matcher, m.key ≠ 0)) := by
  decide +kernel

theorem witness_MatrixRecordsComputeAndComplete :
    goes (one (rec1 0x10 6 7 9 8 0 0 0 4)) [unitMU] (rec1 0x10 6 7 9 8 0 0 0 4)
    ∧ goes (one (rec1 0x10 10 11 0xFFFF 12)) [unitMU] (rec1 0x10 10 11 0xFFFF 12)
    ∧ goes (one (rec1 0x10 10 14 13 12 0 0 0 16)) [unitMU] (rec1 0x10 10 14 13 12 0 0 0 16)
    ∧ ((one (rec1 0x10 10 14 13 12 0 0 0 16)).companion (descs.getD 14 {})).isSome = true
    ∧ (rec1 0x10 10 14 13 12 0 0 0 16).flag 4 = true
    ∧ goes (one (rec1 0x14 35 36 0xFFFF 37 0x100012)) [unitMU, unitDMA] (rec1 0x14 35 36 0xFFFF 37 0x100012)
    ∧ goes (one (rec1 0x15 10 11 13 12 0 5 0xFFFFFFFF)) [unitMU] (rec1 0x15 10 11 13 12 0 5 0xFFFFFFFF)
    ∧ goes (one (rec1 0x15 10 11 0xFFFF 12 0 0 0xFFFFFFFF)) [unitMU] (rec1 0x15 10 11 0xFFFF 12 0 0 0xFFFFFFFF)
    ∧ goes (tiled [rec1 0x11 30 28 0xFFFF 31 0 0 1] descs [(0x35000, 1)]) [unitMU] (rec1 0x11 30 28 0xFFFF 31 0 0 1)
    ∧ goes (one (rec1 0x12 32 7 9 34 0 0 5 4)) [unitMU, unitIM, unitMT] (rec1 0x12 32 7 9 34 0 0 5 4)
    ∧ (descs.getD 6 {}).esize = (descs.getD 7 {}).esize ∧ (descs.getD 6 {}).isInt = true ∧ (descs.getD 11 {}).isInt = false
    ∧ (descs.getD 12 {}).dim 0 = (descs.getD 11 {}).dim 0
    -- the runs that the taps of CONVW read, and the stored blocks of MMA_SBLK, are clean; TRANS_A
    ∧ (let ad := descs.getD 35 {}; ∀ d ∈ (((windowOfWord 0x100012).tapRuns ad).eraseDups.map ad.run),
        @decide _ (cleanOf (one (rec1 0x14 35 36 0xFFFF 37 0x100012)) 5 1 d) = true)
    ∧ @decide _ (cleanOf (tiled [rec1 0x11 30 28 0xFFFF 31 0 0 1] descs [(0x35000, 1)]) 5 1 ((descs.getD 28 {}).firstBlocks 1)) = true
    ∧ goes (one (rec1 0x14 35 36 0xFFFF 37 0x100012 0 0 8)) [unitMU, unitDMA] (rec1 0x14 35 36 0xFFFF 37 0x100012 0 0 8)
    ∧ (rec1 0x14 35 36 0xFFFF 37 0x100012 0 0 8).flag 3 = true
    ∧ goes (one (rec1 0x12 32 7 9 34 0 0 5 12)) [unitMU, unitIM, unitMT] (rec1 0x12 32 7 9 34 0 0 5 12)
    ∧ 0 < ((cooEntries ((tiled [rec1 0x12 32 7 9 34 0 0 0 4] descs ((List.range 4).map (fun i => (0x39000 + i, 0)))).tile 5)
        (descs.getD 32 {}) (descs.getD 33 {})).1.length) := by decide +kernel

/-- Mesh slot entries: a push of two flits, a read of three, one to the emit hub. -/
def slots5 : List SlotEntry :=
  [{ source := 5, dest := 5, kind := 1, owner := 1, flits := 2, start := 110, reps := 1, stride := 4 },
   { source := 5, dest := 5, kind := 2, owner := 1, flits := 3, start := 105 },
   { source := 5, dest := 0x111, kind := 1, owner := 1, flits := 1, start := 120 }]

/-- A DSEND's flow: 60 bytes on DRV0 from slot 32. -/
def send3 : DroveEntry := { flow := 3, kind := 1, outPort := 0, bytes := 60, outSlot := 32, meshSlot := 0 }

/-- `tiled` with one transfer record over these slots. -/
def sends (r : OpRecord) : State := tiled [r] descs [] slots5 [send3]

/-- The tier of `pushing`. -/
def tierOf5 : Tier := ((sends (rec1 0 0xFFFF 0xFFFF 0xFFFF 0xFFFF)).tier?).getD {}

/-- A push of entry 0 whose record is bound. -/
def pushing : State :=
  let s := sends (rec1 0 0xFFFF 0xFFFF 0xFFFF 0xFFFF)
  { s with mesh := { s.mesh with transfers :=
      [{ entry := 0, tile := 5, opcode := 0x68, late := false, words := [], dest := descs[4]?, tally := 0, amount := 0, binding := 0 }] } }

theorem witness_TransfersBindAndFlitsArrive :
    goes (sends (rec1 0x68 0 0xFFFF 0xFFFF 4)) [unitMI] (rec1 0x68 0 0xFFFF 0xFFFF 4)
    ∧ goes (sends (rec1 0x78 0 0xFFFF 0xFFFF 0xFFFF 0 2)) [unitMI] (rec1 0x78 0 0xFFFF 0xFFFF 0xFFFF 0 2)
    ∧ goes (sends (rec1 0x69 0 0xFFFF 0xFFFF 4 1)) [unitMI] (rec1 0x69 0 0xFFFF 0xFFFF 4 1)
    ∧ goes (sends (rec1 0x70 0xFFFF 0xFFFF 0xFFFF 0xFFFF 3 1 2)) [unitMI] (rec1 0x70 0xFFFF 0xFFFF 0xFFFF 0xFFFF 3 1 2)
    ∧ goes (sends (rec1 0x6A 0 0xFFFF 0xFFFF 0xFFFF 3)) [unitMI] (rec1 0x6A 0 0xFFFF 0xFFFF 0xFFFF 3)
    ∧ (sends (rec1 0x6A 0 0xFFFF 0xFFFF 0xFFFF 3)).carries 0 = true
    ∧ ((sends (rec1 0x6A 0 0xFFFF 0xFFFF 0xFFFF 3)).sendEntry 3).isSome = true
    ∧ ((sends (rec1 0x69 0 0xFFFF 0xFFFF 4 1)).slotEntry 1).isSome = true
    ∧ (sends (rec1 0x69 0 0xFFFF 0xFFFF 4 1)).answers 5 = true ∧ (sends (rec1 0x69 0 0xFFFF 0xFFFF 4 1)).takesWrites 5 = true
    ∧ ((sends (rec1 0x69 0 0xFFFF 0xFFFF 4 1)).farDesc 1 true).isSome = true
    ∧ (sends (rec1 0 0xFFFF 0xFFFF 0xFFFF 0xFFFF)).recordFor 0 = none
    ∧ cellSlot (sends (rec1 0x6A 0 0xFFFF 0xFFFF 0xFFFF 3)).retryBudget 32 0 < (sends (rec1 0x6A 0 0xFFFF 0xFFFF 0xFFFF 3)).tickSlots
    ∧ ((sends (rec1 0x6A 0 0xFFFF 0xFFFF 0xFFFF 3)).onPort 0 (fun x => { x with mode := .down })).carries (0 % 8) = false
    -- a bound push of tile 5 to itself, and a reply with another epoch
    ∧ (let s := pushing
      s.slotEntry 0 = some (tierOf5, { source := 5, dest := 5, kind := 1, owner := 1, flits := 2, start := 110, reps := 1, stride := 4 })
      ∧ s.answers 5 = true ∧ (s.mesh.transfers.find? (fun r => r.entry = 0)).map (fun r => (r.opcode, r.dest)) = some (0x68, descs[4]?)
      ∧ s.recordFor 0 = none
      ∧ (∀ w ∈ wordWrites (descs.getD 4 {}).tileBase (descs.getD 4 {}) 4 (List.replicate 4 ⟨9, false⟩), (s.tile 5).allows 1 true w.addr w.size = true))
    ∧ (let s := sends (rec1 0x69 0 0xFFFF 0xFFFF 4 1)
      s.farDesc 1 true = descs[4]? ∧ 1 + 1 < 3 ∧ (1 : BitVec 2) ≠ (s.tile 5).epoch
      ∧ ((s.onTile 5 (fun x => { x with mode := .quarantined })).answers 5 = false)) := by decide +kernel

theorem witness_NumberFormatsStoreAndSaturate :
    ofF 0x3F800000 ≠ .nan ∧ ofF 0x7FC00000 = .nan ∧ ofF 0x7F800000 = .inf false ∧ ofF 0xFF800000 = .inf true
    ∧ bf16.decode 0x3F80 ≠ .nan ∧ e4m3.decode 0x7E ≠ .nan ∧ e5m2.decode 0x7C = .inf false ∧ ofF 0x3F800001 = .fin false 8388609 (-23)
    ∧ e4m3.decode 0x38 = .fin false 8 (-3) ∧ narrow 0x01 .nearest true (.flt 0x3F800001) = 0x38 := by decide +kernel

/-! ### Memory and integrity -/

theorem witness_MemoryWordsReadAsWritten :
    Memory.wf 0 { bytes := [(3, 7)], marks := [(1, .poison), (2, .correctable)] } = true
    ∧ Memory.mark { bytes := [(3, 7)], marks := [(1, .poison), (2, .correctable)] } 1 = some .poison
    ∧ Memory.mark { bytes := [(3, 7)], marks := [(1, .poison), (2, .correctable)] } 2 = some .correctable := by decide +kernel

theorem witness_RefreshEventsAndCounterClear :
    live.live = true ∧ live.warden .pf = true ∧ live.warden (.vf 3) = false := by decide +kernel

/-! ### Partitions and tallies -/

/-- Tally 20 of partition 1 stands at 2; its config is `c`, and partition 1 binds camera trigger 1. -/
def tallyAt (c : TallyConfig) : State :=
  let s := planned [{ kind := 4, index := 1, owner := 1, offset := 500, source := 0 }]
  let s := s.setTally 20 { value := 2 }
  let s := (s.setCopy (.vf 0) (fun x => { x with tallySelect := 20 })).onPart 1 (fun x => { x with resetting := true })
  let s := s.onTile 5 (fun x => { x with mode := .active })
  { s with
    plan := { s.plan with plan := s.plan.plan.map (fun pl => { pl with tallies := [c] }) }
    mesh := { s.mesh with transfers := [3, 4].map (fun e =>
      { entry := e, tile := 5, opcode := 0x70, late := false, words := [], dest := none, tally := 20, amount := 1, binding := 20 }) } }

theorem witness_TalliesReachOnceAndPartitionsReset :
    (let s := tallyAt { index := 20, target := 3, event := true };
      s.live = true ∧ (s.tallyConfig 20).target = 3 ∧ (s.tally 20).value.toNat < 3 ∧ 3 ≤ (satAdd 32 (s.tally 20).value ([3, 4].map (s.tincAmount 20)).sum).toNat ∧ s.answers 5 = true
      ∧ s.tallyOwner 20 = some 1 ∧ (s.tallyConfig 20).event = true ∧ (s.tallyConfig 20).fire = false
      ∧ (satAdd 32 (s.tally 20).value ([7].map (s.tincAmount 20)).sum).toNat < 3
      ∧ s.mesh.transfers.find? (fun x => x.entry = 7) = none ∧ (s.mesh.transfers.find? (fun x => x.entry = 3)).isSome = true
      ∧ (s.setTally 20 { value := 3 }).tally 20 = { value := 3 })
    ∧ (let s := tallyAt { index := 20, target := 3, fire := true, sinkKind := 4, sinkIndex := 1 };
      (s.tallyConfig 20).fire = true ∧ s.inTier 1 = true ∧ s.binds 1 4 1 = true ∧ s.bell.state ≠ .orphaned
      ∧ (s.camera 1).held = false ∧ (s.camera 1).stale = false ∧ s.plan.safe = false ∧ s.running = true ∧ (s.camera 1).pulse = false)
    ∧ (tallyAt { index := 20, target := 3, fire := true, sinkKind := 4, sinkIndex := 2 }).binds 1 4 2 = false
    ∧ (let s := tallyAt {};
      (s.copyOf (.vf 0)).tallySelect = 20 ∧ s.present (s.actsAs (.vf 0)) = true ∧ s.inTallyRange (s.actsAs (.vf 0)) 20 = true
      ∧ s.warden (.vf 1) = false ∧ s.inTallyRange (s.actsAs (.vf 1)) (s.copyOf (.vf 1)).tallySelect = false
      ∧ s.warden .pf = true ∧ s.present 1 = true ∧ (vget s.parts 1 {}).resetting = true
      ∧ (∀ j ∈ s.tilesOf 1, (s.tile j).forReset = true → (s.tile j).rebuild = .aligned)
      ∧ (vget s.parts 2 {}).resetting = false) := by decide +kernel

/-! ### Drove links and the flock -/

/-- A receive entry of flow 7 on DRV0: 410 cells from slot 10,000. -/
def flow7 : DroveEntry := { flow := 7, kind := 2, inPort := 0, bytes := 98304, inSlot := 10000, meshSlot := 0 }

/-- A short receive entry: 3 cells from slot 32, across retry slot 33. -/
def flow8 : DroveEntry := { flow := 8, kind := 2, inPort := 0, bytes := 500, inSlot := 32, meshSlot := 0 }

/-- `planned` with the given drove entries on tier 0, DRV0 in its mask, and DRV0 in the given mode. -/
def droved (mode : PortMode) (es : List DroveEntry) : State :=
  let s := planned []
  let t := tierOf 0 []
  { s with
    plan := { s.plan with plan := some { planOf [] with tiers :=
      [some { t with entry := { t.entry with droveMask := 1 }, drove := { t.drove with entries := es } },
       none, none, none, none, none, none, some (tierOf 7 [])] } }
    drove := { s.drove with ports := s.drove.ports.set 0 { mode := mode } } }

/-- A bellwether whose formation has met one link, DRV0 to DRV0, with the given hop delay. -/
def forming (h : Nat) : State :=
  { live with role := .bellwether, drove := { live.drove with domain := 1, graph := [⟨live.board.serial, 0, 0x99, 0, h⟩] } }

/-- A member's link to the bellwether, recorded at formation. -/
def linked (down : Bool) : State :=
  let s := droved .eligible []
  { s with role := .bellwether
           drove := { s.drove with links := [((0, 1), (1, 0))], lost := if down then 2 else 0
                                   ports := s.drove.ports.set 0 { mode := .probation, peerPlan := some (1, 0x77) } } }

theorem witness_RetrySlotsAndCellPlaces :
    isRetrySlot 30 10033 = true ∧ cellCount 98304 = 410 ∧ cellSlot 30 10000 409 = 10421 ∧ cellAt 30 10000 98304 10421 = some 409
    ∧ cellAt 30 10000 98304 10033 = none
    ∧ (List.replicate 12288 (⟨5, false⟩ : FWord)).length * 8 ≥ 98304 := by decide +kernel

theorem witness_DroveCellsRetriesAndDeadline :
    (droved .eligible [flow8]).live = true ∧ ((droved .eligible [flow8]).port 0).mode = .eligible
    ∧ (droved .eligible [flow8]).carries 0 = true ∧ (0, flow8) ∈ (droved .eligible [flow8]).droveEntries
    ∧ (droved .eligible [flow8]).retryBudget ≤ 200 ∧ (droved .eligible [flow8]).delivered 0 = false
    ∧ cellSlot (droved .eligible [flow8]).retryBudget flow8.inSlot 1 = 34
    ∧ 34 ∉ ((droved .eligible [flow8]).port 0).asking
    ∧ 34 ∈ (((droved .eligible [flow8]).onPort 0 (fun x => { x with asking := [34] })).port 0).asking
    ∧ (droved .eligible [flow8]).holdsCell 0 1 = false
    ∧ isRetrySlot 30 66 = true ∧ 66 < (droved .eligible [flow8]).planSlots
    ∧ 34 < (droved .eligible [flow8]).tickSlots
    ∧ ((droved .eligible [flow8]).port 0).askedFrame < 34 / 8
    ∧ 34 / 8 ≤ (((droved .eligible [flow8]).onPort 0 (fun x => { x with askedFrame := 4 })).port 0).askedFrame
    ∧ (let s := (droved .eligible [flow8]).onPort 0 (fun x => { x with
          sentCells := [(30, { flow := 7, index := 0, parity := false, kind := 1, words := [] })], requests := [(30, 50)] })
      (assocGet 30 (s.port 0).sentCells).isSome = true ∧ (s.port 0).requests = (30, 50) :: [] ∧ assocGet 66 (s.port 0).sentCells = none
        ∧ 30 + 24 ≤ 66 ∧ 50 < 66)
    ∧ (droved .eligible [flow8]).tickSlots ≤ 200000
    ∧ ({ droved .eligible [flow8] with drove := { (droved .eligible [flow8]).drove with delivered := [(0, [])] } } : State).delivered 0 = true := by
  decide +kernel

theorem witness_PortsDropTrainAndServeProbation :
    (droved .eligible []).live = true ∧ (droved .eligible []).warden .pf = true
    ∧ ((droved .probation []).port 0).mode = .probation ∧ ((droved .probation []).port 0).probation = 0
    ∧ 2 ≤ (((droved .probation []).onPort 0 (fun x => { x with probationFails := 2 })).port 0).probationFails
    ∧ (droved .down []).running = true ∧ ((droved .down []).port 0).mode = .down ∧ (droved .down []).obj 0x2700 0xA = 1
    ∧ ((droved .training []).port 0).mode = .training ∧ ((droved .training []).port 0).trainFails < 4
    ∧ 4 ≤ (((droved .training []).onPort 0 (fun x => { x with trainFails := 4 })).port 0).trainFails
    ∧ ((droved .disabled []).port 0).mode = .disabled
    ∧ (linked true).drove.lost.getLsbD 1 = true
    ∧ (linked true).plan.plan.map (fun y => y.header.planId) = some 0x77
    ∧ (linked true).role = .bellwether ∧ ((linked true).port 0).peerPlan = some (1, 0x77) ∧ (1 : Nat) ∉ (linked true).drove.readmit
    ∧ (∀ r ∈ (linked true).drove.resend, r.1 ≠ 1)
    ∧ (((linked true).onPort 0 (fun x => { x with peerPlan := some (1, 0x78) })).port 0).peerPlan = some (1, 0x78)
    -- the report of the device at the other end, and a member whose uplink is another port
    ∧ (let r : LinkReport := { member := 3, port := 1, state := 1, peer := 0, cause := 2, planIdLow := 0 }
      let s := (droved .eligible []).onPort 0 (fun x => { x with peer := 0x301 })
      r.cause = 2 ∧ r.state.val = 1 ∧ r.port.val = (s.port 0).peer.toNat % 256 ∧ r.member.val = (s.port 0).peerMember)
    ∧ (let s : State := { (droved .eligible []) with role := .member, bell := { (droved .eligible []).bell with primary := some 1 } }
      let s := s.onPort 1 (fun x => { x with mode := .eligible })
      s.uplink = some 1 ∧ (1 : PortNo) ≠ 0 ∧ (s.port 1).mode = .eligible)
    ∧ 100 < (droved .probation []).tickSlots
    ∧ (((droved .down []).onPort 0 (fun x => { x with retryIn := some 1000 })).port 0).retryIn = some 1000
    ∧ ((droved .down []).setObj 0x2700 0xA 0).obj 0x2700 0xA = 0 := by decide +kernel

theorem witness_FormationNumbersTheDomain :
    (forming 1000).live = true ∧ (forming 1000).warden .pf = true ∧ (forming 1000).role = .bellwether
    ∧ (forming 1000).running = false ∧ (forming 1000).plan.status = 0 ∧ (forming 1000).drove.domain = 1
    ∧ (0x99 : U32) ≠ (forming 1000).board.serial ∧ (forming 1000).obj 0x2710 3 ≤ 1 ∧ (forming 1000).boot.autoload = false
    ∧ (forming 1000).plan.reformAfterStop = false ∧ (forming 1000).drove.second = false
    ∧ 1 < ((forming 1000).setObj 0x2710 3 2).obj 0x2710 3
    ∧ ({ droved .eligible [] with role := .bellwether } : State).plan.status = 3
    ∧ ({ (droved .eligible []) with role := .member, bell := live.bell } : State).running = false
    ∧ (forming 1000).ownHopsShort = true ∧ ((forming 1000).onPort 0 (fun x => { x with mode := .eligible, hopPs := 80001 })).ownHopsShort = false
    ∧ (∀ l ∈ (forming 1000).drove.linkDown, l ≠ (0, 0) ∧ l ≠ (1, 0))
    ∧ ({ forming 1000 with drove := { (forming 1000).drove with second := true } } : State).drove.second = true
    ∧ (let s : State := { (droved .eligible []) with role := .member, bell := live.bell,
                                                     drove := { (droved .eligible []).drove with parent := some 0 } }
      let s := s.onPort 1 (fun x => { x with mode := .eligible })
      s.drove.parent = some 0 ∧ (s.port 1).mode = .eligible ∧ (0x99 : U32) ≠ s.board.serial)
    ∧ (follower .orphaned 0 false).bell.state = .orphaned ∧ ((follower .orphaned 0 false).port 0).mode = .eligible := by decide +kernel

theorem witness_GatewayDemandWordsAndLinkReports :
    (linked false).warden .pf = true ∧ (linked false).warden (.vf 3) = false
    ∧ ((linked false).copyOf .pf).gateway.status = 0 ∧ (linked false).routePort 1 = some 1 ∧ (linked false).routePort 2 = none
    ∧ ((odRow? 0x2200 1).map OdRow.bytes).getD 9 = 8 ∧ ((odRow? 0x2B20 0).map OdRow.bytes).getD 8 = 64
    ∧ (linked false).drove.lost.getLsbD 1 = false
    ∧ (∀ k : Fin 128, (linked false).cutOff k = true → (linked false).drove.lost.getLsbD k = true)
    ∧ ((linked false).onPort 0 (fun x => { x with mode := .eligible })).running = true
    ∧ (((linked false).onPort 0 (fun x => { x with mode := .eligible })).port 0).mode = .eligible
    ∧ (linked false).route 1 = 1 :: [] := by decide +kernel

theorem witness_GatewayDemandWordsAndLinkReports_ends :
    (linked false).live = true
    ∧ (((linked false).setCopy .pf (fun c => { c with gateway := { c.gateway with status := 1 } })).copyOf .pf).gateway.status = 1
    -- a service read for this device, answered with a value and with an abort code
    ∧ (match (linked false).serveRead .pf 0x2000 4, (linked false).serveRead .pf 0x2999 0 with
        | .ok _, .error _ => true
        | _, _ => false) = true
    ∧ ((linked false).onPort 1 (fun x => { x with mode := .eligible })).port 1 = { (linked false).port 1 with mode := .eligible }
    -- a member with a plan passes its new word on in time
    ∧ (let s : State := { droved .eligible [] with role := .member, bell := { (droved .eligible []).bell with primary := some 0 } }
      s.inTime = true ∧ s.uplink = some 0 ∧ s.plan.plan.isSome = true
        ∧ BitVec.ofNat 32 (packDemands (({ s with plan := { s.plan with received := [(0, 2, 0x70, 0)] } } : State).joinedDemands)) ≠ s.plan.sentWord)
    -- the report of member 1's port 0, its one link, and a report that is none of the peer's reset
    ∧ (let r : LinkReport := { member := 1, port := 0, state := 1, peer := 0, cause := 1, planIdLow := 0 }
      (linked false).tellsPeerReset 0 r = false ∧ (linked false).role = .bellwether ∧ r.state = 1 ∧ r.member.val = 1 ∧ r.port.val = 0
        ∧ (∀ l ∈ (linked false).drove.links, l.1.1 ≠ l.2.1)
        ∧ (linked false).drove.links.any (fun l => l.1.1 = 1 || l.2.1 = 1) = true
        ∧ (∀ l ∈ (linked false).drove.links, l.1.1 = 1 ∨ l.2.1 = 1 →
            l.1 = (1, 0) ∨ l.2 = (1, 0) ∨ l.1 ∈ (linked false).drove.linkDown ∨ l.2 ∈ (linked false).drove.linkDown)
        ∧ (∀ l ∈ (linked false).drove.links, l.1 = (1, 0) → l.2.1 = 0)
        ∧ (∀ l ∈ (linked false).drove.links, l.2 = (1, 0) → l.1.1 = 0)) := by decide +kernel

/-! ### Host and sensor ports -/

/-- The LP5X of a running plan carries these marks, and these channels refresh themselves. -/
def lp5xWith (marks : List (Nat × Mark)) (asleep : List Nat) : State :=
  let s := planned []
  { s with mem := { s.mem with lp5x := { bytes := [(2 ^ 20 + 9, 7)], marks := marks }, selfRefresh := asleep } }

theorem witness_MemoryWindowAndFunctionResets :
    (let s := lp5xWith [] []; isFunction (.vf 0) = true ∧ s.live = true ∧ s.windowOf (s.actsAs (.vf 0)) = (2 ^ 20, 2 ^ 20)
      ∧ 8 + 16 ≤ 2 ^ 20 ∧ 2 ^ 20 < 2 ^ 20 - 4 + 16 ∧ s.mem.selfRefresh = [] ∧ s.mem.lp5x.marks = [])
    ∧ (let s := lp5xWith [(2 ^ 17 + 1, .poison)] [];
      s.mem.lp5x.marks = [(2 ^ 17 + 1, .poison)] ∧ (2 ^ 20 + 8) / 8 ≤ 2 ^ 17 + 1 ∧ 8 * (2 ^ 17 + 1) < 2 ^ 20 + 8 + 16)
    ∧ (∀ c : Fin 4, c.val ∈ (lp5xWith [] [0, 1, 2, 3]).mem.selfRefresh)
    ∧ (((planned []).copyOf .pf).view = none ∧ (((planned []).setCopy .pf (fun c => { c with view := some 3 })).copyOf .pf).view = some 3
      ∧ (planned []).mem.mailbox.marks = []) := by decide +kernel

/-- Mailbox 1 of a running plan. -/
def mailboxOf (f : Mailbox → Mailbox) : State := (planned []).onMailbox 1 f

theorem witness_MailboxesHoldWhatWasNotAcknowledged :
    (let s := mailboxOf (fun x => { x with ready := true, generation := 3, back := .pending });
      s.live = true ∧ s.mailboxOwner 1 = some (s.actsAs (.vf 0)) ∧ (s.mailbox 1).ready = true ∧ 3 = (s.mailbox 1).generation
      ∧ (s.mailbox 1).back = .pending ∧ (s.mailbox 1).lastLog = none ∧ s.present (s.actsAs (.vf 0)) = true)
    ∧ (let s := mailboxOf (fun x => { x with ready := true, back := .pending, lastLog := some 5 });
      (s.mailbox 1).lastLog = some 5 ∧ 5 ≤ s.bell.count.toNat ∧ s.bell.count.toNat < 5 + 1000)
    ∧ (let s := mailboxOf (fun x => { x with ready := true, generation := 3 });
      (s.mailbox 1).back ≠ .pending ∧ (s.mailbox 1).ready = true)
    ∧ (mailboxOf id).mailboxOwner 1 ≠ some ((mailboxOf id).actsAs .pf) ∧ (mailboxOf id).warden .pf = true := by decide +kernel

/-- Camera 1 of a running plan: RAW10, two lines of 16 pixels. -/
def cameraOf (f : Camera → Camera) : State :=
  ((((planned []).setObj 0x2300 0x14 0x2B01).setObj 0x2300 0x15 0x20010).setObj 0x2300 0x16 2).onCamera 1 f

theorem witness_CameraFramesReachTheirSlot :
    (let s := cameraOf id;
      s.live = true ∧ s.camRuns 1 = true ∧ bitsOf (s.camWord 1) 6 2 = (0#2).toNat ∧ (s.camTick 1 7).start = none
      ∧ (∀ d : Fin 4, d ≠ 1 → s.camRuns d = false) ∧ s.bell.count.toNat = 7)
    ∧ (let s := cameraOf (fun x => { x with receiving := some 7, ticks := [(7, { start := some (1000, 3) })] });
      (s.camera 1).receiving = some 7 ∧ bitsOf (s.camWord 1) 8 6 = (0x2B#6).toNat ∧ (s.camTick 1 7).lines < s.camLines 1
      ∧ 2 * s.camWidth 1 ≤ ((List.replicate 16 (5#16)).flatMap (fun x => toLE 2 (x.toNat % 1024))).length
      ∧ (s.camTick 1 7).start.isSome = true ∧ s.camSlot 1 7 % 8 = 0 ∧ (s.camTick 1 7).missing = false
      ∧ 0 < s.camLines 1 - (s.camTick 1 7).lines)
    ∧ (let s := cameraOf (fun x => { x with ticks := [(7, { start := some (1000, 3), lines := 2, second := true, crcErrors := 1 })] });
      s.camLines 1 - (s.camTick 1 7).lines = 0 ∧ (s.camTick 1 7).second = true ∧ 0 < (s.camTick 1 7).crcErrors)
    ∧ (live.camRuns 0 = false ∧ (live.camera 0).receiving = none) ∧ (0x2D#6) ≠ 0x2A ∧ (0x2D#6) ≠ 0x2B ∧ (0x2D#6) ≠ 0x2C ∧ (0x2D#6) ≠ 0x1E := by
  decide +kernel

/-! ### Field network -/

/-- A frame with identifier 0x201, in a state of its own. -/
def frame201 (st : TxState) (late : Option Nat) : TxFrame :=
  { frame := fdFrame 0x201 [1, 2], kind := .tpdo 0, state := st, abortLate := late }

/-- FCAN0 holds what `f` gives it; the node is operational. -/
def canWith (f : Controller → Controller) : State :=
  ({ live with field := { live.field with nmt := .operational } } : State).onCan 0 f

theorem witness_CanTransmissionsAbortsAndBusOff :
    (let s := canWith (fun x => { x with buffers := [frame201 .committed (some 0)] });
      s.live = true ∧ (s.can 0).halt = [] ∧ (s.can 0).off = false ∧ (s.can 0).state ≠ .asleep
      ∧ (s.can 0).current = some (.buffer (frame201 .committed (some 0)))
      ∧ (s.can 0).queued = [] ∧ s.field.sleep = .awake)
    ∧ (let s := canWith (fun x => { x with buffers := [frame201 .pending none] });
      (s.can 0).current = some (.buffer (frame201 .pending none)) ∧ (frame201 .pending none) ∈ (s.can 0).buffers
      ∧ (s.can 0).haltOnBus = none ∧ (∀ g ∈ (s.can 0).buffers, g.state = .pending))
    ∧ (let s := canWith (fun x => { x with halt := [3], buffers := [frame201 .pending none] });
      (s.can 0).halt = [3] ∧ 3 ∈ (s.can 0).halt ∧ (s.can 0).current = some (.halt 3) ∧ (s.can 0).haltOnBus = none)
    ∧ (live.warden .pf = true ∧ ((canWith id).can 0).state = .errorActive)
    ∧ ((canWith (fun x => { x with state := .busOff })).can 0).state = .busOff
    ∧ (let s := canWith (fun x => { x with state := .recovering });
      (s.can 0).state = .recovering ∧ s.field.nmt = .operational ∧ s.field.emcyInhibit = false
      ∧ bitOf (s.obj 0x2300 0x25) 3 = true) := by decide +kernel

theorem witness_NodeAnswersNmtHeartbeatEmcyAndUsdo :
    (live.live = true ∧ live.nodeId = 64 ∧ live.obj 0x1017 0 = 0 ∧ live.field.emcy = [] ∧ live.field.sleep = .awake)
    ∧ (live.setObj 0x1017 0 500).obj 0x1017 0 ≠ 0
    ∧ (let s := live.setObj 0x1016 2 0x00050064; bitsOf (s.obj 0x1016 2) 0 16 ≠ 0 ∧ bitsOf (s.obj 0x1016 2) 16 8 ≠ 0)
    ∧ bitsOf (live.obj 0x1016 2) 0 16 = 0
    ∧ (let s : State := { live with field := { live.field with emcy := [[1, 2, 3, 4, 5, 6, 7, 8]], nmt := .stopped } };
      s.field.emcy = [[1, 2, 3, 4, 5, 6, 7, 8]] ∧ s.field.emcyInhibit = false ∧ s.field.nmt = .stopped ∧ (s.can 0).state ≠ .asleep)
    ∧ (let s := canWith id; let t : State := { s with field := { s.field with emcy := [[1, 2, 3, 4, 5, 6, 7, 8]] } };
      t.field.emcy = [[1, 2, 3, 4, 5, 6, 7, 8]] ∧ t.field.nmt = .operational ∧ t.warden .pf = true
      ∧ t.field.emcyInhibit = false ∧ t.warden (.usdo 0) = true ∧ (t.can 0).transfer = none)
    ∧ odIndex 0x2999 = false
    ∧ ((canWith (fun x => { x with transfer := some (odKey 0x2B20 0, [1, 2, 3], true) })).can 0).transfer
        = some (odKey 0x2B20 0, [1, 2, 3], true)
    ∧ ((canWith (fun x => { x with transfer := some (odKey 0x2B20 0, [1, 2, 3], false) })).can 0).transfer
        = some (odKey 0x2B20 0, [1, 2, 3], false) := by decide +kernel

/-- RPDO 0 and TPDO 0 map one object each: the grant command of mandible channel 0, and the bell count. -/
def mapped (type timer : Nat) : State :=
  (((((((canWith id).setObj 0x1600 0 1).setObj 0x1600 1 0x28000508).setObj 0x1A00 0 1).setObj 0x1A00 1 0x21000340).setObj
    0x1800 2 type).setObj 0x1800 5 timer)

/-- FCAN1 takes part in a sleep vote, and the node is stopped. -/
def quiet1 : State := { live with field := { live.field with nmt := .stopped, sleep := .quiet, sleepMask := 2 } }

theorem witness_PdosFollowMappingOwnerAndSync :
    (let s := mapped 254 100;
      s.live = true ∧ s.field.nmt = .operational ∧ bitOf (s.obj 0x1400 1) 31 = false ∧ s.obj 0x1600 0 = 1
      ∧ bitsOf (s.obj 0x1600 1) 0 8 = 8 ∧ bitsOf (s.obj 0x2300 0x60) 24 8 = 0xFF ∧ 240 < s.obj 0x1400 2
      ∧ s.running = false ∧ s.field.sleep = .awake ∧ bitOf (s.obj 0x1800 1) 31 = false ∧ (s.can 0).state = .errorActive
      ∧ s.obj 0x1A00 0 = 1 ∧ s.obj 0x1A00 1 = 0x21000340 ∧ 254 ≤ s.obj 0x1800 2 ∧ s.obj 0x1800 5 ≠ 0)
    ∧ bitOf (live.obj 0x1405 1) 31 = true
    ∧ (let s := (mapped 254 100).setObj 0x2300 0x60 0x05000000; bitsOf (s.obj 0x2300 0x60) 24 8 ≠ 0xFF)
    ∧ (let s := live.setObj 0x1400 5 10; s.obj 0x1400 5 ≠ 0) ∧ live.obj 0x1400 5 = 0
    ∧ (let s := mapped 2 0;
      1 ≤ s.obj 0x1800 2 ∧ s.obj 0x1800 2 ≤ 240 ∧ bitOf (s.obj 0x1005 0) 30 = false
      ∧ (∀ m : Fin 32, m ≠ 0 → 240 < s.obj (0x1800 + m) 2) ∧ s.obj 0x1800 6 = 0
      ∧ (s.tpdo 0).syncs.getD 0 + 1 < s.obj 0x1800 2)
    ∧ (let s := mapped 1 0; s.obj 0x1800 2 ≤ (s.tpdo 0).syncs.getD 0 + 1)
    ∧ (let s := (mapped 2 0).setObj 0x1800 6 9;
      (s.tpdo 0).syncs = none ∧ s.obj 0x1800 6 ≠ 0 ∧ (5 : Byte).toNat ≠ 0 ∧ (5 : Byte).toNat ≠ s.obj 0x1800 6)
    ∧ (let s := mapped 0 0; s.obj 0x1800 2 = 0 ∧ (s.tpdo 0).last ≠ some (toLE 8 s.bell.count.toNat)
      ∧ (s.onTpdo 0 (fun x => { x with last := some (toLE 8 0) })).tpdo 0 = { s.tpdo 0 with last := some (toLE 8 s.bell.count.toNat) })
    ∧ ((mapped 254 100).tpdo 0).nextAt ≤ (mapped 254 100).now
    ∧ ((mapped 254 100).onTpdo 0 (fun x => { x with nextAt := 5 })).now < 5
    ∧ (let s := canWith (fun x => { x with recc := 3 });
      (s.can 0).off = false ∧ (s.can 0).state ≠ .asleep ∧ 0 < (s.can 0).recc.toNat ∧ (s.can 0).recc.toNat ≤ 127 ∧ s.field.sleep = .awake)
    ∧ ((canWith id).can 0).recc = 0
    ∧ live.field.nmt ≠ .operational
    ∧ ((0x000#11).toNat ≠ 0x600 + quiet1.nodeId ∧ (quiet1.can 1).recc = 0 ∧ (quiet1.can 1).state = .errorActive ∧ quiet1.field.nmt = .stopped ∧ (0 : Nat) ≠ quiet1.obj 0x1005 0 % 2048
      ∧ bitOf quiet1.field.sleepMask.toNat (1 : Fin 2) = true ∧ quiet1.field.sleep = .quiet
      ∧ ((0x000#11).toNat ^^^ quiet1.obj 0x2300 0x32) &&& quiet1.obj 0x2300 0x33 &&& 0x7FF = 0) := by decide +kernel

theorem witness_NetworkSleepPhases :
    (live.live = true ∧ live.warden .pf = true ∧ live.bell.state = .stopped ∧ live.field.sleep ≠ .pastPnr)
    ∧ ringing.bell.state ≠ .stopped
    ∧ (({ live with field := { live.field with sleep := .pastPnr } } : State)).field.sleep = .pastPnr
    ∧ (let s : State := { live with field := { live.field with sleep := .quiet, sleepMask := 1, lastFrame := 12000000 } };
      s.field.sleep = .quiet ∧ s.field.sleepMask = 1 ∧ s.field.lastFrame + 50000000 ≤ 62000000)
    ∧ (arming.field.sleep = .arming ∧ arming.field.quietAt + arming.obj 0x2300 0x34 * 1000 ≤ 200000) := by decide +kernel

/-! ### Object dictionary -/

theorem witness_DictionaryWritesAreJudged :
    live.live = true ∧ odRow? 0x2999 0 = none ∧ (odRow? 0x2100 0x30 = none ∧ odIndex 0x2100 = true)
    ∧ (live.warden (.vf 2) = false ∧ live.warden .pf = true)
    ∧ (odRow? 0x2510 5).any (fun r => decide (r.own = .w ∧ r.grant = false ∧ r.acc = .rw ∧ r.bytes = 4)
        && r.inRange 0x2510 5 (leNat [1, 2, 0, 0] &&& r.mask)) = true
    ∧ (odRow? 0x2510 3).any (fun r => decide (r.acc = .ro ∧ r.own = .c)) = true
    ∧ ((odRow? 0x2800 5).any (fun r => r.grant) = true ∧ bitOf (live.obj 0x2001 2) (0x2800 - 0x2800) = false)
    ∧ (odRow? 0x2100 1).any (fun r => decide (r.acc = .rwl) && r.inRange 0x2100 1 (leNat [0xC4, 9] &&& r.mask)
        && !r.inRange 0x2100 1 (leNat [1, 0] &&& r.mask)) = true
    ∧ (ringing.bell.state ≠ .stopped ∧ live.bell.state = .stopped ∧ live.plan.status = 0)
    ∧ (odRow? 0x2401 2).any (fun r => r.inRange 0x2401 2 (leNat [0x30, 0x75, 1, 0] &&& r.mask)) = true
    ∧ (live.objW 0x2402 2 ≤ leNat [0x30, 0x75, 1, 0] ∧ live.objW 0x2401 1 ≤ leNat [0x30, 0x75, 1, 0]
      ∧ live.objW 0x2402 1 < leNat [0x30, 0x75, 1, 0])
    ∧ ((odRow? 0x2404 1).any (fun r => r.inRange 0x2404 1 (leNat [3] &&& r.mask)) = true ∧ live.plan.running = false)
    ∧ (odRow? 0x2100 5).any (fun r => decide (r.acc = .rwb)) = true
    ∧ (live.field.nmt ≠ .operational) ∧ (∀ n : Fin 32, (canWith id).tpdoType n < 254 ∨ (canWith id).tpdoType n ≥ 254)
    ∧ (match live.joined 0x2510 5 513, live.joined 0x2401 1 (live.objW 0x2401 1), live.joined 0x2800 1 0, live.mappingOk 0x1A00 0 0 with
        | .ok _, .ok _, .ok _, .ok _ => true
        | _, _, _, _ => false) = true
    ∧ isMapping 0x2510 = false ∧ isMapping 0x1A00 = true ∧ ownHome 0x2510 5 = false ∧ live.running = false
    ∧ (odRow? 0x2800 1).any (fun r => decide (r.own = .w ∧ r.acc = .rwl ∧ r.bytes = 2) && r.inRange 0x2800 1 (leNat [0, 0] &&& r.mask)) = true
    ∧ (odRow? 0x2900 4).any (fun r => decide (r.own = .w ∧ r.acc = .rwl) && r.inRange 0x2900 4 (leNat [1] &&& r.mask)) = true
    ∧ bitOf (leNat [1]) 0 = true ∧ live.wheelOn 0 = false ∧ (live.setObj 0x2900 4 1).wheelOn 0 = true := by decide +kernel

/-- The physical function's copy names a target. -/
def aiming (target : U32) (word : U32) : State :=
  live.setCopy .pf (fun c => { c with indirect := { c.indirect with target := target, data := word :: List.replicate 15 0 },
                                      latched := some (odKey 0x2B11 1, 7) })

theorem witness_MirrorIndirectWindowAndLogClear :
    (live.live = true ∧ isFunction .pf = true ∧ live.warden .pf = true ∧ live.warden (.vf 2) = false ∧ (8 : Nat) ≠ 4)
    ∧ (0x21000E#24).toNat % 4 ≠ 0 ∧ odIndex ((0x299900#24).toNat / 256) = false
    ∧ ((odRow? ((0x210014#24).toNat / 256) ((0x210014#24).toNat % 256 / 4)).any (fun r => decide (r.bytes ≤ 4 ∧ r.own = .w)))
    ∧ ((odRow? ((0x2F000C#24).toNat / 256) ((0x2F000C#24).toNat % 256 / 4)).any (fun r => decide (r.bytes ≤ 4 ∧ r.acc = .wo)))
    ∧ ((aiming 0x21000300 0).copyOf .pf).latched = some (odKey 0x2B11 1, 7) ∧ (live.copyOf .pf).latched = none
    ∧ ((aiming 0x21000300 0).copyOf .pf).indirect.target = 0x21000300
    ∧ odIndex (((aiming 0x29990000 0).copyOf .pf).indirect.target.toNat / 65536) = false
    ∧ (((aiming 0x25100500 700).copyOf .pf).indirect.target = 0x25100500
      ∧ (((aiming 0x25100500 700).copyOf .pf).indirect.data.getD 0 0).toNat ≤ 100000) := by decide +kernel

/-! ### Mandible drivers -/

/-- A phase record of Table MAND-3 as a number: first byte, setpoint, duration, band. -/
def phaseRecord (b setpoint duration band : Nat) : Nat := b + 2 ^ 8 * setpoint + 2 ^ 24 * duration + 2 ^ 40 * band

/-- Channel 0: pull-in 1.5 A for 50 ms, hold 0.5 A, release; channel 2: a bridge with pull-in and reverse pulse; all granted. -/
def coils : State :=
  let prof0 := phaseRecord 0x22 1500 5000 10 + 256 ^ 7 * phaseRecord 0x13 500 0 10 + 256 ^ 14 * phaseRecord 0x05 500 0 10
    + 256 ^ 0x2A * 200 + 256 ^ 0x2C * 40
  let prof2 := phaseRecord 0x12 1500 5000 10 + 256 ^ 7 * phaseRecord 0x06 500 100 10
  ((((((((live.setObj 0x2001 2 0xFF).setObj 0x2800 1 0x19).setObj 0x2800 6 prof0).setObj 0x2802 1 3).setObj 0x2802 6 prof2).setObj
    0x2800 0x11 10000).setObj 0x2802 0x11 10000).setObj 0x2800 8 8000).setObj 0x2800 9 60

/-- Channels 0 and 2 in their first phase, switches closed, at a current of 100 mA. -/
def coilsOn : State :=
  (coils.onCh 0 (fun x => { x with record := some 0, kind := 2, drive := .on, current := 20 })).onCh 2 (fun x =>
    { x with record := some 0, kind := 2, drive := .on, current := 100 })

theorem witness_MandibleCommitsAct :
    (coilsOn.live = true ∧ coilsOn.chOn 0 = true ∧ coilsOn.chPartner 0 = false ∧ coilsOn.plan.safe = false
      ∧ (coilsOn.ch 0).latched = false ∧ (coilsOn.ch 0).limited = false ∧ isRunKind (coilsOn.phase 0 0).kind = true
      ∧ coilsOn.recordOf 0 5 = some 2 ∧ coilsOn.chBridge 0 = false)
    ∧ (coilsOn.chOn 2 = true ∧ coilsOn.chPartner 2 = false ∧ (coilsOn.ch 2).latched = false ∧ coilsOn.chBridge 2 = true
      ∧ coilsOn.recordOf 2 6 = some 1 ∧ coilsOn.recordOf 2 5 = none ∧ (coilsOn.ch 2).record = some 0)
    ∧ (coils.recordOf 2 5 = none ∧ (coils.ch 2).record = none)
    -- a peak phase, entered from the forward diagonal and out of the other one
    ∧ (let s := (coils.setObj 0x2802 6 (phaseRecord 0x11 1500 5000 10)).onCh 2 (fun x => { x with drive := .reverse });
      (s.phase 2 0).kind = 1 ∧ (s.ch 2).drive = .reverse ∧ s.chOn 2 = true ∧ (s.ch 2).limited = false
      ∧ ((s.onCh 2 (fun x => { x with drive := .off })).ch 2).gapUntil ≤ s.now) := by decide +kernel

theorem witness_MandibleDirectCommandsNeedTheirGrant :
    (coilsOn.warden .pf = true ∧ bitOf (coilsOn.obj 0x2001 2) 0 = true ∧ coilsOn.directOk 0 = true ∧ coilsOn.chFit 0 = true
      ∧ (coilsOn.ch 0).limited = false ∧ isRunKind (coilsOn.phase 0 0).kind = true
      ∧ (coilsOn.ch 0).record.isSome = true ∧ coilsOn.obj 0x2800 2 = 0)
    ∧ bitOf (live.obj 0x2001 2) 0 = false
    ∧ (bitOf (coilsOn.obj 0x2001 2) 1 = true ∧ coilsOn.chFit 1 = false)
    ∧ ((coils.onCh 0 (fun x => { x with latched := true })).ch 0).latched = true := by decide +kernel

theorem witness_MandibleLoopAndProtection :
    ((coilsOn.ch 0).record = some 0 ∧ coilsOn.chOn 0 = true ∧ (coilsOn.phase 0 0).kind = 2)
    ∧ ((coilsOn.ch 0).safeHold = false ∧ (coilsOn.phase 0 0).duration ≠ 0
      ∧ (coilsOn.ch 0).phaseAt + (coilsOn.phase 0 0).duration * 10000 ≤ 50000000
      ∧ isRunKind (coilsOn.phase 0 0).kind = true ∧ isRunKind (coilsOn.phase 0 1).kind = true
      ∧ isRunKind (coilsOn.phase 2 1).kind = false)
    ∧ (let s := (coilsOn.setObj 0x2800 0xD 3).setObj 0x2800 0xC 1
      bitOf (s.obj 0x2800 0xD) 0 = true ∧ bitOf (s.obj 0x2800 0xD) 1 = true ∧ (s.ch 0).thermal = false
        ∧ (s.ch 0).duty = false) := by decide +kernel

theorem witness_MandibleDiagnosticsLatchAndLog :
    (coilsOn.live = true ∧ coilsOn.chOn 0 = true ∧ (coilsOn.ch 0).latched = false ∧ (coilsOn.ch 0).record.isSome = true)
    ∧ ((coilsOn.ch 0).record = some 0 ∧ bitOf (coilsOn.chCfg 0) 4 = true ∧ (coilsOn.ch 0).drive = .on
      ∧ (coilsOn.ch 0).openLoad = false ∧ (100 : Rat) ≤ coilsOn.target 0 (coilsOn.phase 0 0)
      ∧ ((coilsOn.ch 0).size : Rat) < 50)
    ∧ ((coils.ch 0).record = none ∧ bitOf (coils.chCfg 0) 3 = true)
    ∧ (let s := coils.onCh 0 (fun x => { x with probeRun := (2, 2) })
      (s.ch 0).probeRun.1 = 2 ∧ 2 ≤ (s.ch 0).probeRun.2 ∧ (s.ch 0).record = none ∧ bitOf (s.chCfg 0) 3 = true
      ∧ (s.ch 0).idleAt + 2000000 ≤ 3000000 ∧ 1999999 < (s.ch 0).idleAt + 2000000)
    ∧ ((999 : Int) < 1000 ∧ (4000 : Int) < 4001 ∧ (2500 : Int) - 2000 ≤ 500) := by
  decide +kernel

theorem witness_BoostOvervoltageTurnsRecoverIntoFreewheel :
    live.live = true ∧ (60000 ≤ 70000 ∧ live.obj 0x2810 1 * 1100 < 70000) ∧ (0 ≤ live.obj 0x2810 1 * 1100) := by
  decide +kernel

/-! ### Angle engine, limits, homing -/

/-- Wheel 0 of 36 - 2 positions, LOCKED at tooth 11 since 1 ms, T_ref 2 ms; event 0 on ANG_OUT3 at (11, 32). -/
def wheels : State :=
  ((((((live.setObj 0x2900 1 36).setObj 0x2900 2 2).setObj 0x2900 4 1).setObj 0x2910 1 (11 * 64 + 32)).setObj 0x2910 2 1).setObj
    0x2910 3 3).onWheel 0 (fun x => { x with sync := .locked, k := 11, last := some 1000000, tRef := 2000000 })

/-- The wheel at the last tooth before the gap. -/
def atGap : State := wheels.onWheel 0 (fun x => { x with k := 33 })

/-- The wheel with two teeth inferred. -/
def inferred : State := wheels.onWheel 0 (fun x => { x with interval := some (2, 0, 0, 9) })

theorem witness_WheelCountsTeethInLocked :
    (wheels.live = true ∧ wheels.wheelOn 0 = true ∧ (wheels.wheel 0).sync = .locked ∧ (wheels.wheel 0).last = some 1000000)
    ∧ 2 * 100 < (wheels.wheel 0).tRef
    ∧ ((wheels.wheel 0).tRef ≤ 2 * 2000000 ∧ 10 * 2000000 ≤ 16 * (wheels.wheel 0).tRef ∧ 11 + wheels.wheelM 0 + 1 < wheels.wheelN 0
      ∧ (wheels.wheel 0).interval = none)
    ∧ ((2 * 2 + 1) * (atGap.wheel 0).tRef ≤ 2 * 6000000 ∧ 10 * 6000000 ≤ 16 * (2 + 1) * (atGap.wheel 0).tRef
      ∧ (atGap.wheel 0).k + atGap.wheelM 0 + 1 = atGap.wheelN 0 ∧ (atGap.wheel 0).interval = none)
    ∧ (2000000 ≤ 2 * 2000000 ∧ 2 * 2000000 < (2 * 2 + 1) * 2000000 ∧ 36 ≤ 35 + 2 + 1 ∧ 36 - 1 < 35 + 1)
    ∧ (36 < 34 + 2 + 1)
    ∧ (10 * 1000000 + 16 * (wheels.wheel 0).tRef ≤ 10 * (1000000 + 3200000))
    ∧ (inferred.wheel 0).interval = some (2, 0, 0, 9) := by decide +kernel

theorem witness_AngleEventsFireOnceOrAreSuppressed :
    (wheels.eventArmed 0 = true ∧ (wheels.event 0).spent = false ∧ (wheels.wheel 0).sync = .locked
      ∧ 64 * (wheels.wheel 0).k ≤ wheels.obj 0x2910 1
      ∧ wheels.obj 0x2910 1 ≤ (wheels.wheel 0).positionAt (wheels.wheelN 0) (wheels.wheelM 0) 2500000
      ∧ (wheels.wheel 0).interval = none ∧ wheels.obj 0x2910 2 = 1 ∧ wheels.obj 0x2910 3 < 8)
    ∧ ((inferred.wheel 0).interval.isSome = true ∧ bitOf (inferred.obj 0x2910 4) 0 = false ∧ inferred.eventArmed 0 = true
      ∧ inferred.obj 0x2910 1 ≤ (inferred.wheel 0).positionAt (inferred.wheelN 0) (inferred.wheelM 0) 2500000)
    ∧ (live.eventArmed 0 = false)
    ∧ (wheels.plan.safe = false ∧ bitOf wheels.angle.angOut.toNat (wheels.obj 0x2910 3) = false)
    ∧ (vget wheels.angle.angEnd 3 0 ≤ 2500000)
    ∧ (let s : State := { wheels with angle := { wheels.angle with angEnd := wheels.angle.angEnd.set 3 4000000 } };
      2500000 < vget s.angle.angEnd 3 0) := by decide +kernel

/-- Limit inputs 3 (hard, both halt actions, active low) and 4 (soft), chatter 5 transitions in 10 ms. -/
def limits : State :=
  (((((live.setObj 0x2A03 1 0x1F).setObj 0x2A03 4 5).setObj 0x2A03 5 10).setObj 0x2A04 1 1).setObj 0x2A04 4 5).setObj 0x2A04 5 10

theorem witness_LimitInputsTripAndRelease :
    (limits.live = true ∧ (∀ a : Fin 8, (limits.axis a).moving = false) ∧ bitOf (limits.limitCfg 3) 0 = true
      ∧ (false != bitOf (limits.limitCfg 3) 1) = true ∧ (limits.limit 3).seen = false ∧ (limits.limit 3).tripped = false
      ∧ bitOf (limits.limitCfg 3) 2 = true ∧ (limits.limit 3).chatter = false ∧ (limits.limit 3).transitions.length + 1 < limits.obj 0x2A03 4)
    ∧ (bitOf (limits.limitCfg 4) 0 = true ∧ (true != bitOf (limits.limitCfg 4) 1) = !(limits.limit 4).seen
      ∧ bitOf (limits.limitCfg 4) 2 = false)
    ∧ (let s := limits.onLimit 3 (fun x => { x with transitions := [900, 800, 700, 600] })
      s.obj 0x2A03 4 ≤ ((s.limit 3).transitions.filter (fun u => 1000 ≤ u + s.obj 0x2A03 5 * 1000000)).length + 1)
    ∧ (let s := limits.onLimit 3 (fun x => { x with seenAt := some 0, chatter := true })
      (s.limit 3).seenAt = some 0 ∧ 0 + s.obj 0x2A03 3 * 100000 ≤ 500000000 ∧ (s.limit 3).chatter = true
        ∧ 0 + s.obj 0x2A03 5 * 1000000 ≤ 500000000)
    ∧ limits.warden .pf = true ∧ ((limits.limit 3).level = false ∧ (limits.limit 3).chatter = false) := by decide +kernel

/-- Axis 0 homes node 5 on input 4. -/
def axis : State := (limits.setObj 0x2A20 1 5).setObj 0x2A20 2 4

/-- Axis 0 in seek, with an edge of approach seen on the homed axis 1. -/
def seeking : State :=
  ((axis.setObj 0x2A21 1 6).onAxis 0 (fun h => { h with state := 1, frame := some (0, 100) })).onAxis 1
    (fun h => { h with state := 4, edgeAt := some 1000, frame := some (0, 100) })

theorem witness_HomingFollowsItsPhases :
    (axis.live = true ∧ axis.warden .pf = true ∧ axis.startRefused 0 = false ∧ axis.axisTaken 0 = false)
    ∧ (axis.axisNode 1 = 0)
    ∧ ((seeking.axis 0).moving = true ∧ (vget seeking.field.can 0 {}).state ≠ .asleep ∧ (seeking.axis 1).moving = false)
    ∧ (seeking.axisNode 0 ≠ 0 ∧ (seeking.axis 0).state = 1)
    ∧ (seeking.axisNode 1 ≠ 0 ∧ (seeking.axis 1).edgeAt = some 1000 ∧ (seeking.axis 1).frame = some (0, 100)
      ∧ (seeking.axis 1).state = 4)
    ∧ ((seeking.axis 0).frame = some (0, 100) ∧ 0 + 20000000 ≤ 30000000 ∧ (seeking.axis 0).since + 20000000 ≤ 30000000) := by
  decide +kernel

/-! ### Power and thermal -/

/-- Ten samples of 48.8 V at a divider of 25.00, stage 1 since 0. -/
def sagging : State :=
  let s := (live.setObj 0x2405 1 2500).setObj 0x2403 0 2000
  { s with power := { s.power with codes := List.replicate 10 3200, evaluated := true, stage := 1, aboveSince := some 0 } }

theorem witness_SupplyMovesTheShedStage :
    (live.live = true ∧ live.power.codes.length < 9) ∧ (sagging.live = true ∧ sagging.power.codes.length = 10)
    ∧ (sagging.power.aboveSince = some 0 ∧ 1 ≤ sagging.power.stage ∧ sagging.power.stage ≤ 4
      ∧ 0 + sagging.obj 0x2403 0 * 1000000 ≤ 3000000000 ∧ sagging.power.changedAt + sagging.obj 0x2403 0 * 1000000 ≤ 3000000000)
    ∧ 1000 < sagging.power.changedAt + sagging.obj 0x2403 0 * 1000000
    ∧ live.power.stage < 5 ∧ 5 ≤ (({ live with power := { stage := 5 } } : State)).power.stage := by decide +kernel

/-- The main domain is up, a plan's bell runs, a poll is due and a raise to 800 mV awaits its readback. -/
def powered : State :=
  { live with island := { live.island with state := .mainOn }, bell := { live.bell with state := .source },
              power := { live.power with pollBells := 100, raise := some 800 },
              boot := { live.boot with released := true } }

theorem witness_RailsFailAndVoltageIsReadBack :
    (powered.island.state = .mainOn ∧ powered.live = true) ∧ live.island.state ≠ .mainOn
    ∧ (powered.running = true ∧ 100 ≤ powered.power.pollBells)
    ∧ (powered.power.raise = some 800 ∧ 800 ≤ 790 + 15 ∧ 700 + 15 < 800 ∧ powered.plan.plan = none)
    ∧ live.power.raise = none := by decide +kernel

/-- Tile 5 reads 30 °C above its neighbours for the sixteenth time in a row. -/
def hotTile : State :=
  ({ powered with thermal := { powered.thermal with deviates := [(5, 15)] } }).onTile 5 (fun x => { x with mode := .active })

theorem witness_ThermalSensorsAndTrip :
    (hotTile.live = true ∧ hotTile.deviates 5 300 = true ∧ (assocGet 5 hotTile.thermal.deviates).getD 0 = 15
      ∧ hotTile.sensorFaulty 5 = false ∧ hotTile.running = true ∧ (hotTile.tile 5).mode = .active ∧ hotTile.live = true)
    ∧ hotTile.sensorFaulty 260 = false ∧ hotTile.boot.released = true
    ∧ hotTile.reading hotTile.hottest < 950
    ∧ (let s : State := { live with thermal := { live.thermal with reading := Vector.replicate 264 960 } }
      950 ≤ s.reading s.hottest) := by decide +kernel

/-- The flow has been low since 0, and it is 3 s. -/
def dry : State := { live with thermal := { live.thermal with lowSince := some 0 }, now := 3000000000 }

theorem witness_CoolantFlowIsMeasuredAndItsLossPosted :
    (live.live = true ∧ live.thermal.noFlow = false ∧ live.thermal.inlet.isSome = true)
    ∧ (dry.live = true ∧ dry.thermal.lowSince = some 0 ∧ 0 + 2000000000 ≤ dry.now ∧ dry.thermal.noFlow = false
      ∧ dry.plan.plan = none)
    ∧ (({ dry with thermal := { dry.thermal with noFlow := true } } : State)).thermal.noFlow = true := by decide +kernel

/-! ### Chrysalis domain -/

def waking (rails attempts : Nat) (waiting ref : Bool) : State :=
  { State.reset with island := { State.reset.island with rails := rails, attempts := attempts, waiting := waiting, refEnabled := ref } }

def inState (i : IslandState) (held : Option Nat) : State :=
  { State.reset with island := { State.reset.island with state := i, rails := 0, heldWake := held, railRetry := true } }

theorem witness_WakeSequenceBringsUpTheMainDomain :
    (let s := waking 3 1 false false;
      s.island.supplied = true ∧ s.island.state = .waking ∧ s.island.waiting = false ∧ s.island.refEnabled = false)
    ∧ (let s := waking 6 1 false true;
      s.island.refEnabled = true ∧ s.island.rails = 6 ∧ s.island.state = .waking ∧ s.island.waiting = false)
    ∧ ((waking 3 1 true false).island.waiting = true ∧ (waking 3 1 true false).island.attempts < 3)
    ∧ 3 ≤ (waking 3 3 true false).island.attempts
    ∧ ((inState .poweringDown none).island.state = .poweringDown ∧ (inState .poweringDown none).island.rails = 0
      ∧ (inState .poweringDown none).island.heldWake = none ∧ (inState .poweringDown (some 3)).island.heldWake = some 3)
    ∧ (let s := (inState .chrysalis none).setObj 0x2B00 4 0x7F;
      bitOf (s.obj 0x2B00 4) (3 + (1 : Fin 4)) = true ∧ s.island.state = .chrysalis ∧ s.island.railRetry = true)
    ∧ bitOf ((inState .chrysalis none).obj 0x2B00 4) (3 + (1 : Fin 4)) = false
    ∧ (arming.live = true ∧ arming.field.sleep = .arming ∧ arming.field.pnrAt ≤ 5000000)
    ∧ (let s := ((waking 3 1 false false).setObj 0x2B00 4 0x7F).onIsland (fun i => { i with wakeAt := some 1000, lastWake := 6 });
      s.island.wakeAt = some 1000 ∧ s.island.state = .waking ∧ bitOf (s.obj 0x2B00 4) (3 + (1 : Fin 4)) = true ∧ 31000 ≤ 1000 + 30517)
    ∧ (waking 3 1 false false).island.wakeAt = none
    ∧ (let s := (powered.setObj 0x2B00 4 0x7F); s.island.state = .mainOn ∧ s.live = true ∧ bitOf (s.obj 0x2B00 4) (3 + (1 : Fin 4)) = true) := by
  decide +kernel

theorem witness_StoreAndSuppliesFollowTheirLimits :
    (live.island.supplied = true ∧ live.island.cutOff = false ∧ live.island.ocOpen = false ∧ live.island.onAux = false
      ∧ live.live = true ∧ live.warden .pf = true ∧ live.island.storeClosed = true)
    ∧ State.reset.live = false ∧ ({ live.island with onAux := true }).onAux = true
    ∧ (3300 ≤ 3800 ∧ 3700 ≤ 4500) := by decide +kernel

theorem witness_CalendarCarriesByTableChry5 :
    (let c : Calendar := { year := 100, month := 2, day := 28, hours := 23, minutes := 59, seconds := 59 };
      c.year ≤ 399 ∧ c.month ≤ 15 ∧ c.weekday ≤ 7 ∧ c.day ≤ 31 ∧ c.hours ≤ 31 ∧ c.minutes ≤ 63 ∧ c.seconds ≤ 63
        ∧ ¬ ((2000 + c.year) % 4 = 0 ∧ ((2000 + c.year) % 100 ≠ 0 ∨ (2000 + c.year) % 400 = 0)) ∧ 28 ≤ c.day)
    ∧ (let c : Calendar := { year := 399, month := 12, day := 31, hours := 23, minutes := 59, seconds := 59 };
      c.year = 399 ∧ 12 ≤ c.month ∧ 31 ≤ c.day) := by decide +kernel

/-- The alarm of the worked example of 18: every day at 06:00:00; the calendar stands one carry before it. -/
def beforeAlarm : State :=
  let s := (live.setObj 0x2B11 1 0xF000000030000000).setObj 0x2B11 3 1
  s.onIsland (fun i => { i with calendar := { i.calendar with hours := 5, minutes := 59, seconds := 59 }, shadow := some {} })

/-- The main domain is up. -/
def powered' : State := { live with island := { live.island with state := .mainOn } }

theorem witness_CalendarWindowAndStatus :
    (beforeAlarm.island.supplied = true ∧ beforeAlarm.obj 0x2B11 3 = 1
      ∧ alarmMatch (carrySub beforeAlarm.island.calendar) (beforeAlarm.obj 0x2B11 1) = true
      ∧ bitOf (beforeAlarm.obj 0x2B00 4) 0 = true ∧ beforeAlarm.obj 0x2B12 0 = 0 ∧ beforeAlarm.island.shadow = some {})
    ∧ (live.obj 0x2B11 3 = 0 ∧ (live.setObj 0x2B12 0 1).obj 0x2B12 0 = 1)
    ∧ (powered'.island.state = .mainOn ∧ powered'.island.locked = false ∧ powered'.live = true ∧ powered'.warden .pf = true)
    ∧ (bitsOf 0x001803C9B0000000 48 9 ≤ 399 ∧ bitsOf 0x001803C9B0000000 57 7 = 0 ∧ bitsOf 0x001803C9B0000000 44 4 = 0
      ∧ (unpackCalendar 0x001803C9B0000000).invalid = 0)
    ∧ (unpackCalendar (24 * 2 ^ 48 + 2 * 2 ^ 40 + 30 * 2 ^ 32)).invalid = 8
    ∧ 399 < bitsOf (400 * 2 ^ 48) 48 9 := by decide +kernel

/-! ### Cicada radio -/

/-- The radio of the picker of 19's worked example, as the last slot boundary left it. -/
def radioUp (f : Radio → Radio) : State :=
  let s := ((live.setObj 0x2C00 1 1).setObj 0x2C00 2 0x4B21).setObj 0x2C00 3 0x12
  s.onRadio (fun r => f { r with key := some 7, region := 1, panId := 0x4B21, address := 0x12, channel := 105 })

/-- The fault beacon is due in WAKE_FAILED. -/
def failedWake : State := ((radioUp id).setObj 0x2C00 7 1).onIsland (fun i => { i with state := .wakeFailed })

theorem witness_RadioSlotsBeaconsAndDwell :
    (let s := radioUp (fun r => { r with rx := true });
      s.island.supplied = true ∧ s.radio.chrysalisBeacon = false ∧ s.radio.faultBeacon = false ∧ s.radio.rx = true
        ∧ s.radio.crossed = false ∧ s.radio.beaconWaits = [])
    ∧ ((radioUp id).radio.rx = false ∧ ({ radioUp id with now := 0 } : State).calendarMs % (radioUp id).obj 0x2C00 5 = 0
      ∧ (radioUp id).radio.ackDue = none ∧ (radioUp id).radio.beaconDue = [])
    ∧ (let s := radioUp (fun r => { r with rx := true, crossed := true }); s.radio.crossed = true ∧ s.radio.rx = true)
    ∧ (let s := radioUp (fun r => { r with ackDue := some 105, record := [(1000, 256 + 105, 398)] });
      s.radio.ackDue = some 105 ∧ s.radio.region = 1 ∧ 400 < (s.radio.record.map (fun (e : Nat × Nat × Nat) =>
        if e.2.1 = 256 + 105 then min e.2.2 (e.1 - (0 + 3 - 20000)) else 0)).sum + 3)
    ∧ (let s := radioUp (fun r => { r with beaconDue := [0xB0] });
      s.radio.beaconDue = [0xB0] ∧ s.radio.counter ≠ 0xFFFFFFFF ∧ s.radio.running = true ∧ s.radio.record = [])
    ∧ (let s := radioUp (fun r => { r with beaconDue := [0xB0], counter := 0xFFFFFFFF, rx := true });
      s.radio.rx = true ∧ s.radio.counter = 0xFFFFFFFF)
    ∧ (failedWake.island.state = .wakeFailed ∧ failedWake.obj 0x2C00 7 = 1 ∧ failedWake.radio.running = true)
    ∧ (radioUp id).island.state ≠ .wakeFailed := by decide +kernel

/-- A halt request to every device, timestamped with the second 0 of the calendar. -/
def haltFrame : RadioFrame :=
  { fcsOk := true, isData := true, version1 := true, panId := 0x4B21, dest := 0xFFFF, panCompressed := true, source := 0xABCD,
    secLevel := 6, keyMode := 0, counter := 5, micOk := true, ackReq := false, payload := [2, 0, 0, 0, 0, 9], rssi := 0xB0 }

theorem witness_RadioRequestsActAndKeysReset :
    (let s := radioUp (fun r => { r with rx := true });
      s.island.supplied = true ∧ s.radio.rx = true ∧ s.radio.running = true ∧ haltFrame.panId.toNat = s.radio.panId
        ∧ replayOf haltFrame.source s.radio.replay = none ∧ haltFrame.payload.head? = some 2 ∧ haltFrame.payload.length = 6
        ∧ leNat ((haltFrame.payload.drop 1).take 4) ≤ ({ s with now := 0 } : State).calendarNow.totalSeconds + 60
        ∧ ({ s with now := 0 } : State).calendarNow.totalSeconds ≤ leNat ((haltFrame.payload.drop 1).take 4) + 60)
    ∧ replayOf 0xABCD (radioUp (fun r => { r with replay := [(0xABCD, 5)] })).radio.replay = some 5
    ∧ ((radioUp id).live = true ∧ (radioUp id).warden .pf = true ∧ (radioUp id).island.locked = false
      ∧ (radioUp id).warden (.vf 3) = false)
    ∧ ((radioUp id).onIsland (fun i => { i with locked := true })).island.locked = true
    ∧ live.radio.running = false
    ∧ (failedWake.radio.running = true ∧ bitOf ((failedWake.setObj 0x2B00 4 2).obj 0x2B00 4) 1 = true) := by decide +kernel

/-! ### Startup -/

/-- Flash bytes from address `a` on. -/
def flashBytes (a : Nat) (bs : List Byte) : List Host.Cell := bs.zipIdx.map (fun x => (a + x.2, x.1))

/-- The boot ROM starts with these flash bytes. -/
def romWith (fl : List Host.Cell) : State :=
  let s : State := { State.reset with boot := { phase := .rom, released := true } }
  { s with board := { s.board with flash := fl, silicon := 1, fwKeys := vmod s.board.fwKeys 1 (fun _ => { programmed := true }) } }

/-- A descriptor that prefers image B and autoloads. -/
def descriptorB : List Byte :=
  let body := toLE 4 0x44464B4A ++ toLE 2 1 ++ [1, 1] ++ toLE 4 0x1000 ++ toLE 4 0x2000 ++ List.replicate 236 0
  body ++ toLE 4 (crc32 body)

/-- The smallest image A: header and signature block, key slot 1. -/
def imageA : List Host.Cell :=
  flashBytes 0x100000 (toLE 4 0x4D444B4A ++ toLE 2 1 ++ toLE 2 64 ++ toLE 4 208 ++ toLE 4 5 ++ toLE 4 2 ++ toLE 4 0x2560 ++ toLE 2 1)
  ++ flashBytes (0x100000 + 64) (toLE 4 0x31474953 ++ [1, 1, 0, 0] ++ toLE 4 64)

theorem witness_BootRomSelectsAnImage :
    (let s := romWith (flashBytes 0 descriptorB);
      s.boot.phase = .rom ∧ s.boot.released = true ∧ u32 (s.flashRead 0x100000 64) 0 ≠ 0x4D444B4A
      ∧ u32 (s.flashRead 0x1100000 64) 0 ≠ 0x4D444B4A
      ∧ (let d := s.flashRead 0 256;
        u32 d 0 = 0x44464B4A ∧ u16 d 4 = 1 ∧ u32 d 0xFC = crc32 (d.take 0xFC) ∧ u8 d 6 = 1))
    ∧ u32 ((romWith []).flashRead 0 256) 0 ≠ 0x44464B4A
    ∧ (let s := romWith imageA;
      u32 (s.flashRead 0 256) 0 ≠ 0x44464B4A ∧ u32 (s.flashRead 0x1100000 64) 0 ≠ 0x4D444B4A
      ∧ (let h := s.flashRead 0x100000 64;
        u32 h 0 = 0x4D444B4A ∧ u16 h 4 = 1 ∧ u16 h 6 = 64 ∧ u32 h 8 = 208 ∧ u32 h 0x14 = 0x2560
        ∧ u16 h 0x18 ≤ s.board.silicon.toNat)
      ∧ (let blk := s.flashRead (0x100000 + 64) 144;
        u32 blk 0 = 0x31474953 ∧ u32 blk 8 = 64 ∧ u8 blk 4 = 1 ∧ (vget s.board.fwKeys 1 {}).programmed = true
        ∧ (vget s.board.fwKeys 1 {}).revoked = false)
      ∧ (vget s.board.fwKeys 0 {}).programmed = false) := by decide +kernel

/-- Recovery with the window's offset. -/
def recovering (off : U32) : State :=
  let s := romWith imageA
  { s with boot := { s.boot with phase := .recovery, recOffset := off, recData := 0x12345678 } }

theorem witness_RecoveryWindowCommands :
    State.reset.boot.phase ≠ .recovery ∧ (recovering 0x100000).boot.phase = .recovery
    ∧ (0x100000 % 4 = 0 ∧ 0x100000 + 4 ≤ (recovering 0x100000).board.flashBytes) ∧ (recovering 2).boot.recOffset.toNat % 4 ≠ 0
    ∧ (vget (recovering 9).board.fwKeys ((recovering 9).boot.recOffset.toNat % 8) {}).programmed = true
    ∧ (vget (recovering 8).board.fwKeys ((recovering 8).boot.recOffset.toNat % 8) {}).programmed = false
    ∧ 4 ≤ (recovering 5).boot.recOffset.toNat % 8 := by decide +kernel

/-- DMF starts; `record` fills the backup bytes 0x28 to 0x3F. -/
def starting (record : List Byte) : State :=
  ({ State.reset with boot := { phase := .starting } } : State).writeBackup 0x28 record

theorem witness_DmfStartsAndTrainsMemory :
    (let s := starting (List.replicate 16 0 ++ List.replicate 8 0xFF);
      s.boot.phase = .starting ∧ octets (s.obj 0x2B20 0) 0x38 8 = 2 ^ 64 - 1 ∧ octet (s.obj 0x2B20 0) 0x2B = 0
      ∧ s.field.wakeAfterPnr = none ∧ s.island.crystalFaultLog = false ∧ s.island.cutoffLatch = false
      ∧ s.island.lowWarningLog = false ∧ s.radio.refusals = s.radio.refusalsDown ∧ s.boot.outcomes = []
      ∧ s.bell.state = .stopped)
    ∧ (let s := starting (List.replicate 8 0 ++ [6] ++ List.replicate 15 0);
      octets (s.obj 0x2B20 0) 0x38 8 ≠ 2 ^ 64 - 1 ∧ octet (s.obj 0x2B20 0) 0x30 = 6)
    ∧ (live.live = true ∧ live.boot.lp5xOk = false ∧ live.boot.lp5xFailed = false ∧ live.boot.autoload = false
      ∧ live.role = .standalone)
    ∧ (({ live with role := .bellwether } : State)).role = .bellwether
    ∧ (({ live with boot := { live.boot with autoload := true } } : State)).boot.autoload = true
    ∧ (({ live with boot := { live.boot with lp5xOk := true } } : State)).boot.lp5xOk = true
    ∧ live.boot.phase ≠ .starting
    ∧ (let s := starting (List.replicate 24 0);
      s.boot.straps = none ∧ (5 : TileNo) ∈ [5] ∧ (s.tile 5).mode = .gatedOff ∧ (6 : TileNo) ∉ [(5 : TileNo)] ∧ s.boot.straps.getD 3 = 3)
    ∧ (let s := starting (List.replicate 24 0); let t : State := { s with boot := { s.boot with straps := some 1 } };
      t.boot.phase = .starting ∧ t.boot.straps.isSome = true ∧ t.boot.straps.getD 2 = 1) := by decide +kernel

end Sys2Proof.Tests
end

section
namespace Sys2Proof.Machine

/-! ## Reset -/

/-- At reset no object has been written: each reads as its default for node-ID 64. -/
theorem reset_obj (idx sub : Nat) : State.reset.obj idx sub = odDefault 64 idx sub := rfl

theorem reset_objW (idx sub : Nat) : State.reset.objW idx sub = odDefault 64 idx sub := rfl

/-- Outside the COB-IDs an object's default is that of its row (Tables OD-4 to OD-11). -/
theorem odDefault_of_row {node idx sub : Nat} {r : OdRow} (hr : odRow? idx sub = some r)
    (hc : ¬ (idx = 0x1014 ∨ (sub = 1 ∧ (0x1400 ≤ idx ∧ idx ≤ 0x141F ∨ 0x1800 ≤ idx ∧ idx ≤ 0x181F)))) :
    odDefault node idx sub = r.dflt := by
  have h1 : idx ≠ 0x1014 := fun h => hc (.inl h)
  have h2 : ¬ (0x1400 ≤ idx ∧ idx ≤ 0x141F ∧ sub = 1) := fun h => hc (.inr ⟨h.2.2, .inl ⟨h.1, h.2.1⟩⟩)
  have h3 : ¬ (0x1800 ≤ idx ∧ idx ≤ 0x181F ∧ sub = 1) := fun h => hc (.inr ⟨h.2.2, .inr ⟨h.1, h.2.1⟩⟩)
  rw [odDefault, if_neg h1, if_neg h2, if_neg h3, hr]
  rfl

/-- Every memory is empty at reset, and an empty memory is in canonical form. -/
theorem reset_memoryOk : State.reset.MemoryOk := by
  refine ⟨wf_empty _, wf_empty _, fun k => ?_⟩
  have : State.reset.tiles[k] = {} := by simp [State.reset]
  rw [this]
  exact wf_empty _

/-- RPDO and TPDO identifiers of the first four PDOs follow the node-ID. -/
theorem odDefault_pdo_low (node : Nat) (k : Fin 4) :
    odDefault node (0x1400 + k) 1 = 0x200 + 0x100 * k + node ∧ odDefault node (0x1800 + k) 1 = 0x180 + 0x100 * k + node := by
  have hk := k.isLt
  constructor
  · rw [odDefault, if_neg (by omega), if_pos (by omega), if_pos (by omega), Nat.add_sub_cancel_left]
  · rw [odDefault, if_neg (by omega), if_neg (by omega), if_pos (by omega), if_pos (by omega), Nat.add_sub_cancel_left]

/-- The others are not valid until they are written. -/
theorem odDefault_pdo_high (node : Nat) {k : Nat} (hk : k < 28) :
    odDefault node (0x1404 + k) 1 = 0x80000000 ∧ odDefault node (0x1804 + k) 1 = 0x80000000 := by
  constructor
  · rw [odDefault, if_neg (by omega), if_pos (by omega), if_neg (by omega)]
  · rw [odDefault, if_neg (by omega), if_neg (by omega), if_pos (by omega), if_neg (by omega)]

/-- Settles O2: `State.reset` lists nothing, so its fields are the defaults of its structures, and each object reads as its row. -/
theorem resetHoldsTheInvariant : Obligations.ResetHoldsTheInvariant := by
  refine ⟨rfl, reset_memoryOk, rfl, rfl, rfl, rfl, rfl, rfl, rfl, rfl, rfl, ?_, rfl, rfl, ?_, ?_, ?_⟩
  · intro idx sub r hr hc
    exact ⟨(reset_obj idx sub).trans (odDefault_of_row hr hc), (reset_objW idx sub).trans (odDefault_of_row hr hc)⟩
  · exact odDefault_pdo_low 64
  · intro k hk
    exact odDefault_pdo_high 64 hk
  · decide +kernel

end Sys2Proof.Machine
end

section
namespace Sys2Proof.Machine

/-- A fold of steps that each keep a reading of the state keeps it. -/
theorem foldl_view {α β : Type} {v : State → β} {f : State → α → State} (h : ∀ s a, v (f s a) = v s) (l : List α) (s : State) :
    v (l.foldl f s) = v s :=
  List.foldlRecOn (motive := fun t => v t = v s) l f rfl (fun t ht a _ => (h t a).trans ht)

/-- A reading that both branches of a choice keep is kept by the choice. -/
theorem ite_view {β : Type} {v : State → β} {x : β} {c : Prop} [Decidable c] {a b : State} (ha : v a = x) (hb : v b = x) :
    v (if c then a else b) = x := by
  split
  · exact ha
  · exact hb

/-- The state behind the sinks: without outputs, free values, host ports, field network, mandibles, angle engine, the mark of the safe
state and the demand word sent. -/
def State.behindSinks (s : State) : State :=
  { s with out := [], fresh := 0, host := {}, field := {}, mandible := {}, angle := {},
           plan := { s.plan with safe := false, sentWord := 0 } }

section
variable (s : State)

@[simp] theorem emit_behindSinks (o : Output) : (s.emit o).behindSinks = s.behindSinks := rfl
@[simp] theorem onCh_behindSinks (c : Nat) (f : Channel → Channel) : (s.onCh c f).behindSinks = s.behindSinks := rfl
@[simp] theorem onRpdo_behindSinks (n : Nat) (f : Rpdo → Rpdo) : (s.onRpdo n f).behindSinks = s.behindSinks := rfl

@[simp] theorem queueService_behindSinks (b : Nat) (f : TxFrame) : (s.queueService b f).behindSinks = s.behindSinks := by
  rw [queueService_frame]; rfl

/-! Mandible channels (14) -/

@[simp] theorem closeDrive_behindSinks (c : Nat) (d : Drive) : (s.closeDrive c d).behindSinks = s.behindSinks := rfl
@[simp] theorem beginDecay_behindSinks (c : Nat) (p : Phase) (t : Rat) : (s.beginDecay c p t).behindSinks = s.behindSinks := rfl
@[simp] theorem mixDecay_behindSinks (c : Nat) (p : Phase) (t : Rat) : (s.mixDecay c p t).behindSinks = s.behindSinks := rfl
@[simp] theorem idleOpen_behindSinks (c : Nat) : (s.idleOpen c).behindSinks = s.behindSinks := rfl

@[simp] theorem turnTo_behindSinks (c k : Nat) : (s.turnTo c k).behindSinks = s.behindSinks := ite_view rfl rfl

@[simp] theorem regulate_behindSinks (c : Nat) (p : Phase) : (s.regulate c p).behindSinks = s.behindSinks :=
  ite_view (closeDrive_behindSinks s c _)
    (ite_view (ite_view (beginDecay_behindSinks s c p _) (ite_view (mixDecay_behindSinks s c p _) rfl))
      (ite_view (mixDecay_behindSinks s c p _) rfl))

@[simp] theorem beginPhase_behindSinks (c r : Nat) : (s.beginPhase c r).behindSinks = s.behindSinks := by
  unfold State.beginPhase
  extract_lets p s1
  have h1 : s1.behindSinks = s.behindSinks := turnTo_behindSinks s c p.kind
  clear_value s1
  exact (ite_view (closeDrive_behindSinks s1 c _) (ite_view (beginDecay_behindSinks s1 c p 0)
    (ite_view (regulate_behindSinks (s1.onCh c _) c p) (regulate_behindSinks s1 c p)))).trans h1

@[simp] theorem channelStart_behindSinks (c : Nat) : (s.channelStart c).behindSinks = s.behindSinks :=
  ite_view (beginPhase_behindSinks (s.onCh c _) c 0) (idleOpen_behindSinks (s.onCh c _) c)

@[simp] theorem enterSafe_behindSinks (c : Nat) : (s.enterSafe c).behindSinks = s.behindSinks := by
  unfold State.enterSafe
  split
  · rfl
  · extract_lets x t d idle
    have ht : t.behindSinks = s.behindSinks := onCh_behindSinks s c _
    have hidle : idle.behindSinks = s.behindSinks := by
      simp only [idle]; split <;> exact ht
    split
    · exact ht
    · split
      · split
        · split
          · exact (beginPhase_behindSinks t c _).trans ht
          · exact ht
        · exact hidle
      · split
        · split
          · rename_i r _ _
            exact (regulate_behindSinks _ c _).trans ((turnTo_behindSinks t c 3).trans ht)
          · exact hidle
          · exact hidle
        · exact hidle

@[simp] theorem mandiblesSafe_behindSinks : s.mandiblesSafe.behindSinks = s.behindSinks := foldl_view enterSafe_behindSinks _ _
@[simp] theorem mandiblesOpen_behindSinks : s.mandiblesOpen.behindSinks = s.behindSinks := foldl_view idleOpen_behindSinks _ _

@[simp] theorem fireStart_behindSinks (c : Nat) : (s.fireStart c).behindSinks = s.behindSinks :=
  ite_view rfl (channelStart_behindSinks s c)

/-! Camera triggers, TPDOs, homing and angle events (11, 12, 15) -/

@[simp] theorem camerasInactive_behindSinks : s.camerasInactive.behindSinks = s.behindSinks := rfl

@[simp] theorem camPulse_behindSinks (c : Nat) : (s.camPulse c).behindSinks = s.behindSinks := ite_view rfl rfl

@[simp] theorem abortBound_behindSinks : s.abortBound.behindSinks = s.behindSinks := rfl

@[simp] theorem sendBound_behindSinks (n : Nat) (data : List Byte) (cause : Nat) :
    (s.sendBound n data cause).behindSinks = s.behindSinks := ite_view rfl rfl

@[simp] theorem setSafe_behindSinks (b : Bool) : ({ s with plan := { s.plan with safe := b } } : State).behindSinks = s.behindSinks := rfl

@[simp] theorem muteTpdos_behindSinks (b : Bool) :
    ({ s with field := { s.field with tpdoMuted := b } } : State).behindSinks = s.behindSinks := rfl

@[simp] theorem tpdoSafe_behindSinks : s.tpdoSafe.behindSinks = s.behindSinks :=
  (muteTpdos_behindSinks _ true).trans
    ((foldl_view (fun t n => ite_view (sendBound_behindSinks t n _ 1) rfl) _ _).trans (abortBound_behindSinks s))

@[simp] theorem safeEntry_behindSinks : s.safeEntry.behindSinks = s.behindSinks := by
  unfold State.safeEntry
  split
  · rfl
  · exact (setSafe_behindSinks _ true).trans
      ((camerasInactive_behindSinks _).trans ((tpdoSafe_behindSinks _).trans (mandiblesSafe_behindSinks s)))

@[simp] theorem safeLeave_behindSinks : s.safeLeave.behindSinks = s.behindSinks := rfl

@[simp] theorem homingStop_behindSinks (a code : Nat) : (s.homingStop a code).behindSinks = s.behindSinks := rfl

@[simp] theorem homingTier_behindSinks : s.homingTier.behindSinks = s.behindSinks :=
  foldl_view (fun t a => ite_view (homingStop_behindSinks t a 7) rfl) _ _

@[simp] theorem disarmUnbound_behindSinks (b : Bool) : (s.disarmUnbound b).behindSinks = s.behindSinks :=
  foldl_view (fun t a => by split <;> rfl) _ _

@[simp] theorem sinkStale_behindSinks (b : Binding) : (s.sinkStale b).behindSinks = s.behindSinks :=
  ite_view rfl (ite_view rfl (ite_view rfl rfl))

@[simp] theorem emptyBackBuffers_behindSinks (p : Nat) : (s.emptyBackBuffers p).behindSinks = s.behindSinks :=
  foldl_view (fun t a => by split <;> rfl) _ _

/-! What goes out at a bell (10, 12) -/

@[simp] theorem markersOn_behindSinks (m : Marker) (except : Option PortNo) : (s.markersOn m except).behindSinks = s.behindSinks :=
  foldl_view (fun t a => by split <;> rfl) _ _

@[simp] theorem sendMarkers_behindSinks : s.sendMarkers.behindSinks = s.behindSinks :=
  ite_view (markersOn_behindSinks s _ _) (ite_view (markersOn_behindSinks s _ _) rfl)

@[simp] theorem sendDemand_behindSinks : s.sendDemand.behindSinks = s.behindSinks := by
  unfold State.sendDemand
  split
  · extract_lets w _ s1
    split
    · exact ite_view rfl rfl
    · rfl
  · rfl

@[simp] theorem refreshDemand_behindSinks : s.refreshDemand.behindSinks = s.behindSinks :=
  ite_view (sendDemand_behindSinks s) rfl

@[simp] theorem tpdoEvent_behindSinks (n : Nat) (bs : List Byte) : (s.tpdoEvent n bs).behindSinks = s.behindSinks :=
  ite_view rfl rfl

@[simp] theorem eventTpdo_behindSinks (n : Nat) : (s.eventTpdo n).behindSinks = s.behindSinks := by
  unfold State.eventTpdo
  split
  · rfl
  · split
    · rfl
    · split <;> simp

@[simp] theorem eventTpdos_behindSinks : s.eventTpdos.behindSinks = s.behindSinks := foldl_view eventTpdo_behindSinks _ _

@[simp] theorem syncTpdo_behindSinks (counter n : Nat) : (s.syncTpdo counter n).behindSinks = s.behindSinks := by
  unfold State.syncTpdo
  extract_lets k start seen t
  split
  · rfl
  · split
    · split
      · split <;> rfl
      · rfl
    · split
      · rfl
      · split
        · rfl
        · split <;> rfl

@[simp] theorem syncTpdos_behindSinks (on : Nat → Bool) (counter : Nat) : (s.syncTpdos on counter).behindSinks = s.behindSinks :=
  foldl_view (fun t n => ite_view (syncTpdo_behindSinks t counter n) rfl) _ _

end
end Sys2Proof.Machine
end

section
namespace Sys2Proof.Machine

/-! ## Cold reset -/

/-- What a cold reset takes over from the state before it (R414, Table BOOT-6). -/
def State.survivors (s : State) : State :=
  { State.reset with pending := s.pending, now := s.now, fresh := s.fresh, board := s.board, island := s.island }

theorem emitBlock_survivors (s : State) (o : Output) : (s.emitBlock o).survivors = s.survivors := rfl

/-- The last words to the neighbours touch the outputs and the ports alone. -/
theorem peerReset_survivors (s : State) : s.peerReset.survivors = s.survivors := by
  unfold State.peerReset
  extract_lets x
  have hx : x.survivors = s.survivors := by
    refine foldl_view (v := State.survivors) (fun t p => ?_) _ s
    split
    · exact emitBlock_survivors t _
    · rfl
  clear_value x
  exact hx

/-- Two states with the same survivors differ after a cold reset in their outputs at most. -/
theorem coldReset_of_survivors {s x : State} (h : x.survivors = s.survivors) (aux : Bool) :
    x.coldReset aux = { s.coldReset aux with out := x.out } := by
  have hp : x.pending = s.pending := (congrArg State.pending h :)
  have hn : x.now = s.now := (congrArg State.now h :)
  have hf : x.fresh = s.fresh := (congrArg State.fresh h :)
  have hb : x.board = s.board := (congrArg State.board h :)
  have hi : x.island = s.island := (congrArg State.island h :)
  unfold State.coldReset
  rw [hp, hn, hf, hb, hi]

/-- The state that a cold reset begins from: the reports of peer reset sent where the main domain runs. -/
def State.farewell (s : State) : State := if s.live then s.peerReset else s

theorem farewell_survivors (s : State) : s.farewell.survivors = s.survivors := by
  unfold State.farewell
  split
  · exact peerReset_survivors s
  · rfl

/-- COLD_RESET answers the reset state with the survivors; the reports of peer reset are its outputs (R245). -/
theorem exec_coldReset (s : State) (aux : Bool) :
    exec (.coldReset aux) s
      = .next { s.coldReset aux with out := ({ s with out := [], events := [] } : State).farewell.out } := by
  have h : ({ s with out := [], events := [] } : State).farewell.survivors = s.survivors := farewell_survivors _
  change Host.Outcome.next { (({ s with out := [], events := [] } : State).farewell.coldReset aux).settle with pending := s.pending } = _
  rw [coldReset_of_survivors h, settle_none _ rfl]
  rfl

/-- A tile the repair map names is out of service after a cold reset, any other is off. -/
theorem coldReset_tile_mode (s : State) (aux : Bool) (k : Fin 256) :
    ((s.coldReset aux).tile k).mode = if s.board.repair.getLsbD k then .outOfService else .gatedOff := by
  have h : (s.coldReset aux).tile k = if s.board.repair.getLsbD k then { mode := .outOfService } else {} := by
    simp [State.tile, State.coldReset, resetTiles, vget]
  rw [h]
  split <;> rfl

/-- Settles O52: apart from the survivors and the tiles a cold reset is the reset state. -/
theorem coldResetLeavesDefaults : Obligations.ColdResetLeavesDefaults := by
  intro s
  exact ⟨⟨_, exec_coldReset s true, rfl, rfl, rfl, rfl, rfl, rfl, rfl, rfl, rfl, rfl, rfl, rfl, rfl, rfl, rfl, rfl, rfl, rfl, rfl,
      rfl, rfl, rfl, rfl, rfl, rfl, coldReset_tile_mode s true⟩,
    ⟨_, exec_coldReset s false, rfl, rfl, rfl, rfl⟩⟩

end Sys2Proof.Machine
end

section
namespace Sys2Proof.Machine

/-! ## What a part of the bell may do -/

/-- What a bell does to a partition's record once the tick that ended is counted: the counts and marks stay, but that a switch or a reset
clears the overruns, and a reset the marks. -/
structure PartTick (x y : PartState) : Prop where
  completed : y.completed = x.completed
  overruns : y.overruns = x.overruns ∨ y.overruns = 0
  marks : x.resetRequest = false → x.resetting = false →
    y.overrun = x.overrun ∧ y.failed = x.failed ∧ y.prevBad = x.prevBad ∧ y.resetRequest = false ∧ y.resetting = false

theorem PartTick.refl (x : PartState) : PartTick x x := ⟨rfl, .inl rfl, fun h g => ⟨rfl, rfl, rfl, h, g⟩⟩

theorem PartTick.trans {x y z : PartState} (h : PartTick x y) (g : PartTick y z) : PartTick x z where
  completed := g.completed.trans h.completed
  overruns := g.overruns.elim (fun e => e ▸ h.overruns) .inr
  marks hr hx := by
    obtain ⟨h1, h2, h3, h4, h5⟩ := h.marks hr hx
    obtain ⟨g1, g2, g3, g4, g5⟩ := g.marks h4 h5
    exact ⟨g1.trans h1, g2.trans h2, g3.trans h3, g4, g5⟩

/-- A part of the bell keeps a reading `v` of the state, drops no event, and leaves the partitions' records of the ended tick. -/
structure Keeps {α : Type} (v : State → α) (s t : State) : Prop where
  frame : v t = v s
  events : s.events ⊆ t.events
  parts : ∀ q : Fin 32, PartTick (vget s.parts q {}) (vget t.parts q {})

namespace Keeps
variable {α : Type} {v : State → α} {s t u : State}

theorem of_frame (hf : v t = v s) (he : t.events = s.events) (hp : t.parts = s.parts) : Keeps v s t :=
  ⟨hf, fun _ h => he ▸ h, fun _ => hp ▸ .refl _⟩

theorem refl (s : State) : Keeps v s s := of_frame rfl rfl rfl

theorem trans (h : Keeps v s t) (g : Keeps v t u) : Keeps v s u :=
  ⟨g.frame.trans h.frame, List.Subset.trans h.events g.events, fun q => (h.parts q).trans (g.parts q)⟩

theorem foldl {β : Type} {f : State → β → State} (h : ∀ s a, Keeps v s (f s a)) (l : List β) (s : State) : Keeps v s (l.foldl f s) :=
  List.foldlRecOn (motive := Keeps v s) l f (refl s) (fun t ht a _ => ht.trans (h t a))

theorem ite {c : Prop} [Decidable c] (h : Keeps v s t) (g : Keeps v s u) : Keeps v s (if c then t else u) := by
  split <;> assumption

/-- A coarser reading is kept too. -/
theorem mono {β : Type} {w : State → β} (hvw : v t = v s → w t = w s) (h : Keeps v s t) : Keeps w s t :=
  ⟨hvw h.frame, h.events, h.parts⟩

/-- An event is raised. -/
theorem raise (code source detail : Nat) (hv : ∀ es, v { s with events := es } = v s) : Keeps v s (s.raise code source detail) := by
  unfold State.raise
  split
  · exact ⟨hv _, List.subset_append_left _ _, fun _ => .refl _⟩
  · exact refl s

/-- One partition's record changes. -/
theorem onPart {p : Nat} {f : PartState → PartState} (h : PartTick (vget s.parts p {}) (f (vget s.parts p {})))
    (hv : ∀ ps, v { s with parts := ps } = v s) : Keeps v s (s.onPart p f) := by
  refine ⟨hv _, fun _ h => h, fun q => ?_⟩
  by_cases hq : p = q
  · subst hq
    rw [onPart_parts, vget_vmod_same _ _ _ _ q.isLt]
    exact h
  · rw [onPart_parts, vget_vmod_ne _ _ _ _ _ hq]
    exact .refl _

end Keeps

/-! ## Tiles (03) -/

/-- A request does nothing, quarantines its tile, starts its readmission, or takes it out of service (R75, R79). -/
theorem serveOne_cases {P : State → Prop} {s : State} {k : Nat} {r : Nat × Nat} (hs : P s) (hq : P (s.quarantine k r.2))
    (hr : P (s.startReadmission k)) (ho : P (s.takeOut k)) : P (s.serveOne k r) := by
  unfold State.serveOne
  split
  · cases (s.tile k).mode with
    | active | gatedRetain | gatedOff | testing => exact hq
    | quarantined | outOfService => exact hs
  · split
    · exact hr
    · exact hs
  · split
    · exact hs
    · exact ho

/-- The state without its tiles, the read replies between them, and events. -/
def State.tileless (s : State) : State :=
  { s with events := [], tiles := Vector.replicate 256 {}, mesh := { s.mesh with replies := [] } }

/-- Tiles change, and events may arise; nothing else. -/
abbrev TilesOnly : State → State → Prop := Keeps State.tileless

namespace TilesOnly

theorem onTile (s : State) (k : Nat) (f : TileState → TileState) : TilesOnly s (s.onTile k f) := Keeps.of_frame rfl rfl rfl

theorem dropReplies (s : State) (p : Reply → Bool) :
    TilesOnly s { s with mesh := { s.mesh with replies := s.mesh.replies.filter p } } := Keeps.of_frame rfl rfl rfl

theorem raise (s : State) (code source detail : Nat) : TilesOnly s (s.raise code source detail) := Keeps.raise _ _ _ fun _ => rfl

theorem peerResetReply (s : State) (r : Reply) : TilesOnly s (s.peerResetReply r) := Keeps.ite (onTile _ _ _) (Keeps.refl s)

theorem resetTile (s : State) (k : Nat) : TilesOnly s (s.resetTile k) := by
  unfold State.resetTile
  extract_lets held s1 _ s2 s3
  have h1 : TilesOnly s s1 := Keeps.foldl peerResetReply held s
  have h3 : TilesOnly s s3 := (h1.trans (dropReplies s1 _)).trans (onTile s2 k _)
  exact Keeps.ite h3 (h3.trans (raise s3 _ _ _))

theorem quarantine (s : State) (k detail : Nat) : TilesOnly s (s.quarantine k detail) :=
  ((Keeps.ite (resetTile s k) (Keeps.refl s)).trans (onTile _ k _)).trans (raise _ _ _ _)

theorem startReadmission (s : State) (k : Nat) : TilesOnly s (s.startReadmission k) := (resetTile s k).trans (onTile _ k _)

theorem serveOne (s : State) (k : Nat) (r : Nat × Nat) : TilesOnly s (s.serveOne k r) :=
  serveOne_cases (P := TilesOnly s) (Keeps.refl s) (quarantine s k r.2) (startReadmission s k) (onTile s k _)

theorem serveRequests (s : State) (k : Nat) : TilesOnly s (s.serveRequests k) :=
  (onTile s k _).trans (Keeps.foldl (fun t r => serveOne t k r) _ _)

theorem alignTile (s : State) (k : Nat) : TilesOnly s (s.alignTile k) :=
  Keeps.ite ((onTile s k _).trans (raise _ _ _ _)) (Keeps.refl s)

theorem findCauses (s : State) (stuck : List TileNo) (k : TileNo) : TilesOnly s (s.findCauses stuck k) :=
  Keeps.ite (quarantine s k 3) (Keeps.ite (quarantine s k 2) (Keeps.refl s))

theorem tileStates (s : State) (stuck : List TileNo) : TilesOnly s (s.tileStates stuck) :=
  Keeps.foldl (fun t (k : TileNo) => ((alignTile t k).trans (serveRequests _ k)).trans (findCauses _ stuck k)) _ s

theorem gateTiles (s : State) (before : Option Nat) : TilesOnly s (s.gateTiles before) := by
  apply Keeps.of_frame <;> simp [State.gateTiles, State.tileless]

end TilesOnly

/-! ## A tick begins -/

/-- The state behind the sinks without tiles, mesh replies and latched inputs, partitions, tallies, memories and events. -/
def State.untiled (s : State) : State :=
  { s.behindSinks with
    events := [], tiles := Vector.replicate 256 {}, mesh := { s.mesh with replies := [], inputRecord := [] },
    parts := Vector.replicate 32 {}, tallies := [], mem := {} }

/-- The first steps of a tick, up to its sequencers, touch nothing else. -/
abbrev Begins : State → State → Prop := Keeps State.untiled

namespace Begins

theorem of_behindSinks {s t : State} (h : t.behindSinks = s.behindSinks) : Begins s t :=
  .of_frame (congrArg State.untiled h :) (congrArg State.events h :) (congrArg State.parts h :)

theorem of_tilesOnly {s t : State} (h : TilesOnly s t) : Begins s t := h.mono fun h => (congrArg State.untiled h :)

theorem onMemory (s : State) (code : Nat) (f : Memory → Memory) : Begins s (s.onMemory code f) := by
  unfold State.onMemory State.setMemory
  exact .ite (.of_frame rfl rfl rfl) (.ite (.of_frame rfl rfl rfl) (.of_frame rfl rfl rfl))

theorem onPart (s : State) {p : Nat} {f : PartState → PartState} (h : PartTick (vget s.parts p {}) (f (vget s.parts p {}))) :
    Begins s (s.onPart p f) := Keeps.onPart h fun _ => rfl

/-! Tallies (09) -/

theorem setTally (s : State) (i : Nat) (x : Tally) : Begins s (s.setTally i x) := Keeps.of_frame rfl rfl rfl

theorem tallyEvent (s : State) (p i : Nat) : Begins s (s.tallyEvent p i) :=
  (onPart s ⟨rfl, .inl rfl, fun h g => ⟨rfl, rfl, rfl, h, g⟩⟩).trans (of_behindSinks (emit_behindSinks _ _))

theorem tallyFire (s : State) (p kind index : Nat) : Begins s (s.tallyFire p kind index) :=
  of_behindSinks (ite_view rfl (ite_view (fireStart_behindSinks s index)
    (ite_view (ite_view rfl (camPulse_behindSinks s index)) rfl)))

theorem reach (s : State) (i : Nat) : Begins s (s.reach i) := by
  unfold State.reach
  split
  · exact Keeps.refl s
  · rename_i p _
    have h := Keeps.ite (c := (s.tallyConfig i).event = true) (tallyEvent s p i) (Keeps.refl s)
    exact Keeps.ite (h.trans (tallyFire _ _ _ _)) h

theorem incTally (s : State) (i amount : Nat) (at_ : Option Int) : Begins s (s.incTally i amount at_) :=
  Keeps.ite ((setTally s i _).trans (reach _ _)) (setTally s i _)

theorem memoryTallies (s : State) : Begins s s.memoryTallies :=
  (Keeps.foldl (fun t _ => Keeps.ite (Keeps.refl t) (incTally t _ _ _)) _ s).trans (Keeps.of_frame rfl rfl rfl)

theorem autoReset (s : State) : Begins s s.autoReset := Keeps.of_frame rfl rfl rfl

/-! Partition resets (09, 20) -/

/-- A reset that begins was asked for. -/
theorem resetPartition (s : State) {p : Nat} (hr : (vget s.parts p {}).resetRequest = true) : Begins s (s.resetPartition p) := by
  unfold State.resetPartition
  extract_lets ks s1 s2 s3
  have h1 : TilesOnly s s1 := .foldl (fun t k => .ite (.refl t) ((TilesOnly.resetTile t k).trans (TilesOnly.onTile _ k _))) ks s
  have h2 : s2.behindSinks = (s1.clearPartTallies p).behindSinks := emptyBackBuffers_behindSinks _ p
  have h3 : s3.behindSinks = s2.behindSinks := by
    simp only [s3]
    split
    · exact foldl_view sinkStale_behindSinks _ s2
    · rfl
  clear_value s3 s2 s1
  have hp : s3.parts = s.parts :=
    ((congrArg State.parts h3 :).trans (congrArg State.parts h2 :)).trans (congrArg State.parts h1.frame :)
  have hc : Begins s1 (s1.clearPartTallies p) := Keeps.of_frame rfl rfl rfl
  refine ((((of_tilesOnly h1).trans hc).trans (of_behindSinks h2)).trans (of_behindSinks h3)).trans
    (onPart s3 ⟨rfl, .inr rfl, fun hx => ?_⟩)
  rw [hp, hr] at hx
  cases hx

theorem partitionResets (s : State) : Begins s s.partitionResets := by
  refine Keeps.foldl (fun t p => ?_) _ s
  extract_lets x u
  split
  · rename_i hx
    obtain ⟨hx, _⟩ := Bool.and_eq_true_iff.mp hx
    have hu : TilesOnly t u := .foldl (fun t k => TilesOnly.onTile t k _) _ t
    have hp : u.parts = t.parts := (congrArg State.parts hu.frame :)
    refine (of_tilesOnly hu).trans (onPart u ⟨rfl, .inl rfl, fun _ h => ?_⟩)
    rw [hp] at h
    exact absurd (hx.symm.trans h) (by decide)
  · split
    · rename_i hx
      simp only [Bool.and_eq_true] at hx
      exact resetPartition t hx.1.1
    · exact Keeps.refl t

/-! Steps 2 to 4 of Table BELL-3 -/

theorem selfRefresh (s : State) : Begins s s.selfRefresh := by
  unfold State.selfRefresh
  split
  · exact Keeps.of_frame rfl rfl rfl
  · exact Keeps.refl s

theorem halfRate (s : State) (p : Plan) : Begins s (s.halfRate p) :=
  Keeps.foldl (fun t _ => onPart t ⟨rfl, .inl rfl, fun h g => ⟨rfl, rfl, rfl, h, g⟩⟩) _ s

theorem latchRpdo (s : State) (b n : Nat) : Begins s (s.latchRpdo b n) := by
  unfold State.latchRpdo
  split
  · exact Keeps.refl s
  · exact Keeps.ite ((of_behindSinks (onRpdo_behindSinks s n _)).trans (onMemory _ _ _)) (of_behindSinks (onRpdo_behindSinks s n _))

theorem latchRpdos (s : State) (b : Nat) : Begins s (s.latchRpdos b) := Keeps.foldl (fun t n => latchRpdo t b n) _ s

theorem startSequencers (s : State) : Begins s s.startSequencers := Keeps.of_frame rfl rfl rfl

end Begins
end Sys2Proof.Machine
end

section
namespace Sys2Proof.Machine

/-! ## A tier takes effect (02) -/

theorem vget_map {α β : Type} {n : Nat} (v : Vector α n) (f : α → β) {i : Nat} (d : α) (e : β) (h : i < n) :
    vget (v.map f) i e = f (vget v i d) := by
  simp [vget, h]

/-- The overrun counts are reset (R25). -/
def PartState.noOverruns (x : PartState) : PartState := { x with overruns := 0 }

def State.noOverruns (s : State) : State := { s with parts := s.parts.map PartState.noOverruns }

theorem noOverruns_part (s : State) (q : Fin 32) : vget s.noOverruns.parts q {} = (vget s.parts q {}).noOverruns :=
  vget_map s.parts PartState.noOverruns {} {} q.isLt

theorem Keeps.noOverruns {α : Type} {v : State → α} (s : State) (hv : ∀ ps, v { s with parts := ps } = v s) :
    Keeps v s s.noOverruns := by
  refine ⟨hv _, fun _ h => h, fun q => ?_⟩
  rw [noOverruns_part]
  exact ⟨rfl, .inr rfl, fun h g => ⟨rfl, rfl, rfl, h, g⟩⟩

/-- The state behind the sinks without the tier that is in force on the device. -/
def State.uneffective (s : State) : State :=
  { s.behindSinks with
    events := [], parts := Vector.replicate 32 {},
    plan := { s.plan with safe := false, sentWord := 0, effective := 0, tierSince := 0, cleanTicks := 0 } }

/-- The same, without the domain's tier and switches. -/
def State.untiered (s : State) : State :=
  { s.uneffective with
    plan := { s.uneffective.plan with domainTier := 0, pending := none, lastSwitch := 0, fastPath := false, raiseFailed := none } }

theorem Keeps.of_behindSinks {α : Type} {v : State → α} {s t : State} (hv : t.behindSinks = s.behindSinks → v t = v s)
    (h : t.behindSinks = s.behindSinks) : Keeps v s t :=
  .of_frame (hv h) (congrArg State.events h :) (congrArg State.parts h :)

theorem effective_of_behindSinks {s t : State} (h : t.behindSinks = s.behindSinks) : t.plan.effective = s.plan.effective :=
  (congrArg (fun t => t.plan.effective) h :)

theorem uneffective_of_behindSinks {s t : State} (h : t.behindSinks = s.behindSinks) : t.uneffective = s.uneffective :=
  (congrArg State.uneffective h :)

theorem untiered_of_uneffective {s t : State} (h : t.uneffective = s.uneffective) : t.untiered = s.untiered :=
  (congrArg State.untiered h :)

/-- A tier in force on the device: the tier, and nothing of the domain (R57). -/
theorem changeTier_keeps (s : State) (p : Plan) (k : Nat) :
    Keeps State.uneffective s (s.changeTier p k) ∧ (s.changeTier p k).plan.effective = k := by
  unfold State.changeTier
  split
  · rename_i h
    exact ⟨.refl s, h.symm⟩
  · extract_lets s1 _ s2 s3
    have h1 : s1.behindSinks = s.behindSinks := by
      simp only [s1]; split <;> simp
    have h2 : Keeps State.uneffective s1 s2 :=
      (Keeps.noOverruns s1 fun _ => rfl).trans (.of_frame rfl rfl rfl)
    have h3 : (s3.homingTier.disarmUnbound false).behindSinks = s2.behindSinks := by
      rw [disarmUnbound_behindSinks, homingTier_behindSinks]
      simp only [s3]; split <;> simp
    have he : s2.plan.effective = k := rfl
    generalize s3.homingTier.disarmUnbound false = s4 at h3
    clear_value s2 s1
    exact ⟨((Keeps.of_behindSinks uneffective_of_behindSinks h1).trans h2).trans (.of_behindSinks uneffective_of_behindSinks h3),
      (effective_of_behindSinks h3).trans he⟩

theorem changeTier_part (s : State) (p : Plan) (k : Nat) (q : Fin 32) (h : (vget s.parts q {}).overruns = 0) :
    (vget (s.changeTier p k).parts q {}).overruns = 0 :=
  ((changeTier_keeps s p k).1.parts q).overruns.elim (·.trans h) id

/-- A switch takes effect: the entry TIER_SWITCH, no overrun counts, then the tier (R25, R54). -/
theorem switchTo_eq (s : State) (p : Plan) (k cause : Nat) :
    s.switchTo p k cause = (s.raise 0x1010 cause (s.plan.effective * 256 + k)).noOverruns.changeTier p k := by
  simp only [State.switchTo, State.noOverruns, raise_parts]
  rfl

theorem switchTo_keeps (s : State) (p : Plan) (k cause : Nat) :
    Keeps State.uneffective s (s.switchTo p k cause) ∧ (s.switchTo p k cause).plan.effective = k := by
  rw [switchTo_eq]
  obtain ⟨h, he⟩ := changeTier_keeps (s.raise 0x1010 cause (s.plan.effective * 256 + k)).noOverruns p k
  exact ⟨((Keeps.raise _ _ _ fun _ => rfl).trans (Keeps.noOverruns _ fun _ => rfl)).trans h, he⟩

theorem switchTo_logs {s : State} (p : Plan) (k cause : Nat) (hl : s.live = true) :
    { code := 0x1010, source := cause, detail := s.plan.effective * 256 + k, count := s.logCount } ∈ (s.switchTo p k cause).events := by
  rw [switchTo_eq]
  apply (changeTier_keeps _ p k).1.events
  rw [raise_live _ _ _ _ hl]
  simp [State.noOverruns]

theorem switchTo_overruns (s : State) (p : Plan) (k cause : Nat) (q : Fin 32) :
    (vget (s.switchTo p k cause).parts q {}).overruns = 0 := by
  rw [switchTo_eq]
  exact changeTier_part _ p k q (by rw [noOverruns_part]; rfl)

/-- Step 2 of Table BELL-3 changes the tier, of the device and of its domain, the overrun counts, and what the sinks hold. -/
theorem tierStep_keeps (s : State) (p : Plan) : Keeps State.untiered s (s.tierStep p) := by
  have hc (t : State) (k : Nat) : Keeps State.untiered t (t.changeTier p k) :=
    (changeTier_keeps t p k).1.mono untiered_of_uneffective
  have hw (t : State) (k cause : Nat) : Keeps State.untiered t (t.switchTo p k cause) :=
    (switchTo_keeps t p k cause).1.mono untiered_of_uneffective
  unfold State.tierStep
  extract_lets stays due fast failed alone s1 _ s2
  clear_value stays due failed
  have ha (t : State) : Keeps State.untiered t (alone t) := .ite (.of_frame rfl rfl rfl) (.refl t)
  have h1 : Keeps State.untiered s s1 := by
    cases due
    · exact .refl s
    · exact .of_frame rfl rfl rfl
  have h2 : Keeps State.untiered s s2 := h1.trans (.of_frame rfl rfl rfl)
  clear_value s2 s1 alone
  refine h2.trans (.ite (hc s2 _) (.ite ((hw s2 _ 6).trans (ha _)) ?_))
  split
  · exact (hw s2 _ 1).trans (ha _)
  · exact .ite (.refl s2) (hw s2 _ _)
  · exact .refl s2

/-- The marks of the fast path and of a failed raise are spent at a bell. -/
def State.spendMarks (s : State) : State := { s with plan := { s.plan with fastPath := false, raiseFailed := none } }

/-- No switch is due. -/
theorem tierStep_none {s : State} {p : Plan} (ho : s.bell.state ≠ .orphaned) (hf : s.plan.fastPath = false)
    (hr : s.plan.raiseFailed = none) (hd : ∀ w, s.plan.pending = some w → s.bell.count.toNat < w.bell) :
    s.tierStep p = s.spendMarks := by
  have hdue : s.plan.pending.filter (fun w => decide (w.bell ≤ s.bell.count.toNat)) = none := by
    simpa [Option.filter_eq_none_iff] using hd
  simp [State.tierStep, hdue, hf, hr, ho, State.spendMarks]

/-- The domain's switch is due, and the device follows it. -/
theorem tierStep_due {s : State} {p : Plan} {w : PendingSwitch} (ho : s.bell.state ≠ .orphaned) (hf : s.plan.fastPath = false)
    (hr : s.plan.raiseFailed = none) (hw : s.plan.pending = some w) (hd : w.bell ≤ s.bell.count.toNat)
    (hs : s.plan.effective = s.plan.domainTier) :
    s.tierStep p = (s.domainSwitch w).spendMarks.switchTo p w.tier w.cause := by
  have hdue : s.plan.pending.filter (fun w => decide (w.bell ≤ s.bell.count.toNat)) = some w := by
    simp [hw, Option.filter, hd]
  have hstay : s.staysBelow p w = false := by simp [State.staysBelow, hs]
  unfold State.tierStep
  extract_lets stays due fast failed alone s1 _ s2
  replace hdue : due = some w := hdue
  clear_value due
  subst hdue
  have hs2 : s2 = (s.domainSwitch w).spendMarks := rfl
  have hn : ¬ fast = true := by simp [fast, hf]
  have hfail : failed = none := hr
  have hst : ¬ stays w = true := by simp [stays, hstay]
  clear_value s2 failed fast stays
  subst hs2 hfail
  rw [if_neg (show ¬ (s.domainSwitch w).spendMarks.bell.state = .orphaned from ho), if_neg hn]
  exact if_neg hst

/-- The fast path of stage 5 (R57). -/
theorem tierStep_fast {s : State} (p : Plan) (ho : s.bell.state ≠ .orphaned) (hf : s.plan.fastPath = true) (hl : s.live = true) :
    (s.tierStep p).plan.effective = p.resolve 7
    ∧ { code := 0x1010, source := 6, detail := s.plan.effective * 256 + p.resolve 7, count := s.logCount } ∈ (s.tierStep p).events := by
  unfold State.tierStep
  extract_lets stays due fast failed alone s1 _ s2
  have hs2 : s2.bell = s.bell ∧ s2.boot = s.boot ∧ s2.plan.effective = s.plan.effective := by
    clear_value due
    cases due <;> exact ⟨rfl, rfl, rfl⟩
  obtain ⟨hb, hboot, he⟩ := hs2
  have ha (t : State) : (alone t).plan.effective = t.plan.effective ∧ (alone t).events = t.events := by
    simp only [alone]
    split <;> exact ⟨rfl, rfl⟩
  clear_value s2 alone
  have hl2 : s2.live = true := by rw [State.live, hboot]; exact hl
  have hc : s2.logCount = s.logCount := by rw [State.logCount, hb]; rfl
  rw [if_neg (by rw [hb]; exact ho), if_pos (by exact hf), (ha _).1, (ha _).2, ← he, ← hc]
  exact ⟨(switchTo_keeps s2 p _ 6).2, switchTo_logs p _ 6 hl2⟩

end Sys2Proof.Machine
end

section
namespace Sys2Proof.Machine

/-! ## A tick goes on -/

/-- The cells and requests that a port has in hand. -/
def Port.work (x : Port) : Port := { sentCells := x.sentCells, requests := x.requests, asking := x.asking }

/-- What a tick in progress keeps of its bell: the bell, the plan and its tiers, the log, the tiles and the mesh, the work of the ports,
whether BELL_OUT is due a pulse, and that no readmission restart is under way or to come. -/
def State.tickFrame (s : State) : State × Nat × Bool :=
  ({ now := s.now, log := s.log,
     bell := { count := s.bell.count, at_ := s.bell.at_, state := s.bell.state, out := s.bell.out },
     plan := { plan := s.plan.plan, status := s.plan.status, running := s.plan.running, effective := s.plan.effective,
               domainTier := s.plan.domainTier, lastSwitch := s.plan.lastSwitch },
     tiles := s.tiles, mesh := s.mesh,
     drove := { cells := s.drove.cells, delivered := s.drove.delivered,
                ports := s.drove.ports.map Port.work } },
   s.obj 0x2100 8, s.bell.restart.isNone && s.drove.readmit.isEmpty)

/-- The rest of a tick's first steps, and the stage judged after them. -/
abbrev GoesOn : State → State → Prop := Keeps State.tickFrame

namespace GoesOn

theorem of_behindSinks {s t : State} (h : t.behindSinks = s.behindSinks) : GoesOn s t :=
  Keeps.of_behindSinks (fun h => (congrArg State.tickFrame h :)) h

theorem raise (s : State) (code source detail : Nat) : GoesOn s (s.raise code source detail) := Keeps.raise _ _ _ fun _ => rfl

theorem announceRestart (s : State) : GoesOn s s.announceRestart := by
  unfold State.announceRestart
  split
  · rename_i h
    obtain ⟨_, hne, _⟩ := h
    have : s.drove.readmit.isEmpty = false := by simpa using hne
    refine .of_frame ?_ rfl rfl
    simp [State.tickFrame, this]
    rfl
  · exact .refl s

theorem announce (s : State) (w : PendingSwitch) : GoesOn s (s.announce w) := by
  unfold State.announce
  extract_lets _ s1
  have h1 : GoesOn s s1 := .of_frame rfl rfl rfl
  exact .ite (h1.trans (raise s1 _ _ _)) h1

theorem recover (s : State) (p : Plan) : GoesOn s (s.recover p) := by
  unfold State.recover
  extract_lets b target
  split
  · split
    · exact .ite (announce s _) (.refl s)
    · exact .refl s
  · exact .refl s

theorem arbitrate (s : State) (p : Plan) : GoesOn s (s.arbitrate p) := by
  unfold State.arbitrate
  split
  · exact .refl s
  · extract_lets b eff _
    split
    rename_i raw cause _
    extract_lets target since s1
    have h1 : GoesOn s s1 := .of_frame rfl rfl rfl
    clear_value s1
    split
    · exact .ite (h1.trans (announce s1 _)) h1
    · exact .ite h1 (.ite (h1.trans (announce s1 _)) (h1.trans (recover s1 p)))

theorem syncAt (s : State) (b : Nat) : GoesOn s (s.syncAt b) := by
  unfold State.syncAt
  extract_lets n cob v k data _ s1 s2
  have h1 : GoesOn s s1 := .of_frame rfl rfl rfl
  have h2 : GoesOn s1 s2 := of_behindSinks (queueService_behindSinks s1 _ _)
  exact .ite (.refl s) ((h1.trans h2).trans (of_behindSinks (syncTpdos_behindSinks s2 _ _)))

theorem timeAt (s : State) : GoesOn s s.timeAt := by
  unfold State.timeAt
  extract_lets cob
  have h : GoesOn s { s with bell := { s.bell with timeSeconds := 0 } } := .of_frame rfl rfl rfl
  exact .ite (h.trans (of_behindSinks (queueService_behindSinks _ _ _))) (.refl s)

theorem inletC (s : State) : GoesOn s s.inletC.2 := by
  unfold State.inletC
  split
  · exact .refl s
  · exact .of_frame rfl rfl rfl

theorem thermalStep (s : State) (old : List Nat) (d : Nat) (src : Nat → Nat) : GoesOn s (s.thermalStep old d src) :=
  .ite (.refl s) ((raise s _ _ _).trans (of_behindSinks (refreshDemand_behindSinks _)))

theorem thermalBell (s : State) : GoesOn s s.thermalBell := by
  unfold State.thermalBell
  split
  · exact .refl s
  · extract_lets old d measured clamp corr _ s1 ts
    have h1 : GoesOn s s1 := .of_frame rfl rfl rfl
    clear_value s1 corr
    split
    rename_i tin s2 heq
    have h2 : GoesOn s1 s2 := by
      have h := inletC s1
      rwa [heq] at h
    extract_lets pred peak shown _
    split
    extract_lets s3 hotTile
    have h3 : GoesOn s2 s3 := .of_frame rfl rfl rfl
    exact ((h1.trans h2).trans h3).trans (thermalStep s3 _ _ _)

theorem portBells (s : State) : GoesOn s s.portBells := by
  refine .of_frame ?_ rfl rfl
  simp only [State.tickFrame, State.portBells, Vector.map_map]
  rfl

/-! The shed stage (16) -/

theorem peerReset (s : State) : GoesOn s s.peerReset := by
  unfold State.peerReset
  extract_lets s1
  have h1 : s1.behindSinks = s.behindSinks := foldl_view (fun t p => by split <;> rfl) _ s
  clear_value s1
  refine (of_behindSinks h1).trans (.of_frame ?_ rfl rfl)
  simp only [State.tickFrame, Vector.map_map]
  have hp : (Port.work ∘ fun x : Port =>
      if x.mode = .disabled then x else { x with mode := .down, phase := 1, wantTrain := false, signal := false })
      = Port.work := by
    funext x
    simp only [Function.comp_apply]
    split <;> rfl
  rw [hp]
  rfl

/-- An object is stored, another one than the pulse setting of BELL_OUT. -/
theorem setObj (s : State) {i j : Nat} (v : Nat) (h : odKey i j ≠ odKey 0x2100 8) : GoesOn s (s.setObj i j v) := by
  have ho : (s.setObj i j v).obj 0x2100 8 = s.obj 0x2100 8 := by
    simp only [State.obj, setObj_od, assocGet_put_ne _ _ _ _ h]
    rfl
  refine .of_frame ?_ rfl rfl
  simp only [State.tickFrame, ho]
  rfl

theorem shutdownRecord (s : State) (cause : Nat) : GoesOn s (s.shutdownRecord cause) := setObj s _ (by decide)

theorem setStage (s : State) (new source : Nat) : GoesOn s (s.setStage new source) := by
  unfold State.setStage
  extract_lets old _ _ s1
  have h1 : GoesOn s s1 := .of_frame rfl rfl rfl
  exact .ite h1 (h1.trans (raise s1 _ _ _))

theorem enterFive (s : State) : GoesOn s s.enterFive := by
  unfold State.enterFive
  extract_lets s1 kept
  have h0 : GoesOn s s.safeEntry := of_behindSinks (safeEntry_behindSinks s)
  have h1 : GoesOn s s1 := h0.trans (shutdownRecord s.safeEntry 5)
  clear_value s1
  exact .ite (h1.trans (.of_frame rfl rfl rfl)) h1

theorem powerDown (s : State) : GoesOn s s.powerDown := by
  unfold State.powerDown
  extract_lets s1 s2
  have h1 : s1.behindSinks = s.behindSinks :=
    (camerasInactive_behindSinks _).trans (mandiblesOpen_behindSinks s)
  clear_value s1
  exact (of_behindSinks h1).trans (.of_frame rfl rfl rfl)

theorem enterSix (s : State) (before : Nat) : GoesOn s (s.enterSix before) :=
  (((Keeps.ite (enterFive s) (.refl s)).trans (shutdownRecord _ 6)).trans (peerReset _)).trans (powerDown _)

theorem riseTo (s : State) (k source : Nat) : GoesOn s (s.riseTo k source) := by
  unfold State.riseTo
  extract_lets old s1
  have h1 : GoesOn s s1 := setStage s k source
  have hr (t : State) : GoesOn t t.refreshDemand := of_behindSinks (refreshDemand_behindSinks t)
  clear_value s1
  exact .ite (.refl s) (.ite (h1.trans (enterSix s1 old)) (.ite ((h1.trans (enterFive s1)).trans (hr _)) (h1.trans (hr s1))))

/-- The bell may find the supply below a fall threshold; the main domain can go down, but not the bell's account of it. -/
theorem judgeStage (s : State) : GoesOn s s.judgeStage := .ite (riseTo s _ _) (.refl s)

end GoesOn
end Sys2Proof.Machine
end

section
namespace Sys2Proof.Machine

/-! ## A tick has begun -/

/-- What step 1 and 2 of a bell leave for all that follows: the instant, the log, the count, the plan and its tiers, and whether a
readmission restart is under way or to come. -/
def State.tempo (s : State) : State × Bool :=
  ({ now := s.now, log := s.log, bell := { count := s.bell.count, at_ := s.bell.at_, state := s.bell.state },
     plan := { plan := s.plan.plan, status := s.plan.status, running := s.plan.running, effective := s.plan.effective,
               domainTier := s.plan.domainTier, lastSwitch := s.plan.lastSwitch } },
   s.bell.restart.isNone && s.drove.readmit.isEmpty)

theorem tempo_of_tickFrame {s t : State} (h : t.tickFrame = s.tickFrame) : t.tempo = s.tempo :=
  (congrArg (fun x : State × Nat × Bool => (x.1.tempo.1, x.2.2)) h :)

theorem tempo_of_untiled {s t : State} (h : t.untiled = s.untiled) : t.tempo = s.tempo := (congrArg State.tempo h :)

/-- A tick has begun on the way from `s` to `t`; `prev` is the tier whose commits it still carries (R16, R22, R23, R73). -/
structure TickBegun (s t : State) (prev : Option Nat) : Prop where
  keeps : Keeps State.tempo s t
  out : t.bell.out = bitOf (t.obj 0x2100 8) 0
  idle : ∀ k : Fin 256, (t.tile k).seq = {}
  mesh : t.mesh.transfers = [] ∧ t.mesh.replies = [] ∧ t.mesh.emitted = [] ∧ t.mesh.carried = s.mesh.emitted
    ∧ t.mesh.carriedTier = prev
  cells : t.drove.cells = [] ∧ t.drove.delivered = []
  ports : ∀ q : Fin 8, (t.port q).sentCells = [] ∧ (t.port q).requests = [] ∧ (t.port q).asking = []

/-- The fields that a tick in progress keeps. -/
theorem tickFrame_fields {s t : State} (h : t.tickFrame = s.tickFrame) :
    t.tiles = s.tiles ∧ t.mesh = s.mesh ∧ t.bell.out = s.bell.out ∧ t.obj 0x2100 8 = s.obj 0x2100 8
    ∧ t.drove.cells = s.drove.cells ∧ t.drove.delivered = s.drove.delivered :=
  ⟨(congrArg (fun x => x.1.tiles) h :), (congrArg (fun x => x.1.mesh) h :), (congrArg (fun x => x.1.bell.out) h :),
    (congrArg (fun x => x.2.1) h :), (congrArg (fun x => x.1.drove.cells) h :), (congrArg (fun x => x.1.drove.delivered) h :)⟩

theorem tickFrame_port {s t : State} (h : t.tickFrame = s.tickFrame) (q : Fin 8) :
    (t.port q).sentCells = (s.port q).sentCells ∧ (t.port q).requests = (s.port q).requests ∧ (t.port q).asking = (s.port q).asking := by
  have hq (u : State) : vget u.tickFrame.1.drove.ports q {} = (u.port q).work := vget_map u.drove.ports Port.work {} {} q.isLt
  have hp : (t.port q).work = (s.port q).work := by rw [← hq, ← hq, h]
  exact ⟨(congrArg Port.sentCells hp :), (congrArg Port.requests hp :), (congrArg Port.asking hp :)⟩

theorem TickBegun.goesOn {s t u : State} {prev : Option Nat} (h : TickBegun s t prev) (g : GoesOn t u) : TickBegun s u prev := by
  obtain ⟨ht, hm, ho, hobj, hc, hd⟩ := tickFrame_fields g.frame
  refine ⟨h.keeps.trans (g.mono tempo_of_tickFrame), by rw [ho, hobj]; exact h.out, fun k => ?_, by rw [hm]; exact h.mesh,
    by rw [hc, hd]; exact h.cells, fun q => ?_⟩
  · rw [State.tile, ht]
    exact h.idle k
  · obtain ⟨h1, h2, h3⟩ := tickFrame_port g.frame q
    rw [h1, h2, h3]
    exact h.ports q

/-- What holds of each image holds of an element of a mapped vector. -/
theorem vget_map_of {α β : Type} {n : Nat} {P : β → Prop} {v : Vector α n} {f : α → β} {i : Nat} {d : β} (h : i < n)
    (hf : ∀ x, P (f x)) : P (vget (v.map f) i d) := by
  rw [vget_map v f v[i] d h]
  exact hf _

/-- The sequencers start from their first record (R23). -/
theorem startSequencers_tile (s : State) (k : Fin 256) : (s.startSequencers.tile k).seq = {} :=
  vget_map_of (P := fun x : TileState => x.seq = {}) k.isLt fun _ => rfl

/-- What belonged to the tick that ended is gone from the ports. -/
theorem freshTick_port (s : State) (prev : Option Nat) (q : Fin 8) :
    ((s.freshTick prev).port q).sentCells = [] ∧ ((s.freshTick prev).port q).requests = [] ∧ ((s.freshTick prev).port q).asking = [] :=
  vget_map_of (P := fun x : Port => x.sentCells = [] ∧ x.requests = [] ∧ x.asking = []) q.isLt fun _ => ⟨rfl, rfl, rfl⟩

/-- The pin BELL_OUT rises where its pulse is enabled (R31). -/
def State.pulseOut (s : State) : State := { s with bell := { s.bell with out := bitOf (s.obj 0x2100 8) 0 } }

/-- The tick that ended is cleared away behind the steps that looked at it. -/
theorem freshTick_begun {s t : State} (prev : Option Nat) (h : Begins s t) :
    TickBegun s (t.startSequencers.freshTick prev).pulseOut prev := by
  have hk : Keeps State.tempo t (t.startSequencers.freshTick prev).pulseOut := .of_frame rfl rfl rfl
  have he : t.mesh.emitted = s.mesh.emitted := (congrArg (fun u => u.mesh.emitted) h.frame :)
  exact {
    keeps := (h.mono tempo_of_untiled).trans hk
    out := rfl
    idle := startSequencers_tile t
    mesh := ⟨rfl, rfl, rfl, he, rfl⟩
    cells := ⟨rfl, rfl⟩
    ports := freshTick_port t.startSequencers prev }

/-- Steps 2 to 5 of Table BELL-3. -/
theorem startTick_begun (s : State) (p : Plan) (stuck : List TileNo) (before prev : Option Nat) :
    TickBegun s (s.startTick p stuck before prev) prev := by
  unfold State.startTick
  extract_lets b s1 s2 _ s3 s4 s5 _ s6 s7
  have hg : Begins s ((s.tileStates stuck).gateTiles before) :=
    .of_tilesOnly ((TilesOnly.tileStates s stuck).trans (TilesOnly.gateTiles _ before))
  have h1 : Begins s s1 := (hg.trans (Begins.partitionResets _)).trans (Begins.selfRefresh _)
  have h2 : Begins s s2 := h1.trans (Begins.halfRate s1 p)
  clear_value s1 s2
  have hin : Begins s2 { s2 with mesh := { s2.mesh with inputRecord := s2.inputRecord b } } := Keeps.of_frame rfl rfl rfl
  have h3 : Begins s s3 := (h2.trans hin).trans (Begins.latchRpdos _ b)
  have h4 : Begins s s4 := (h3.trans (Begins.autoReset s3)).trans (Begins.memoryTallies _)
  have h6 : TickBegun s s6 prev := freshTick_begun prev h4
  have h7 : GoesOn s6 s7 := ((GoesOn.announceRestart s6).trans (GoesOn.arbitrate _ p)).trans
    (GoesOn.of_behindSinks (sendMarkers_behindSinks _))
  clear_value s7 s6
  exact (((((h6.goesOn h7).goesOn (.syncAt s7 b)).goesOn (.of_behindSinks (eventTpdos_behindSinks _))).goesOn (.timeAt _)).goesOn
    (.of_behindSinks (sendDemand_behindSinks _))).goesOn ((GoesOn.thermalBell _).trans (GoesOn.portBells _))

end Sys2Proof.Machine
end

section
namespace Sys2Proof.Machine

/-! ## A tick ends (R25) -/

/-- The state without what the end of a tick counts and what the bell latches: tallies, partitions, objects, and the demands. -/
def State.unprepared (s : State) : State :=
  { s with
    tallies := [], parts := Vector.replicate 32 {}, od := {},
    plan := { s.plan with overrunDemand := 0, cleanTicks := 0, received := [], counted := [] } }

/-- What the end of a tick makes of a partition's record; `b` says that the partition was to complete the tick. -/
structure Ended (b : Bool) (x y : PartState) : Prop where
  overrun : y.overrun = false
  failed : y.failed = false
  prevBad : y.prevBad = (x.overrun || x.failed || x.resetting)
  completed : y.completed = if b && !(x.overrun || x.failed) then x.completed + 1 else x.completed
  overruns : b = true → x.overrun = false → x.failed = false → y.overruns = 0
  resetRequest : y.resetRequest = x.resetRequest
  resetting : y.resetting = x.resetting

/-- A partition's record at the end of a tick, which was `bad` when it overran or failed. -/
def PartState.endTick (x : PartState) (b bad : Bool) : PartState :=
  let y := { x with prevSkip := x.skipTick, prevBad := bad || x.resetting, overrun := false, failed := false }
  if !b || bad then y else { y with completed := y.completed + 1, overruns := 0 }

theorem endTick_ended (x : PartState) (n : Nat) (b : Bool) :
    Ended b x (({ x with overruns := n } : PartState).endTick b (x.overrun || x.failed)) := by
  cases b
  · exact ⟨rfl, rfl, rfl, rfl, nofun, rfl, rfl⟩
  · cases hx : x.overrun || x.failed
    · exact ⟨rfl, rfl, by rw [hx]; rfl, by rw [hx]; rfl, fun _ _ _ => rfl, rfl, rfl⟩
    · refine ⟨rfl, rfl, by rw [hx]; rfl, by rw [hx]; rfl, fun _ ho hf => ?_, rfl, rfl⟩
      rw [ho, hf] at hx
      cases hx

theorem onPart_part (s : State) (p : Fin 32) (f : PartState → PartState) :
    vget (s.onPart p f).parts p {} = f (vget s.parts p {}) := vget_vmod_same _ _ _ _ p.isLt

theorem onPart_other (s : State) {p q : Nat} (f : PartState → PartState) (h : p ≠ q) :
    vget (s.onPart p f).parts q {} = vget s.parts q {} := vget_vmod_ne _ _ _ _ _ h

/-- Whether a partition ticks depends on the counts of no tick. -/
theorem ticks_congr {s t : State} {q : Nat} (h : t.unprepared = s.unprepared)
    (hq : (vget t.parts q {}).resetting = (vget s.parts q {}).resetting) : t.ticks q = s.ticks q := by
  have h1 : t.present q = s.present q := (congrArg (fun u => u.present q) h :)
  have h2 : t.inTier q = s.inTier q := (congrArg (fun u => u.inTier q) h :)
  rw [State.ticks, State.ticks, h1, h2, hq]

theorem countOverrun_parts (s : State) (p : Nat) :
    (s.countOverrun p).parts = (s.onPart p (fun x => { x with overruns := min ((vget s.parts p {}).overruns + 1) 255 })).parts := by
  unfold State.countOverrun
  extract_lets n s1
  split <;> rfl

theorem countOverrun_unprepared (s : State) (p : Nat) : (s.countOverrun p).unprepared = s.unprepared := by
  unfold State.countOverrun
  extract_lets n s1
  split <;> rfl

theorem endPart_unprepared (s : State) (p : Nat) : (s.endPart p).unprepared = s.unprepared := by
  have h : (if (s.ticks p && (vget s.parts p {}).failed && !(vget s.parts p {}).overrun) then s.countOverrun p else s).unprepared
      = s.unprepared := by
    split
    · exact countOverrun_unprepared s p
    · rfl
  exact h

theorem endPart_other (s : State) {p q : Nat} (h : p ≠ q) : vget (s.endPart p).parts q {} = vget s.parts q {} := by
  unfold State.endPart
  extract_lets x bad s1
  rw [onPart_other s1 _ h]
  simp only [s1]
  split
  · rw [countOverrun_parts, onPart_other s _ h]
  · rfl

theorem endPart_part (s : State) (p : Fin 32) : Ended (s.ticks p) (vget s.parts p {}) (vget (s.endPart p).parts p {}) := by
  unfold State.endPart
  extract_lets x bad s1
  obtain ⟨n, hn⟩ : ∃ n, vget s1.parts p {} = { x with overruns := n } := by
    simp only [s1]
    split
    · exact ⟨_, by rw [countOverrun_parts, onPart_part]⟩
    · exact ⟨x.overruns, rfl⟩
  have hu : s1.unprepared = s.unprepared := by
    simp only [s1]
    split
    · exact countOverrun_unprepared s p
    · rfl
  have ht : s1.ticks p = s.ticks p := ticks_congr hu (by rw [hn])
  rw [onPart_part, hn, ht]
  exact endTick_ended x n (s.ticks p)

/-- The end of a tick touches nothing but what it counts. -/
theorem endTick_unprepared (s : State) : s.endTick.unprepared = s.unprepared :=
  foldl_view endPart_unprepared _ s.countClean

theorem endParts_other {l : List Nat} {q : Nat} (h : q ∉ l) (s : State) :
    vget (l.foldl State.endPart s).parts q {} = vget s.parts q {} := by
  induction l generalizing s with
  | nil => rfl
  | cons p l ih =>
    obtain ⟨hp, hl⟩ := not_or.mp (mt List.mem_cons.mpr h)
    rw [List.foldl_cons, ih hl, endPart_other s (Ne.symm hp)]

/-- Each partition's tick ends once. -/
theorem endTick_part (s : State) (q : Fin 32) : Ended (s.ticks q) (vget s.parts q {}) (vget s.endTick.parts q {}) := by
  obtain ⟨before, after, hl⟩ := List.append_of_mem (List.mem_range.mpr q.isLt)
  have hd : (before ++ q.val :: after).Nodup := hl ▸ List.nodup_range
  obtain ⟨_, hafter, hbefore⟩ := List.nodup_append.mp hd
  have ha : q.val ∉ after := (List.nodup_cons.mp hafter).1
  have hb : q.val ∉ before := fun h => hbefore _ h _ (List.mem_cons_self ..) rfl
  have hq := endParts_other hb s.countClean
  have ht : (before.foldl State.endPart s.countClean).ticks q = s.ticks q :=
    ticks_congr (foldl_view endPart_unprepared before s.countClean) (by rw [hq]; rfl)
  rw [State.endTick, hl, List.foldl_append, List.foldl_cons, endParts_other ha]
  have h := endPart_part (before.foldl State.endPart s.countClean) q
  rwa [ht, hq] at h

/-! ## Step 1 of a bell -/

/-- The state that the count of a bell finds: the tick has ended, the objects written before the bell are in force, the demands posted
before it count. -/
def State.prepared (s : State) : State := (s.ageTallies s.tickCycles).endTick.latchObjects.ageDemands.countDemands

theorem latched_unprepared (s : State) : s.latchObjects.ageDemands.countDemands.unprepared = s.unprepared := rfl

theorem prepared_unprepared (s : State) : s.prepared.unprepared = s.unprepared :=
  (latched_unprepared _).trans (endTick_unprepared (s.ageTallies s.tickCycles))

theorem latched_parts (s : State) : s.latchObjects.ageDemands.countDemands.parts = s.parts := rfl

theorem prepared_part (s : State) (q : Fin 32) : Ended (s.ticks q) (vget s.parts q {}) (vget s.prepared.parts q {}) := by
  rw [State.prepared, latched_parts]
  exact endTick_part (s.ageTallies s.tickCycles) q

end Sys2Proof.Machine
end

section
namespace Sys2Proof.Machine

/-- The state at step 2 of a bell: the tick has ended and the bell has counted, or restarted. -/
def State.rung (s : State) (p : Plan) : State := (s.prepared.countStep p).bellInCount

/-- A bell of a device that follows no marker, with no stop due. -/
theorem ringBell_going {s : State} {p : Plan} {stuck : List TileNo} (hr : (s.rung p).role ≠ .member)
    (hs : (s.rung p).plan.stopAt.any (fun b => decide (b ≤ (s.rung p).bell.count.toNat)) = false) :
    s.ringBell p stuck
      = (((s.rung p).tierStep p).startTick p stuck (some s.plan.effective) (some s.plan.effective)).judgeStage := by
  unfold State.ringBell
  extract_lets before u u'
  have hu : u' = s.rung p := if_neg hr
  clear_value u'
  subst hu
  exact if_neg (by rw [hs]; decide)

/-- A bell of a device that follows no marker, with a stop due. -/
theorem ringBell_stopping {s : State} {p : Plan} {stuck : List TileNo} (hr : (s.rung p).role ≠ .member)
    (hs : (s.rung p).plan.stopAt.any (fun b => decide (b ≤ (s.rung p).bell.count.toNat)) = true) :
    s.ringBell p stuck = (s.rung p).stopNow := by
  unfold State.ringBell
  extract_lets before u u'
  have hu : u' = s.rung p := if_neg hr
  clear_value u'
  subst hu
  exact if_pos hs

/-- The tick of that bell begins under the tier that step 2 has chosen. -/
theorem ringBell_begun {s : State} {p : Plan} {stuck : List TileNo} (hr : (s.rung p).role ≠ .member)
    (hs : (s.rung p).plan.stopAt.any (fun b => decide (b ≤ (s.rung p).bell.count.toNat)) = false) :
    TickBegun ((s.rung p).tierStep p) (s.ringBell p stuck) (some s.plan.effective) := by
  rw [ringBell_going hr hs]
  exact (startTick_begun _ p stuck _ _).goesOn (GoesOn.judgeStage _)

/-! ## The count -/

/-- The state without what the end of a tick and the count touch. -/
def State.unrung (s : State) : State := { s.unprepared with bell := { state := s.bell.state } }

theorem restartDue_of_unprepared {s t : State} (h : t.unprepared = s.unprepared) : t.restartDue = s.restartDue :=
  (congrArg State.restartDue h :)

/-- Without a restart the bell counts, and nothing else happens to the state that the ended tick left. -/
theorem rung_counts {s : State} {p : Plan} (h : s.restartDue = none) :
    (s.rung p).unrung = s.unrung ∧ (s.rung p).bell.count = s.bell.count + 1 ∧ (s.rung p).bell.at_ = s.now
    ∧ (s.rung p).parts = s.prepared.parts := by
  have hp := prepared_unprepared s
  have hd := restartDue_of_unprepared hp
  unfold State.rung State.countStep
  generalize s.prepared = v at hp hd ⊢
  have hb : v.bell = s.bell := (congrArg State.bell hp :)
  have hn : v.now = s.now := (congrArg State.now hp :)
  simp only [hd, h]
  refine ⟨?_, ?_, ?_, rfl⟩
  · exact (congrArg State.unrung hp :)
  · simp only [State.bellInCount, hb]
  · exact hn

/-! ## The restart (R36, R250) -/

/-- The state behind the sinks without tiles and memories: what a restart moves but for the bell, the plan and the partitions. -/
def State.unmoved (s : State) : State := { s.behindSinks with tiles := Vector.replicate 256 {}, mem := {} }

theorem unmoved_of_behindSinks {s t : State} (h : t.behindSinks = s.behindSinks) : t.unmoved = s.unmoved :=
  (congrArg State.unmoved h :)

theorem onMemory_unmoved (s : State) (code : Nat) (f : Memory → Memory) : (s.onMemory code f).unmoved = s.unmoved :=
  ite_view rfl (ite_view rfl rfl)

theorem moveFrame_unmoved (s : State) (c old : Nat) : (s.moveFrame c old).unmoved = s.unmoved := by
  unfold State.moveFrame
  extract_lets n
  split
  · rfl
  · exact onMemory_unmoved s _ _

theorem rebaseLogs_unmoved (s : State) (k : Int) : (s.rebaseLogs k).unmoved = s.unmoved := rfl

theorem rebaseCameras_unmoved (s : State) (old : Nat) : (s.rebaseCameras old).unmoved = s.unmoved := by
  unfold State.rebaseCameras
  extract_lets s1
  have h1 : s1.unmoved = s.unmoved := foldl_view (fun t c => moveFrame_unmoved t c old) _ s
  clear_value s1
  exact h1

/-- Ticks count from 0 (R36). -/
theorem clearMarks_unmoved (s : State) :
    s.clearMarks.unmoved
      = ({ s with parts := s.parts.map (fun (x : PartState) => { x with overruns := 0, completed := 0 }) } : State).unmoved := by
  unfold State.clearMarks
  extract_lets s1
  have h1 : s1.unmoved = s.unmoved := foldl_view (fun t c => unmoved_of_behindSinks (onCh_behindSinks t c _)) _ s
  clear_value s1
  have hp : s1.parts = s.parts := (congrArg State.parts h1 :)
  simp only [hp]
  exact (congrArg (fun u : State =>
    { u with parts := s.parts.map (fun (x : PartState) => { x with overruns := 0, completed := 0 }) }) h1 :)

end Sys2Proof.Machine
end

section
namespace Sys2Proof.Machine

/-- The state whose bell, plan and tiles have moved to the new count; its marks and logs follow. -/
def State.recounted (s : State) (old : Nat) : State :=
  let k : Int := old
  { s with
    bell := { s.bell with count := 0, restart := none, syncCounter := 0 },
    plan := { s.plan with
      tierSince := s.plan.tierSince - k, lastSwitch := s.plan.lastSwitch - k, belowSince := s.plan.belowSince.map (· - k),
      stopAt := s.plan.stopAt.map (· - old) },
    tiles := s.tiles.map (fun x => { x with ueBells := x.ueBells.map (· - k), benched := x.benched.map (· - k) }) }

theorem restartCount_eq (s : State) (cause old : Nat) :
    s.restartCount cause old
      = (((s.recounted old).clearMarks.rebaseLogs old).rebaseCameras old).raise 0x1004 0x1FF cause := rfl

/-- What a restart of the count leaves behind it. -/
structure Restarted (s t : State) (cause : Nat) : Prop where
  count : t.bell.count = 0
  restart : t.bell.restart = none
  state : t.bell.state = s.bell.state
  role : t.role = s.role
  log : t.log = s.log
  now : t.now = s.now
  readmit : t.drove.readmit = s.drove.readmit
  stopAt : s.plan.stopAt = none → t.plan.stopAt = none
  ticks : ∀ q : Fin 32, (vget t.parts q {}).completed = 0
  logged : s.live = true → s.bell.state ≠ .stopped →
    { code := 0x1004, source := 0x1FF, detail := cause, count := 0 } ∈ t.events

theorem restartCount_restarted (s : State) (cause old : Nat) : Restarted s (s.restartCount cause old) cause := by
  rw [restartCount_eq]
  have h : (((s.recounted old).clearMarks.rebaseLogs old).rebaseCameras old).unmoved
      = ({ s.recounted old with parts := s.parts.map (fun (x : PartState) => { x with overruns := 0, completed := 0 }) } :
          State).unmoved :=
    (rebaseCameras_unmoved _ old).trans ((rebaseLogs_unmoved _ old).trans (clearMarks_unmoved _))
  generalize ((s.recounted old).clearMarks.rebaseLogs old).rebaseCameras old = t at h ⊢
  have hb : t.bell = (s.recounted old).bell := (congrArg State.bell h :)
  have hp : t.parts = s.parts.map (fun (x : PartState) => { x with overruns := 0, completed := 0 }) := (congrArg State.parts h :)
  have hstop : t.plan.stopAt = s.plan.stopAt.map (· - old) := (congrArg (fun u => u.plan.stopAt) h :)
  have hlive : t.live = s.live := (congrArg State.live h :)
  refine ⟨?_, ?_, ?_, ?_, ?_, ?_, ?_, fun hs => ?_, fun q => ?_, fun hl hst => ?_⟩
  · rw [raise_bell, hb]; rfl
  · rw [raise_bell, hb]; rfl
  · rw [raise_bell, hb]; rfl
  · rw [raise_role]; exact (congrArg State.role h :)
  · rw [raise_log]; exact (congrArg State.log h :)
  · rw [raise_now]; exact (congrArg State.now h :)
  · rw [raise_drove]; exact (congrArg (fun u => u.drove.readmit) h :)
  · rw [raise_plan, hstop, hs]; rfl
  · rw [raise_parts, hp]
    exact vget_map_of (P := fun x : PartState => x.completed = 0) q.isLt fun _ => rfl
  · have hc : t.logCount = 0 := by
      rw [State.logCount, hb]
      exact if_neg hst
    rw [raise_live _ _ _ _ (hlive.trans hl), hc]
    simp

theorem rung_restarts {s : State} {p : Plan} {c : Nat} (h : s.restartDue = some c) (ho : s.bell.state ≠ .orphaned) :
    Restarted s (s.rung p) c ∧ (s.rung p).bell.at_ = s.now := by
  have hp := prepared_unprepared s
  have hd := restartDue_of_unprepared hp
  unfold State.rung State.countStep
  generalize s.prepared = v at hp hd ⊢
  have hb : v.bell = s.bell := (congrArg State.bell hp :)
  have hback : decide (v.bell.state = .orphaned) = false := by rw [hb]; exact decide_eq_false ho
  simp only [hd, h, hback]
  have hr := restartCount_restarted v c (v.bell.count.toNat + 1)
  generalize v.restartCount c (v.bell.count.toNat + 1) = r at hr ⊢
  have hrole : v.role = s.role := (congrArg State.role hp :)
  have hlog : v.log = s.log := (congrArg State.log hp :)
  have hnow : v.now = s.now := (congrArg State.now hp :)
  have hdrove : v.drove = s.drove := (congrArg State.drove hp :)
  have hstop : v.plan.stopAt = s.plan.stopAt := (congrArg (fun u => u.plan.stopAt) hp :)
  have hlive : v.live = s.live := (congrArg State.live hp :)
  rw [if_neg Bool.false_ne_true]
  exact ⟨{
    count := hr.count
    restart := hr.restart
    state := hr.state.trans (by rw [hb])
    role := hr.role.trans hrole
    log := hr.log.trans hlog
    now := hr.now.trans hnow
    readmit := hr.readmit.trans (by rw [hdrove])
    stopAt := fun h => hr.stopAt (hstop.trans h)
    ticks := hr.ticks
    logged := fun hl hs => hr.logged (hlive.trans hl) (by rw [hb]; exact hs) }, hr.now.trans hnow⟩

/-! ## The bell as a command -/

/-- What a command answers that leaves state `r` behind its effect: the events are logged, the queue waits as it was. -/
def State.finished (s r : State) : State := { r.settle with pending := s.pending }

theorem finished_obj (s r : State) (i j : Nat) : (s.finished r).obj i j = r.obj i j := by
  simp only [State.obj, State.nodeId, State.finished, settle_od]

/-- The start of a command at an instant. -/
def State.opened (s : State) (now : Nat) : State := { s with out := [], events := [], now := now }

/-- The bell of a standalone device or a bellwether whose plan runs (R16). -/
theorem exec_bell {s : State} {p : Plan} (now : Nat) (hl : s.live = true) (hp : s.plan.plan = some p)
    (hs : s.bell.state = .source) (hr : s.role ≠ .member) :
    exec (.bell now [] []) s = .next (s.finished ((s.opened now).ringBell p [])) := by
  have hrun : (s.opened now).running = true := by simp [State.running, State.opened, hs]
  have hheld : (s.opened now).takeHeld = s.opened now := by
    unfold State.takeHeld
    split
    · exact if_pos (.inl hr)
    · rfl
  have hfire : (s.opened now).bellFires p [] = (s.opened now).ringBell p [] := by
    unfold State.bellFires
    extract_lets u
    have hu : u = s.opened now := hheld
    clear_value u
    subst hu
    split
    · exact if_neg (by simp [State.opened, hs])
    · rfl
  show execBell now [] [] s = _
  rw [execBell, runLive_live _ _ hl, run_next]
  have hplan : (s.opened now).plan.plan = some p := hp
  have : (({ s with out := [], events := [] } : State).clock now) = s.opened now := rfl
  simp only [List.foldl_nil, this, hplan, hrun, if_true, hfire]
  rfl

theorem upset_unmoved (s : State) (u : Upset) : (s.upset u).unmoved = s.unmoved := onMemory_unmoved s _ _

/-- Without a plan a bell moves the clock and applies the upsets, and nothing is logged. -/
theorem exec_bell_idle {s : State} (now : Nat) (us : List Upset) (hl : s.live = true) (hp : s.plan.plan = none) :
    exec (.bell now [] us) s = .next (us.foldl State.upset (s.opened now)) := by
  have hu : (us.foldl State.upset (s.opened now)).unmoved = (s.opened now).unmoved := foldl_view upset_unmoved us _
  have ho : (({ s with out := [], events := [] } : State).clock now) = s.opened now := rfl
  show execBell now [] us s = _
  rw [execBell, runLive_live _ _ hl, run_next]
  simp only [ho]
  generalize us.foldl State.upset (s.opened now) = t at hu ⊢
  have hplan : t.plan.plan = none := (congrArg (fun u => u.plan.plan) hu :).trans hp
  have he : t.events = [] := (congrArg State.events hu :)
  have hpend : t.pending = s.pending := (congrArg State.pending hu :)
  simp only [hplan, settle_none t he, ← hpend]

/-- A flipped bit in a word without a mark marks it (R170). -/
theorem upset_unmarked {s : State} {u : Upset} (h : (s.memory u.memory).mark u.word = none) :
    s.upset u = s.onMemory u.memory (fun m => m.setMark u.word (some (if u.double then .uncorrectable else .correctable))) := by
  simp only [State.upset, State.onMemory, h]

theorem mem_insertEntry {e x : LogEntry} {l : List LogEntry} : e ∈ insertEntry x l ↔ e = x ∨ e ∈ l := by
  induction l with
  | nil => simp [insertEntry]
  | cons y l ih =>
    simp only [insertEntry]
    split <;> simp [ih, or_left_comm]

theorem mem_sortEntries {e : LogEntry} {l : List LogEntry} (h : e ∈ l) : e ∈ sortEntries l := by
  have aux (l acc : List LogEntry) (h : e ∈ acc ∨ e ∈ l) : e ∈ l.foldl (fun acc e => insertEntry e acc) acc := by
    induction l generalizing acc with
    | nil => simpa using h
    | cons x l ih =>
      apply ih
      rcases h with h | h
      · exact .inl (mem_insertEntry.mpr (.inr h))
      · rcases List.mem_cons.mp h with h | h
        · exact .inl (mem_insertEntry.mpr (.inl h))
        · exact .inr h
  exact aux l [] (.inr h)

/-- An event that waits at the end of the command's effect is logged. -/
theorem finished_logged {s r : State} {e : LogEntry} (hlog : r.log = s.log) (he : e ∈ r.events) : s.Logged (s.finished r) e :=
  ⟨sortEntries r.events, mem_sortEntries he, by rw [← hlog]; exact settle_log r⟩

end Sys2Proof.Machine
end

section
namespace Sys2Proof.Machine

/-! ## A stop (R47) -/

/-- A tile that no bell changes by itself: without requests, and quarantined or still under readmission. -/
def TileState.held (x : TileState) (m : TileMode) : Prop :=
  x.requests = [] ∧ x.mode = m ∧ (m = .quarantined ∨ (m = .testing ∧ x.rebuild ≠ .aligned))

theorem tile_onTile_same (s : State) (k : Fin 256) (f : TileState → TileState) : (s.onTile k f).tile k = f (s.tile k) :=
  vget_vmod_same _ _ _ _ k.isLt

theorem tile_onTile_ne (s : State) {j k : Nat} (f : TileState → TileState) (h : j ≠ k) : (s.onTile j f).tile k = s.tile k :=
  vget_vmod_ne _ _ _ _ _ h

theorem tile_raise (s : State) (code source detail k : Nat) : (s.raise code source detail).tile k = s.tile k := by
  simp only [State.tile, raise_tiles]

/-- Two tiles are alike but for their memories. -/
def TileState.alike (x y : TileState) : Prop := y.requests = x.requests ∧ y.mode = x.mode ∧ y.rebuild = x.rebuild

theorem TileState.alike.refl (x : TileState) : x.alike x := ⟨rfl, rfl, rfl⟩

theorem TileState.alike.trans {x y z : TileState} (h : x.alike y) (g : y.alike z) : x.alike z := by
  obtain ⟨a1, a2, a3⟩ := h
  obtain ⟨b1, b2, b3⟩ := g
  exact ⟨b1.trans a1, b2.trans a2, b3.trans a3⟩

theorem TileState.held.alike {x y : TileState} {m : TileMode} (h : x.held m) (hy : x.alike y) : y.held m := by
  obtain ⟨h1, h2, h3⟩ := h
  obtain ⟨a1, a2, a3⟩ := hy
  exact ⟨a1.trans h1, a2.trans h2, by rwa [a3]⟩

theorem peerResetReply_alike (s : State) (r : Reply) (k : Fin 256) : (s.tile k).alike ((s.peerResetReply r).tile k) := by
  unfold State.peerResetReply
  split
  · by_cases h : r.requester = k
    · rw [h, tile_onTile_same]; exact ⟨rfl, rfl, rfl⟩
    · rw [tile_onTile_ne _ _ h]; exact ⟨rfl, rfl, rfl⟩
  · exact ⟨rfl, rfl, rfl⟩

/-- The reset of one tile changes no more of another than its memory (R84). -/
theorem resetTile_alike (s : State) {j : Nat} {k : Fin 256} (h : j ≠ k) : (s.tile k).alike ((s.resetTile j).tile k) := by
  unfold State.resetTile
  extract_lets rs s1 _ s2 s3
  have h1 : (s.tile k).alike (s1.tile k) :=
    List.foldlRecOn (motive := fun t : State => (s.tile k).alike (t.tile k)) rs _ ⟨rfl, rfl, rfl⟩ (fun t ht r _ =>
      ht.trans (peerResetReply_alike t r k))
  have h3 : s3.tile k = s1.tile k := tile_onTile_ne s2 _ h
  rw [← h3] at h1
  clear_value s3
  split
  · exact h1
  · rw [tile_raise]; exact h1

theorem quarantine_alike (s : State) {j : Nat} (detail : Nat) {k : Fin 256} (h : j ≠ k) :
    (s.tile k).alike ((s.quarantine j detail).tile k) := by
  unfold State.quarantine
  extract_lets s1
  have h1 : (s.tile k).alike (s1.tile k) := by
    simp only [s1]
    split
    · exact resetTile_alike s h
    · exact ⟨rfl, rfl, rfl⟩
  rw [tile_raise, tile_onTile_ne _ _ h]
  exact h1

theorem serveOne_alike (s : State) {j : Nat} (r : Nat × Nat) {k : Fin 256} (h : j ≠ k) :
    (s.tile k).alike ((s.serveOne j r).tile k) := by
  refine serveOne_cases (P := fun t => (s.tile k).alike (t.tile k)) (.refl _) (quarantine_alike s r.2 h) ?_ ?_
  · rw [State.startReadmission, tile_onTile_ne _ _ h]
    exact resetTile_alike s h
  · rw [State.takeOut, tile_onTile_ne _ _ h]
    exact .refl _

/-- What a bell does to one tile changes no more of another than its memory. -/
theorem tileStep_alike (s : State) {j k : Fin 256} (h : j.val ≠ k) :
    (s.tile k).alike (((((s.alignTile j).serveRequests j).findCauses [] j)).tile k) := by
  have h1 : (s.tile k).alike ((s.alignTile j).tile k) := by
    unfold State.alignTile State.readmitted
    split
    · rw [tile_raise, tile_onTile_ne _ _ h]
      exact .refl _
    · exact .refl _
  have h2 (t : State) : (t.tile k).alike ((t.serveRequests j).tile k) := by
    unfold State.serveRequests
    refine List.foldlRecOn (motive := fun u : State => (t.tile k).alike (u.tile k)) _ _ ?_ (fun u hu r _ =>
      hu.trans (serveOne_alike u r h))
    rw [tile_onTile_ne _ _ h]
    exact .refl _
  have h3 (t : State) : (t.tile k).alike ((t.findCauses [] j).tile k) := by
    unfold State.findCauses
    extract_lets x may
    split
    · exact quarantine_alike t 3 h
    · split
      · exact quarantine_alike t 2 h
      · exact .refl _
  exact (h1.trans (h2 _)).trans (h3 _)

/-- A held tile is left by its own turn as it was. -/
theorem tileStep_held {s : State} {k : Fin 256} {m : TileMode} (h : (s.tile k).held m) :
    (((((s.alignTile k).serveRequests k).findCauses [] k)).tile k).held m := by
  obtain ⟨hreq, hmode, hm⟩ := h
  have h1 : s.alignTile k = s := by
    apply if_neg
    rintro ⟨ht, ha, _⟩
    rcases hm with hm | ⟨_, hna⟩
    · rw [hmode, hm] at ht; cases ht
    · exact hna ha
  have h2 : s.serveRequests k = s.onTile k (fun x => { x with requests := [] }) := by
    simp only [State.serveRequests, hreq, List.foldl_nil]
  have h3 : ((s.onTile k (fun x => { x with requests := [] })).tile k).held m := by
    rw [tile_onTile_same]
    exact ⟨rfl, hmode, hm⟩
  rw [h1, h2]
  generalize s.onTile k (fun x => { x with requests := [] }) = t at h3 ⊢
  have ht : (t.tile k).mode = m := h3.2.1
  have h4 : t.findCauses [] k = t := by
    unfold State.findCauses
    rcases hm with hm | ⟨hm, _⟩ <;> simp [ht, hm]
  rwa [h4]

theorem tileStates_held {s : State} {k : Fin 256} {m : TileMode} (h : (s.tile k).held m) :
    ((s.tileStates []).tile k).held m := by
  refine List.foldlRecOn (motive := fun t : State => (t.tile k).held m) _ _ h (fun t ht j _ => ?_)
  by_cases hj : j = k
  · subst hj
    exact tileStep_held ht
  · exact ht.alike (tileStep_alike t (fun e => hj (Fin.ext e)))

/-! Requests held at a channel are served when the plan stops (R191). -/

/-- The state without its memories, outputs and events. -/
def State.unserved (s : State) : State := { s with out := [], events := [], mem := {} }

theorem raise_unserved (s : State) (code source detail : Nat) : (s.raise code source detail).unserved = s.unserved := by
  unfold State.raise
  split <;> rfl

theorem noteRead_unserved (s : State) (w : Nat) : (s.noteRead 0x100 w).unserved = s.unserved := by
  unfold State.noteRead
  split
  · unfold State.countCorrected
    extract_lets src _ s1 b _ s2
    split
    split
    · exact raise_unserved s2 _ _ _
    · rfl
  · split <;> rfl
  · rfl

theorem onMemory_unserved (s : State) (f : Memory → Memory) : (s.onMemory 0x100 f).unserved = s.unserved := rfl

theorem serveHeld_unserved (s : State) : s.serveHeld.unserved = s.unserved := by
  refine (foldl_view (v := State.unserved) (fun t r => ?_) _ { s with mem := { s.mem with held := [] } }).trans rfl
  split
  · exact foldl_view (fun u k => noteRead_unserved u _) _ t
  · unfold State.windowWrite
    split <;> exact onMemory_unserved t _

theorem safeEntry_safe (s : State) : s.safeEntry.plan.safe = true := by
  unfold State.safeEntry
  split
  · assumption
  · rfl

/-- The tile at plan stop: off, or held as it was (Table TILE-6). -/
theorem stop_mode (x : TileState) : x.stop.mode = if x.mode.unusable then x.mode else .gatedOff := by
  cases h : x.mode <;> simp [TileState.stop, TileState.idle, TileMode.unusable, h]

theorem unserved_fields {s t : State} (h : t.unserved = s.unserved) : t.plan = s.plan ∧ t.tiles = s.tiles :=
  ⟨(congrArg State.plan h :), (congrArg State.tiles h :)⟩

theorem latchObjects_fields (s : State) : s.latchObjects.plan = s.plan ∧ s.latchObjects.tiles = s.tiles := ⟨rfl, rfl⟩

theorem plan_of_tilesOnly {s t : State} (h : TilesOnly s t) : t.plan = s.plan := (congrArg State.plan h.frame :)

/-- A plan's run is over: no plan and no tier, the tiles stopped; `y` has had its last changes and requests (R47). -/
theorem stopPlan_of {s y : State} (hy : (s.tileStates []).latchObjects.serveHeld = y) :
    s.stopPlan.bell.state = .stopped ∧ s.stopPlan.plan.plan = none ∧ s.stopPlan.plan.running = false
    ∧ s.stopPlan.plan.status = 0 ∧ s.stopPlan.plan.effective = 0 ∧ s.stopPlan.plan.safe = y.plan.safe
    ∧ s.stopPlan.plan.reformAfterStop = y.plan.reformAfterStop ∧ s.stopPlan.tiles = y.tiles.map TileState.stop := by
  unfold State.stopPlan
  rw [hy]
  exact ⟨rfl, rfl, rfl, rfl, rfl, rfl, rfl, rfl⟩

/-- The plan's other fields and the tiles' own changes stay. -/
theorem stopPlan_stopped (s : State) :
    s.stopPlan.bell.state = .stopped ∧ s.stopPlan.plan.plan = none ∧ s.stopPlan.plan.running = false
    ∧ s.stopPlan.plan.status = 0 ∧ s.stopPlan.plan.effective = 0 ∧ s.stopPlan.plan.safe = s.plan.safe
    ∧ s.stopPlan.plan.reformAfterStop = s.plan.reformAfterStop
    ∧ s.stopPlan.tiles = (s.tileStates []).tiles.map TileState.stop := by
  obtain ⟨hp, ht⟩ := unserved_fields (serveHeld_unserved (s.tileStates []).latchObjects)
  obtain ⟨hlp, hlt⟩ := latchObjects_fields (s.tileStates [])
  have hplan := (hp.trans hlp).trans (plan_of_tilesOnly (.tileStates s []))
  rw [← hplan, ← ht.trans hlt]
  exact stopPlan_of rfl

/-- A stop that no re-formation asked for takes every sink to its safe state first (R47). -/
theorem stopNow_eq {s : State} (h : s.plan.reformAfterStop = false) : s.stopNow = s.safeEntry.stopPlan := by
  have hre : s.safeEntry.stopPlan.plan.reformAfterStop = false := by
    obtain ⟨_, _, _, _, _, _, hr, _⟩ := stopPlan_stopped s.safeEntry
    rw [hr]
    exact (congrArg (fun u => u.plan.reformAfterStop) (safeEntry_behindSinks s) :).trans h
  unfold State.stopNow
  extract_lets r
  exact if_neg (by rw [hre]; decide)

end Sys2Proof.Machine
end

section
namespace Sys2Proof.Machine

/-! ## The bell of a device that follows no marker -/

/-- A bell that neither stops nor restarts: what the count leaves and step 2 then finds. -/
structure Counted (s u : State) : Prop where
  frame : u.unrung = s.unrung
  count : u.bell.count = s.bell.count + 1
  at_ : u.bell.at_ = s.now
  parts : ∀ q : Fin 32, Ended (s.ticks q) (vget s.parts q {}) (vget u.parts q {})

theorem rung_counted {s : State} (p : Plan) (h : s.restartDue = none) : Counted s (s.rung p) := by
  obtain ⟨hf, hc, ha, hp⟩ := rung_counts (p := p) h
  exact ⟨hf, hc, ha, fun q => by rw [hp]; exact prepared_part s q⟩

/-- What step 2 reads is what it was before the bell. -/
theorem unrung_fields {s u : State} (h : u.unrung = s.unrung) :
    u.role = s.role ∧ u.live = s.live ∧ u.events = s.events ∧ u.log = s.log ∧ u.now = s.now ∧ u.tiles = s.tiles ∧ u.mesh = s.mesh
    ∧ u.bell.state = s.bell.state :=
  ⟨(congrArg State.role h :), (congrArg State.live h :), (congrArg State.events h :), (congrArg State.log h :),
    (congrArg State.now h :), (congrArg State.tiles h :), (congrArg State.mesh h :), (congrArg (fun t => t.bell.state) h :)⟩

theorem unrung_plan {s u : State} (h : u.unrung = s.unrung) :
    u.plan.plan = s.plan.plan ∧ u.plan.status = s.plan.status ∧ u.plan.running = s.plan.running
    ∧ u.plan.effective = s.plan.effective ∧ u.plan.domainTier = s.plan.domainTier ∧ u.plan.pending = s.plan.pending
    ∧ u.plan.lastSwitch = s.plan.lastSwitch ∧ u.plan.stopAt = s.plan.stopAt ∧ u.plan.fastPath = s.plan.fastPath
    ∧ u.plan.raiseFailed = s.plan.raiseFailed ∧ u.plan.reformAfterStop = s.plan.reformAfterStop :=
  ⟨(congrArg (fun t => t.plan.plan) h :), (congrArg (fun t => t.plan.status) h :), (congrArg (fun t => t.plan.running) h :),
    (congrArg (fun t => t.plan.effective) h :), (congrArg (fun t => t.plan.domainTier) h :),
    (congrArg (fun t => t.plan.pending) h :), (congrArg (fun t => t.plan.lastSwitch) h :), (congrArg (fun t => t.plan.stopAt) h :),
    (congrArg (fun t => t.plan.fastPath) h :), (congrArg (fun t => t.plan.raiseFailed) h :),
    (congrArg (fun t => t.plan.reformAfterStop) h :)⟩

/-- What step 2 leaves as it was. -/
theorem untiered_fields {u v : State} (h : v.untiered = u.untiered) :
    v.bell = u.bell ∧ v.now = u.now ∧ v.log = u.log ∧ v.mesh = u.mesh ∧ v.drove = u.drove
    ∧ v.plan.plan = u.plan.plan ∧ v.plan.status = u.plan.status ∧ v.plan.running = u.plan.running :=
  ⟨(congrArg State.bell h :), (congrArg State.now h :), (congrArg State.log h :), (congrArg State.mesh h :),
    (congrArg State.drove h :), (congrArg (fun t => t.plan.plan) h :), (congrArg (fun t => t.plan.status) h :),
    (congrArg (fun t => t.plan.running) h :)⟩

/-- What the tick that begins leaves as step 2 chose it. -/
theorem tempo_fields {v r : State} (h : r.tempo = v.tempo) :
    r.now = v.now ∧ r.log = v.log ∧ r.bell.count = v.bell.count ∧ r.bell.at_ = v.bell.at_ ∧ r.bell.state = v.bell.state
    ∧ r.plan.plan = v.plan.plan ∧ r.plan.status = v.plan.status ∧ r.plan.running = v.plan.running
    ∧ r.plan.effective = v.plan.effective ∧ r.plan.domainTier = v.plan.domainTier ∧ r.plan.lastSwitch = v.plan.lastSwitch :=
  ⟨(congrArg (fun x => x.1.now) h :), (congrArg (fun x => x.1.log) h :), (congrArg (fun x => x.1.bell.count) h :),
    (congrArg (fun x => x.1.bell.at_) h :), (congrArg (fun x => x.1.bell.state) h :), (congrArg (fun x => x.1.plan.plan) h :),
    (congrArg (fun x => x.1.plan.status) h :), (congrArg (fun x => x.1.plan.running) h :),
    (congrArg (fun x => x.1.plan.effective) h :), (congrArg (fun x => x.1.plan.domainTier) h :),
    (congrArg (fun x => x.1.plan.lastSwitch) h :)⟩

theorem tempo_restart {v r : State} (h : r.tempo = v.tempo) (h1 : v.bell.restart = none) (h2 : v.drove.readmit = []) :
    r.bell.restart = none := by
  have hb : (r.bell.restart.isNone && r.drove.readmit.isEmpty) = (v.bell.restart.isNone && v.drove.readmit.isEmpty) :=
    (congrArg Prod.snd h :)
  rw [h1, h2] at hb
  exact Option.isNone_iff_eq_none.mp (Bool.and_eq_true_iff.mp hb).1

end Sys2Proof.Machine
end

section
namespace Sys2Proof.Machine

section
variable {s : State} {p : Plan}

/-- With no restart and no stop due a bell goes on to its tick. -/
theorem ringBell_ordinary (hd : s.restartDue = none) (hstop : s.plan.stopAt = none) (hr : s.role ≠ .member) :
    TickBegun ((s.rung p).tierStep p) (s.ringBell p []) (some s.plan.effective) := by
  obtain ⟨hframe, -, -, -⟩ := rung_counted p hd
  obtain ⟨hrole, -⟩ := unrung_fields hframe
  obtain ⟨-, -, -, -, -, -, -, hs, -⟩ := unrung_plan hframe
  exact ringBell_begun (by rw [hrole]; exact hr) (by rw [hs, hstop]; rfl)

/-- The bell counts at its instant; the plan runs on. -/
theorem ringBell_counts (hd : s.restartDue = none) (hstop : s.plan.stopAt = none) (hr : s.role ≠ .member) :
    (s.ringBell p []).bell.count = s.bell.count + 1 ∧ (s.ringBell p []).bell.at_ = s.now ∧ (s.ringBell p []).now = s.now
    ∧ (s.ringBell p []).bell.state = s.bell.state ∧ (s.ringBell p []).plan.plan = s.plan.plan
    ∧ (s.ringBell p []).plan.status = s.plan.status ∧ (s.ringBell p []).plan.running = s.plan.running
    ∧ (s.ringBell p []).log = s.log := by
  have hb := ringBell_ordinary (p := p) hd hstop hr
  obtain ⟨hframe, hcount, hat, -⟩ := rung_counted p hd
  obtain ⟨-, -, -, hulog, hunow, -, -, hustate⟩ := unrung_fields hframe
  obtain ⟨huplan, hustatus, hurun, -⟩ := unrung_plan hframe
  obtain ⟨hvbell, hvnow, hvlog, -, -, hvplan, hvstatus, hvrun⟩ := untiered_fields (tierStep_keeps (s.rung p) p).frame
  obtain ⟨hnow, hlog, hc, ha, hst, hpl, hstat, hrun, -⟩ := tempo_fields hb.keeps.frame
  rw [hvbell] at hc ha hst
  exact ⟨hc.trans hcount, ha.trans hat, hnow.trans (hvnow.trans hunow), hst.trans hustate, hpl.trans (hvplan.trans huplan),
    hstat.trans (hvstatus.trans hustatus), hrun.trans (hvrun.trans hurun), hlog.trans (hvlog.trans hulog)⟩

/-- What the count, the tier and the new tick together do to a partition's record. -/
theorem ringBell_part (hd : s.restartDue = none) (hstop : s.plan.stopAt = none) (hr : s.role ≠ .member) (q : Fin 32) :
    ∃ y, Ended (s.ticks q) (vget s.parts q {}) y ∧ PartTick y (vget (s.ringBell p []).parts q {}) :=
  ⟨_, (rung_counted p hd).parts q,
    ((tierStep_keeps (s.rung p) p).parts q).trans ((ringBell_ordinary hd hstop hr).keeps.parts q)⟩

end

/-- A record that has ended its tick and asks for no reset is that of a partition that starts again. -/
theorem Ended.restarts {b : Bool} {x y z : PartState} (h : Ended b x y) (g : PartTick y z) (hq : x.resetRequest = false)
    (hr : x.resetting = false) :
    z.overrun = false ∧ z.failed = false ∧ z.prevBad = (x.overrun || x.failed)
    ∧ z.completed = if b && !(x.overrun || x.failed) then x.completed + 1 else x.completed := by
  obtain ⟨ho, hf, hb, -, -⟩ := g.marks (h.resetRequest.trans hq) (h.resetting.trans hr)
  exact ⟨ho.trans h.overrun, hf.trans h.failed, hb.trans (by rw [h.prevBad, hr, Bool.or_false]), g.completed.trans h.completed⟩

/-- A completed tick ends a row of overruns (R25). -/
theorem Ended.clears {b : Bool} {x y z : PartState} (h : Ended b x y) (g : PartTick y z) (hb : b = true) (ho : x.overrun = false)
    (hf : x.failed = false) : z.overruns = 0 :=
  g.overruns.elim (·.trans (h.overruns hb ho hf)) id

/-! The tier of the tick that begins (R53, R54, R57) -/

section
variable {s : State} {p : Plan}

theorem toNat_add_one_le (c : BitVec 64) : (c + 1).toNat ≤ c.toNat + 1 := by
  bv_omega

/-- What step 2 finds of the switches. -/
theorem rung_tiers (hd : s.restartDue = none) :
    (s.rung p).bell.state = s.bell.state ∧ (s.rung p).live = s.live ∧ (s.rung p).plan.effective = s.plan.effective
    ∧ (s.rung p).plan.domainTier = s.plan.domainTier ∧ (s.rung p).plan.pending = s.plan.pending
    ∧ (s.rung p).plan.lastSwitch = s.plan.lastSwitch ∧ (s.rung p).plan.fastPath = s.plan.fastPath
    ∧ (s.rung p).plan.raiseFailed = s.plan.raiseFailed := by
  obtain ⟨hframe, -, -, -⟩ := rung_counted p hd
  obtain ⟨-, hlive, -, -, -, -, -, hstate⟩ := unrung_fields hframe
  obtain ⟨-, -, -, he, hdom, hpend, hlast, -, hfast, hfail, -⟩ := unrung_plan hframe
  exact ⟨hstate, hlive, he, hdom, hpend, hlast, hfast, hfail⟩

/-- Without a switch that is due step 2 only spends its marks. -/
theorem rung_tierStep_none (hd : s.restartDue = none) (hs : s.bell.state = .source) (hf : s.plan.fastPath = false)
    (hr : s.plan.raiseFailed = none) (hw : ∀ w, s.plan.pending = some w → s.bell.count.toNat + 1 < w.bell) :
    (s.rung p).tierStep p = (s.rung p).spendMarks := by
  obtain ⟨hstate, -, -, -, hpend, -, hfast, hfail⟩ := rung_tiers (p := p) hd
  have hc := (rung_counted p hd).count
  refine tierStep_none (by rw [hstate, hs]; decide) (hfast.trans hf) (hfail.trans hr) (fun w h => ?_)
  rw [hc]
  exact Nat.lt_of_le_of_lt (toNat_add_one_le _) (hw w (hpend.symm.trans h))

/-- A tick's tier and last switch are those that step 2 left. -/
theorem ringBell_tier (hd : s.restartDue = none) (hstop : s.plan.stopAt = none) (hr : s.role ≠ .member) :
    (s.ringBell p []).plan.effective = ((s.rung p).tierStep p).plan.effective
    ∧ (s.ringBell p []).plan.domainTier = ((s.rung p).tierStep p).plan.domainTier
    ∧ (s.ringBell p []).plan.lastSwitch = ((s.rung p).tierStep p).plan.lastSwitch := by
  obtain ⟨-, -, -, -, -, -, -, -, he, hdom, hlast⟩ := tempo_fields (ringBell_ordinary (p := p) hd hstop hr).keeps.frame
  exact ⟨he, hdom, hlast⟩

theorem spendMarks_tier (u : State) :
    u.spendMarks.plan.effective = u.plan.effective ∧ u.spendMarks.plan.lastSwitch = u.plan.lastSwitch := ⟨rfl, rfl⟩

/-- The tier stays without a switch that is due. -/
theorem ringBell_stays (hd : s.restartDue = none) (hstop : s.plan.stopAt = none) (hr : s.role ≠ .member)
    (hs : s.bell.state = .source) (hf : s.plan.fastPath = false) (hfail : s.plan.raiseFailed = none)
    (hw : ∀ w, s.plan.pending = some w → s.bell.count.toNat + 1 < w.bell) :
    (s.ringBell p []).plan.effective = s.plan.effective ∧ (s.ringBell p []).plan.lastSwitch = s.plan.lastSwitch := by
  obtain ⟨he, -, hlast⟩ := ringBell_tier (p := p) hd hstop hr
  obtain ⟨-, -, hue, -, -, hulast, -, -⟩ := rung_tiers (p := p) hd
  obtain ⟨hse, hslast⟩ := spendMarks_tier (s.rung p)
  rw [rung_tierStep_none hd hs hf hfail hw] at he hlast
  rw [hse] at he
  rw [hslast] at hlast
  exact ⟨he.trans hue, hlast.trans hulast⟩

theorem logCount_of_source {u : State} (h : u.bell.state = .source) : u.logCount = u.bell.count := by
  rw [State.logCount, h]
  rfl

/-- The count of an entry logged while the bell rings. -/
theorem rung_logCount (hd : s.restartDue = none) (hs : s.bell.state = .source) : (s.rung p).logCount = s.bell.count + 1 := by
  obtain ⟨hframe, hc, -, -⟩ := rung_counted p hd
  obtain ⟨-, -, -, -, -, -, -, hstate⟩ := unrung_fields hframe
  rw [logCount_of_source (hstate.trans hs), hc]

/-- Step 2 carries out the switch that is due: the tier on the device and in the domain, the entry, no overrun counts. -/
theorem tierStep_switches {u : State} {w : PendingSwitch} (hl : u.live = true) (ho : u.bell.state ≠ .orphaned)
    (hf : u.plan.fastPath = false) (hfail : u.plan.raiseFailed = none) (hw : u.plan.pending = some w)
    (hb : w.bell ≤ u.bell.count.toNat) (hdom : u.plan.effective = u.plan.domainTier) :
    (u.tierStep p).plan.effective = w.tier ∧ (u.tierStep p).plan.domainTier = w.tier
    ∧ (u.tierStep p).plan.lastSwitch = u.bell.count.toNat
    ∧ { code := 0x1010, source := w.cause, detail := u.plan.effective * 256 + w.tier, count := u.logCount } ∈ (u.tierStep p).events
    ∧ ∀ q : Fin 32, (vget (u.tierStep p).parts q {}).overruns = 0 := by
  rw [tierStep_due ho hf hfail hw hb hdom]
  have hlog := switchTo_logs (s := (u.domainSwitch w).spendMarks) p w.tier w.cause hl
  obtain ⟨hk, he⟩ := switchTo_keeps (u.domainSwitch w).spendMarks p w.tier w.cause
  have hz := switchTo_overruns (u.domainSwitch w).spendMarks p w.tier w.cause
  generalize (u.domainSwitch w).spendMarks.switchTo p w.tier w.cause = v at *
  have hd : v.plan.domainTier = w.tier := (congrArg (fun t => t.plan.domainTier) hk.frame :)
  have hlast : v.plan.lastSwitch = u.bell.count.toNat := (congrArg (fun t => t.plan.lastSwitch) hk.frame :)
  exact ⟨he, hd, hlast, hlog, hz⟩

/-- A switch for this bell takes effect and is logged, also the one to the tier in force. -/
theorem ringBell_switches {w : PendingSwitch} (hd : s.restartDue = none) (hstop : s.plan.stopAt = none) (hr : s.role ≠ .member)
    (hl : s.live = true) (hs : s.bell.state = .source) (hf : s.plan.fastPath = false) (hfail : s.plan.raiseFailed = none)
    (hw : s.plan.pending = some w) (hdom : s.plan.effective = s.plan.domainTier) (hb : w.bell = s.bell.count.toNat + 1)
    (hc : s.bell.count.toNat + 1 < 2 ^ 64) :
    (s.ringBell p []).plan.effective = w.tier ∧ (s.ringBell p []).plan.domainTier = w.tier
    ∧ (s.ringBell p []).plan.lastSwitch = (s.bell.count.toNat + 1 : Nat)
    ∧ { code := 0x1010, source := w.cause, detail := s.plan.effective * 256 + w.tier, count := s.bell.count + 1 }
        ∈ (s.ringBell p []).events
    ∧ ∀ q : Fin 32, (vget (s.ringBell p []).parts q {}).overruns = 0 := by
  have hk := (ringBell_ordinary (p := p) hd hstop hr).keeps
  obtain ⟨he, hrdom, hrlast⟩ := ringBell_tier (p := p) hd hstop hr
  obtain ⟨hstate, hlive, hue, hudom, hupend, -, hufast, hufail⟩ := rung_tiers (p := p) hd
  have hcount : (s.rung p).bell.count.toNat = s.bell.count.toNat + 1 := by
    rw [(rung_counted p hd).count]
    bv_omega
  obtain ⟨hve, hvdom, hvlast, hvlog, hvz⟩ := tierStep_switches (p := p) (hlive.trans hl) (by rw [hstate, hs]; decide)
    (hufast.trans hf) (hufail.trans hfail) (hupend.trans hw) (by omega) (by rw [hue, hudom, hdom])
  rw [hue, rung_logCount hd hs] at hvlog
  exact ⟨he.trans hve, hrdom.trans hvdom, by rw [hrlast, hvlast, hcount], hk.events hvlog,
    fun q => (hk.parts q).overruns.elim (·.trans (hvz q)) id⟩

/-- The fast path takes tier 7 without notice. -/
theorem ringBell_fast (hd : s.restartDue = none) (hstop : s.plan.stopAt = none) (hr : s.role ≠ .member) (hl : s.live = true)
    (hs : s.bell.state = .source) (hf : s.plan.fastPath = true) :
    (s.ringBell p []).plan.effective = p.resolve 7
    ∧ { code := 0x1010, source := 6, detail := s.plan.effective * 256 + p.resolve 7, count := s.bell.count + 1 }
        ∈ (s.ringBell p []).events := by
  have hk := (ringBell_ordinary (p := p) hd hstop hr).keeps
  obtain ⟨he, -, -⟩ := ringBell_tier (p := p) hd hstop hr
  obtain ⟨hstate, hlive, hue, -, -, -, hufast, -⟩ := rung_tiers (p := p) hd
  obtain ⟨hve, hvlog⟩ := tierStep_fast p (by rw [hstate, hs]; decide) (hufast.trans hf) (hlive.trans hl)
  rw [hue, rung_logCount hd hs] at hvlog
  exact ⟨he.trans hve, hk.events hvlog⟩

/-! ## A stop that is due, a restart that is due -/

/-- The stop at the bell whose number it names. -/
theorem ringBell_stops {b : Nat} (hd : s.restartDue = none) (hr : s.role ≠ .member) (hstop : s.plan.stopAt = some b)
    (hb : b ≤ s.bell.count.toNat + 1) (hc : s.bell.count.toNat + 1 < 2 ^ 64) (hre : s.plan.reformAfterStop = false) :
    s.ringBell p [] = (s.rung p).safeEntry.stopPlan := by
  obtain ⟨hframe, hcount, -, -⟩ := rung_counted p hd
  obtain ⟨hrole, -⟩ := unrung_fields hframe
  obtain ⟨-, -, -, -, -, -, -, hs, -, -, hure⟩ := unrung_plan hframe
  have hn : (s.rung p).bell.count.toNat = s.bell.count.toNat + 1 := by
    rw [hcount]
    bv_omega
  have hdue : (s.rung p).plan.stopAt.any (fun b => decide (b ≤ (s.rung p).bell.count.toNat)) = true := by
    rw [hs, hstop, hn]
    exact decide_eq_true hb
  rw [ringBell_stopping (by rw [hrole]; exact hr) hdue, stopNow_eq (hure.trans hre)]

/-- A stop leaves no tile running. -/
theorem stopPlan_tile (s : State) (k : Fin 256) : (s.stopPlan.tile k) = ((s.tileStates []).tile k).stop := by
  obtain ⟨-, -, -, -, -, -, -, ht⟩ := stopPlan_stopped s
  rw [State.tile, ht]
  exact vget_map _ TileState.stop {} {} k.isLt

theorem stop_idle (x : TileState) : x.stop.mode ≠ .active ∧ x.stop.mode ≠ .gatedRetain := by
  rw [stop_mode]
  cases x.mode <;> decide

/-- A held tile outlasts the stop. -/
theorem stop_held {x : TileState} {m : TileMode} (h : x.held m) : x.stop.mode = m := by
  obtain ⟨-, rfl, hm⟩ := h
  rw [stop_mode]
  apply if_pos
  rcases hm with hm | ⟨hm, -⟩ <;> rw [hm] <;> rfl

theorem safeEntry_tile (s : State) (k : Fin 256) : s.safeEntry.tile k = s.tile k :=
  (congrArg (fun u => u.tile k) (safeEntry_behindSinks s) :)

theorem rung_tile (hd : s.restartDue = none) (k : Fin 256) : (s.rung p).tile k = s.tile k := by
  obtain ⟨-, -, -, -, -, ht, -⟩ := unrung_fields (rung_counted p hd).frame
  rw [State.tile, State.tile, ht]

/-- The bell that restarts the count. -/
theorem ringBell_restarts {c : Nat} (hd : s.restartDue = some c) (hstop : s.plan.stopAt = none) (hr : s.role ≠ .member)
    (hl : s.live = true) (hs : s.bell.state = .source) :
    (s.ringBell p []).bell.count = 0 ∧ (s.ringBell p []).bell.at_ = s.now ∧ (s.ringBell p []).log = s.log
    ∧ (s.drove.readmit = [] → (s.ringBell p []).bell.restart = none)
    ∧ { code := 0x1004, source := 0x1FF, detail := c, count := 0 } ∈ (s.ringBell p []).events
    ∧ ∀ q : Fin 32, (vget (s.ringBell p []).parts q {}).completed = 0 := by
  obtain ⟨h, hat⟩ := rung_restarts (p := p) hd (by rw [hs]; decide)
  have hb : TickBegun ((s.rung p).tierStep p) (s.ringBell p []) (some s.plan.effective) :=
    ringBell_begun (by rw [h.role]; exact hr) (by rw [h.stopAt hstop]; rfl)
  have hv := tierStep_keeps (s.rung p) p
  obtain ⟨hvbell, -, hvlog, -, hvdrove, -⟩ := untiered_fields hv.frame
  obtain ⟨-, hlog, hc, ha, -⟩ := tempo_fields hb.keeps.frame
  refine ⟨?_, ?_, ?_, fun hm => ?_, hb.keeps.events (hv.events (h.logged hl (by rw [hs]; decide))), fun q => ?_⟩
  · rw [hc, hvbell, h.count]
  · rw [ha, hvbell, hat]
  · rw [hlog, hvlog, h.log]
  · exact tempo_restart hb.keeps.frame (by rw [hvbell, h.restart]) (by rw [hvdrove, h.readmit, hm])
  · rw [((hv.parts q).trans (hb.keeps.parts q)).completed, h.ticks q]

end

end Sys2Proof.Machine
end

section
namespace Sys2Proof.Machine

/-! ## What the command leaves -/

section
variable (s r : State)

@[simp] theorem finished_bell : (s.finished r).bell = r.bell := settle_bell r
@[simp] theorem finished_plan : (s.finished r).plan = r.plan := settle_plan r
@[simp] theorem finished_now : (s.finished r).now = r.now := settle_now r
@[simp] theorem finished_mesh : (s.finished r).mesh = r.mesh := settle_mesh r
@[simp] theorem finished_drove : (s.finished r).drove = r.drove := settle_drove r
@[simp] theorem finished_parts : (s.finished r).parts = r.parts := settle_parts r

@[simp] theorem finished_tile (k : Nat) : (s.finished r).tile k = r.tile k :=
  congrArg (fun ts : Vector TileState 256 => vget ts k {}) (settle_tiles r)

@[simp] theorem finished_port (q : Nat) : (s.finished r).port q = r.port q := by
  rw [State.port, State.port, finished_drove]

end

/-- Without a plan. -/
theorem bell_idle {s : State} (now : Nat) (hl : s.live = true) (hp : s.plan.plan = none) :
    exec (.bell now [] []) s = .next (s.opened now)
    ∧ ∀ u : Upset, (s.memory u.memory).mark u.word = none → exec (.bell now [] [u]) s
        = .next ((s.opened now).onMemory u.memory (fun m =>
            m.setMark u.word (some (if u.double then .uncorrectable else .correctable)))) := by
  refine ⟨exec_bell_idle now [] hl hp, fun u hu => ?_⟩
  have hu' : ((s.opened now).memory u.memory).mark u.word = none := hu
  rw [exec_bell_idle now [u] hl hp, List.foldl_cons, List.foldl_nil, upset_unmarked hu']

/-- The cells of the tick that ended are still there when the new tick carries them (R22). -/
theorem rung_emitted {s : State} {p : Plan} (hd : s.restartDue = none) :
    ((s.rung p).tierStep p).mesh.emitted = s.mesh.emitted := by
  obtain ⟨-, -, -, hv, -⟩ := untiered_fields (tierStep_keeps (s.rung p) p).frame
  obtain ⟨-, -, -, -, -, -, hu, -⟩ := unrung_fields (rung_counted p hd).frame
  rw [hv, hu]

/-- A bell with a stop due: the state it leaves, and each tile of it. -/
theorem bell_stops {s : State} {p : Plan} {b : Nat} (hd : s.restartDue = none) (hr : s.role ≠ .member) (hstop : s.plan.stopAt = some b)
    (hb : b ≤ s.bell.count.toNat + 1) (hc : s.bell.count.toNat + 1 < 2 ^ 64) (hre : s.plan.reformAfterStop = false) :
    (s.ringBell p []).bell.state = .stopped ∧ (s.ringBell p []).plan.plan = none ∧ (s.ringBell p []).plan.running = false
    ∧ (s.ringBell p []).plan.status = 0 ∧ (s.ringBell p []).plan.effective = 0 ∧ (s.ringBell p []).plan.safe = true
    ∧ (∀ k : Fin 256, ((s.ringBell p []).tile k).mode ≠ .active ∧ ((s.ringBell p []).tile k).mode ≠ .gatedRetain)
    ∧ ∀ k : Fin 256, ∀ m, (s.tile k).held m → ((s.ringBell p []).tile k).mode = m := by
  rw [ringBell_stops hd hr hstop hb hc hre]
  obtain ⟨h1, h2, h3, h4, h5, h6, -, -⟩ := stopPlan_stopped (s.rung p).safeEntry
  refine ⟨h1, h2, h3, h4, h5, h6.trans (safeEntry_safe _), fun k => ?_, fun k m hm => ?_⟩
  · rw [stopPlan_tile]
    exact stop_idle _
  · rw [stopPlan_tile]
    refine stop_held (tileStates_held ?_)
    rw [safeEntry_tile, rung_tile hd]
    exact hm

/-- Settles O9: the tick's end, the count, step 2 and the new tick each say what they leave; a bell is their composition. -/
theorem bellCountsSwitchesAndStartsTheTick : Obligations.BellCountsSwitchesAndStartsTheTick := by
  intro s now hl
  refine ⟨bell_idle now hl, fun p hp hs hr => ⟨?_, ?_, ?_⟩⟩
  case' refine_1 => intro e he hd hstop
  case' refine_2 => intro b hstop hb hd hc hre
  case' refine_3 => intro c hd hstop
  all_goals
    refine ⟨_, exec_bell now hl hp hs hr, ?_⟩
    simp only [finished_bell, finished_plan, finished_now, finished_mesh, finished_drove, finished_parts, finished_tile, finished_port,
      finished_obj]
  case refine_1 =>
    subst he
    have hd0 : (s.opened now).restartDue = none := hd
    obtain ⟨hcount, hat, hnow, hstate, hplan, hstatus, hrun, hlog⟩ := ringBell_counts (p := p) hd0 hstop hr
    obtain ⟨-, hout, hidle, ⟨htr, hre, hem, hca, hct⟩, ⟨hce, hde⟩, hports⟩ := ringBell_ordinary (p := p) hd0 hstop hr
    have hemit := rung_emitted (p := p) hd0
    have hpart := ringBell_part (p := p) hd0 hstop hr
    have hstays := ringBell_stays (p := p) hd0 hstop hr hs
    have hsw {w} := ringBell_switches (w := w) (p := p) hd0 hstop hr hl hs
    have hfast := ringBell_fast (p := p) hd0 hstop hr hl hs
    generalize ((s.opened now).rung p).tierStep p = v at *
    generalize (s.opened now).ringBell p [] = r at *
    refine ⟨hcount, hat, hnow, hstate.trans hs, hplan.trans hp, hstatus, hrun, hout, hidle, htr, hre, hem, hca.trans hemit, hct, hce, hde,
      hports, ?_, ?_, ?_⟩
    · rintro q x rfl hreq hres
      obtain ⟨y, hy, hz⟩ := hpart q
      exact hy.restarts hz hreq hres
    · intro hf hfail
      refine ⟨fun hw => ⟨?_, fun q hq ho hfq => ?_⟩, fun w hw hdom => ⟨fun hlt => ?_, fun hb hc => ?_⟩⟩
      · exact (hstays hf hfail fun w h => by cases hw.symm.trans h).1
      · obtain ⟨y, hy, hz⟩ := hpart q
        exact hy.clears hz hq ho hfq
      · exact hstays hf hfail fun w' h => by cases hw.symm.trans h; exact hlt
      · obtain ⟨h1, h2, h3, h4, h5⟩ := hsw hf hfail hw hdom hb hc
        exact ⟨h1, h2, h3, finished_logged hlog h4, h5⟩
    · intro hf
      obtain ⟨h1, h2⟩ := hfast hf
      exact ⟨h1, finished_logged hlog h2⟩
  case refine_2 =>
    obtain ⟨hstate, hplan, hrun, hstatus, he, hsafe, htiles, hheld⟩ := bell_stops (s := s.opened now) (p := p) hd hr hstop hb hc hre
    exact ⟨hstate, hplan, hrun, hstatus, he, hsafe, htiles, fun k hreq hmode => hheld k _ ⟨hreq, rfl, hmode⟩⟩
  case refine_3 =>
    obtain ⟨hcount, hat, hlog, hrestart, hev, hz⟩ := ringBell_restarts (s := s.opened now) (p := p) hd hstop hr hl hs
    exact ⟨hcount, hat, hrestart, finished_logged hlog hev, hz⟩

end Sys2Proof.Machine
end
